-- ==== Sys2Proof/Word.lean ====
section
/-!
DEFINITION. The word types of the AJ1648 and nothing else.
A word is 32 bits (00_scope "Notation"); an accumulator holds Q17.63 in 80 bits (02 R45, R84).
-/

namespace Sys2Proof

/-- A word of 32 bits. -/
abbrev Word := BitVec 32

/-- A coefficient pointer or another half word (02 R47). -/
abbrev Half := BitVec 16

/-- A byte of memory. -/
abbrev Byte := BitVec 8

/-- An accumulator, Q17.63 (02 R45, R84). -/
abbrev Acc := BitVec 80

/-- Identifiers of the parts of the device: sample cores, rate groups, banks, Ronzu ports. -/
abbrev CoreId := Fin 16
abbrev GroupId := Fin 4
abbrev BankId := Fin 16
abbrev LinkId := Fin 4
abbrev PortId := Fin 16

end Sys2Proof
end

