-- ==== Sys2Proof/Syntax.lean ====
section
/-!
DEFINITION. The commands of the AJ1648: one constructor for each row of spec/opcode_table.json, with its operands.
A core operation carries where it issues; a register-write command is the landed write; an event command carries what
the outside or the timing supplies. Nothing here says what a command does.
-/

namespace Sys2Proof

/-- A local memory of a core (18 R738, R756). -/
inductive CoreMem where
  | prog | coef | state
  deriving DecidableEq, Repr

/-- A check of a core that fails (18 R736, R756): what was checked and, for a local memory, the word and its half. -/
inductive CheckFail where
  | multiplier | dataUnit | accParity | fileParity
  | memory (m : CoreMem) (word : Half) (half : Bool)
  | crossbar | safePath
  deriving DecidableEq, Repr

/-- Where a core command issues: core `core`, bundle index `bundle` of the sample's program, GUARD field `guard` (03 R112, R116).
During a crossfade the index counts old program, seam of 32 and new program in one row (06 R271). -/
structure Issue where
  core : CoreId
  bundle : Nat
  guard : Fin 4
  /-- A check that fails in the cycle in which the bundle issues (18 R737). -/
  fail : Option CheckFail := none
  deriving DecidableEq, Repr

/-- Fields of MAC4, MAC2C and MAC2D (03 R130). -/
structure QuadMul where
  q : Fin 4
  d : Fin 32
  k : Fin 8
  acc : Bool
  neg : Bool
  cf : Bool
  kinc : Fin 4
  deriving DecidableEq, Repr

/-- Fields of MAC1 (03 R131). -/
structure SingleMul where
  a : Fin 16
  d : Fin 32
  k : Fin 8
  acc : Bool
  neg : Bool
  cf : Bool
  kinc : Fin 4
  deriving DecidableEq, Repr

/-- Fields of MULD (03 R132). -/
structure DataMul where
  a : Fin 16
  d : Fin 32
  s : Fin 32
  acc : Bool
  neg : Bool
  deriving DecidableEq, Repr

/-- Fields of ACONV (03 R137). -/
structure Convert where
  a : Fin 16
  d : Fin 32
  rm : Fin 4
  sat : Bool
  sh : Fin 8
  deriving DecidableEq, Repr

/-- Destination and source accumulator of AOP (03 R137). -/
structure AccPair where
  a : Fin 16
  b : Fin 16
  deriving DecidableEq, Repr

/-- Fields of ASH: the shift amount is a signed number of 6 bits (03 R137, R140). -/
structure AccShift where
  a : Fin 16
  b : Fin 16
  n : BitVec 6
  deriving DecidableEq, Repr

/-- Fields of ALD (03 R137). -/
structure AccLoad where
  a : Fin 16
  d : Fin 32
  acc : Bool
  neg : Bool
  deriving DecidableEq, Repr

/-- Destination, two sources and SAT of a data operation (03 R142). -/
structure Data3 where
  d : Fin 32
  a : Fin 32
  b : Fin 32
  sat : Bool
  deriving DecidableEq, Repr

/-- Destination and two sources of a data operation without SAT (03 R142, R144, R147). -/
structure Logic3 where
  d : Fin 32
  a : Fin 32
  b : Fin 32
  deriving DecidableEq, Repr

/-- Destination and one source (LOG_NOT; 03 R144). -/
structure Logic2 where
  d : Fin 32
  a : Fin 32
  deriving DecidableEq, Repr

/-- Destination, one source and SAT (MMX_ABS, MMX_NEG; 03 R147). -/
structure Data2 where
  d : Fin 32
  a : Fin 32
  sat : Bool
  deriving DecidableEq, Repr

/-- Fields of SHI (03 R145). -/
structure ShiftImm where
  d : Fin 32
  a : Fin 32
  n : BitVec 6
  sat : Bool
  logical : Bool
  deriving DecidableEq, Repr

/-- Fields of SEL (03 R149). -/
structure Select where
  d : Fin 32
  a : Fin 32
  b : Fin 32
  p : Fin 8
  inv : Bool
  deriving DecidableEq, Repr

/-- The condition codes of CMP and PCMPZ (03 R150). -/
inductive Cond where
  | eq | ne | lt | ge | le | gt
  deriving DecidableEq, Repr

/-- The condition codes of PACC (03 R155). -/
inductive AccCond where
  | neg | zero | pos | ovr
  deriving DecidableEq, Repr

/-- Fields of CMP (03 R150). -/
structure Compare where
  t : Fin 8
  a : Fin 32
  b : Fin 32
  cond : Cond
  uns : Bool
  deriving DecidableEq, Repr

/-- Fields of LDS and STS (04 R167): the data register is one of D0 to D15. -/
structure StateAccess where
  d : Fin 16
  addr : BitVec 14
  deriving DecidableEq, Repr

/-- Fields of LDC (04 R167). -/
structure CoefLoad where
  d : Fin 32
  k : Fin 8
  kinc : Fin 4
  deriving DecidableEq, Repr

/-- Fields of LDG and STG (04 R167). -/
structure SharedAccess where
  d : Fin 32
  g : Fin 16
  off : BitVec 6
  deriving DecidableEq, Repr

/-- Fields of DTAP (04 R167). -/
structure DelayTap where
  d : Fin 32
  g : Fin 16
  dly : Fin 32
  deriving DecidableEq, Repr

/-- Fields of LDQ (04 R167). -/
structure QuadLoad where
  qd : Fin 8
  g : Fin 16
  off : BitVec 6
  deriving DecidableEq, Repr

/-- Fields of DTAPI (04 R167). -/
structure InterpTap where
  a : Fin 16
  g : Fin 16
  dly : Fin 32
  acc : Bool
  neg : Bool
  deriving DecidableEq, Repr

/-- Generator and signed immediate of GADD (04 R165). -/
structure GenAdd where
  g : Fin 16
  imm : BitVec 7
  deriving DecidableEq, Repr

/-- Generator and data register of GMOV (04 R165). -/
structure GenMove where
  g : Fin 16
  d : Fin 32
  deriving DecidableEq, Repr

/-- Fields of KADD (03 R151, R152). -/
structure PtrAdd where
  k : Fin 8
  imm : BitVec 9
  deriving DecidableEq, Repr

/-- Fields of KMOV (03 R151). -/
structure PtrMove where
  k : Fin 8
  d : Fin 32
  deriving DecidableEq, Repr

/-- Fields of MOV (03 R151). -/
structure Move where
  d : Fin 32
  s : Fin 32
  deriving DecidableEq, Repr

/-- Fields of MOVI (03 R151). -/
structure MoveImm where
  d : Fin 32
  imm : BitVec 7
  deriving DecidableEq, Repr

/-- Fields of CMOV (03 R151): the predicate is P(4 + ps). -/
structure CondMove where
  d : Fin 32
  s : Fin 32
  ps : Fin 4
  deriving DecidableEq, Repr

/-- Fields of PCMPZ (03 R151). -/
structure PredCompare where
  t : Fin 8
  a : Fin 32
  cond : Cond
  deriving DecidableEq, Repr

/-- Fields of PLOG with two sources (03 R151, R154). -/
structure Pred3 where
  t : Fin 8
  a : Fin 8
  b : Fin 8
  deriving DecidableEq, Repr

/-- Fields of PLOG NOT (03 R154). -/
structure Pred2 where
  t : Fin 8
  a : Fin 8
  deriving DecidableEq, Repr

/-- Fields of PACC (03 R151, R155). -/
structure PredAcc where
  t : Fin 8
  a : Fin 16
  cond : AccCond
  deriving DecidableEq, Repr

/-- Fields of an immediate bundle that loads a D register (03 R115). -/
structure ImmD where
  d : Fin 32
  imm : Word
  deriving DecidableEq, Repr

/-- Fields of an immediate bundle that loads a K pointer (03 R115). -/
structure ImmK where
  k : Fin 8
  imm : Half
  deriving DecidableEq, Repr

/-- The slots of a bundle (03 R112). The immediate of an immediate bundle takes the place of MAC and MEM (R115). -/
inductive Slot where
  | mac | mem | aux
  deriving DecidableEq, Repr

/-- The operations a slot can hold (03 R129, R139, R144, R151, R154; 04 R165, R167). -/
inductive CoreOp where
  | mac4 (f : QuadMul) | mac2c (f : QuadMul) | mac2d (f : QuadMul) | mac1 (f : SingleMul) | muld (f : DataMul)
  | aconv (f : Convert)
  | aopMov (f : AccPair) | aopAdd (f : AccPair) | aopSub (f : AccPair) | aopNeg (f : AccPair) | aopAbs (f : AccPair)
  | aopClr (a : Fin 16) | aopClrq (a : Fin 16)
  | ash (f : AccShift) | ald (f : AccLoad)
  | add (f : Data3) | sub (f : Data3)
  | logAnd (f : Logic3) | logOr (f : Logic3) | logXor (f : Logic3) | logAndn (f : Logic3) | logNot (f : Logic2)
  | shvArithmetic (f : Data3) | shvLogical (f : Logic3) | shi (f : ShiftImm)
  | mmxMin (f : Logic3) | mmxMax (f : Logic3) | mmxAbs (f : Data2) | mmxNeg (f : Data2)
  | sel (f : Select) | cmp (f : Compare) | clip (f : Data3)
  | immD (f : ImmD) | immK (f : ImmK)
  | lds (f : StateAccess) | sts (f : StateAccess) | ldc (f : CoefLoad)
  | ldg (f : SharedAccess) | stg (f : SharedAccess) | dtap (f : DelayTap) | ldq (f : QuadLoad) | dtapi (f : InterpTap)
  | gaddIndex (f : GenAdd) | gaddLine (f : GenAdd)
  | gmovIndexSet (f : GenMove) | gmovIndexGet (f : GenMove) | gmovLineSet (f : GenMove) | gmovLineGet (f : GenMove)
  | kadd (f : PtrAdd) | kmovToK (f : PtrMove) | kmovToD (f : PtrMove)
  | mov (f : Move) | movi (f : MoveImm) | cmov (f : CondMove)
  | pcmpz (f : PredCompare)
  | plogAnd (f : Pred3) | plogOr (f : Pred3) | plogXor (f : Pred3) | plogAndn (f : Pred3) | plogNot (f : Pred2)
  | plogSet (t : Fin 8) | plogClr (t : Fin 8)
  | pacc (f : PredAcc)
  deriving DecidableEq, Repr

/-- The crossbar access whose parity check failed (18 R748): a read of a core by the bundle index at which it is due, the newest
write of a core to a bank, or an access of another requester. -/
inductive XbarAccess where
  | coreRead (c : CoreId) (due : Nat)
  | coreWrite (c : CoreId) (b : BankId)
  | other (who : Nat) (b : BankId) (word : Nat) (write : Bool)
  deriving DecidableEq, Repr

/-- A segment of a link frame: 64 slot words, header and CRC (11 R472). -/
structure LinkSeg where
  words : List Word
  header : Word
  crc : Word
  deriving DecidableEq, Repr

/-- A retry entry of a link frame: descriptor bits 31:0, link index of the original frame, and the segment (11 R473). -/
structure LinkRetry where
  desc : Word
  idx : Word
  seg : LinkSeg
  deriving DecidableEq, Repr

/-- A frame of a Ronzu link: index and byte 7 of the frame start, the 64 control words, segments and retry entries
(11 R468 to R473). -/
structure LinkFrame where
  index : Nat
  fsCode : Byte
  cf : List Word
  segs : List LinkSeg
  retries : List LinkRetry
  deriving DecidableEq, Repr

/-- What the error check of a bank read finds: nothing, or an error in one of the words read (05 R217 to R219). -/
inductive MemErr where
  | clean
  | correctable (k : Fin 4)
  | uncorrectable (k : Fin 4)
  deriving DecidableEq, Repr

/-- A bank read of a requester other than a core, which that requester's own command makes (05 R208; 18 R750): the requester, 16
to 19, and the word. -/
structure OtherRead where
  who : Fin 4
  word : Nat
  deriving DecidableEq, Repr

/-- A UDP datagram of IPv4: source and destination address, destination port and payload (12 R539, R547). -/
structure Datagram where
  src : Nat
  dst : Nat
  sport : Nat
  dport : Nat
  payload : List Byte
  deriving DecidableEq, Repr

/-- Frames of a network lane that are no stream packet, PTP message, control message or wake frame (12 R533 to R535). -/
inductive LaneKind where
  /-- Clause 31 pause. -/
  | pause
  /-- A multicast frame to a group. -/
  | multicast (group : Nat)
  /-- A fragment of an IPv4 datagram. -/
  | fragment
  /-- An ARP request for an address. -/
  | arp (ip : Nat) (asker : Nat)
  /-- An ICMP echo request to an address. -/
  | icmpEcho (src dst : Nat) (data : List Byte)
  /-- An IGMP query, of version 2 or 3. -/
  | igmpQuery (v2 : Bool)
  /-- The acknowledgement of a DHCPv4 lease. -/
  | dhcpAck (ip : Nat)
  /-- Anything else. -/
  | other
  deriving DecidableEq, Repr

/-- A frame of a network lane: whether its check sequence holds, its VLAN ID if it is tagged, and what it carries (12 R533). -/
structure LaneFrame where
  fcsOk : Bool
  vid : Option Nat
  kind : LaneKind
  deriving DecidableEq, Repr


/-- PTP messages that the device takes part in (12 R527); `best` of an Announce is the outcome of the best master clock algorithm
of IEEE 1588, which the specification names and does not state (log entry 21). -/
inductive PtpKind where
  | sync (twoStep : Bool)
  | followUp
  | delayResp
  | pdelayResp
  | announce (gm : Nat) (cls : Nat) (best : Bool)
  | other
  deriving DecidableEq, Repr

/-- A PTP message with the time stamps that belong to it, in units of 2^-16 ns: `own1` and `own2` are the device's stamps (receipt
of a Sync; sending of the delay request; sending of the peer request and receipt of its response), `peer1` and `peer2` the
master's or the peer's (sending of the Sync; receipt of the request; receipt and sending of the peer). -/
structure PtpMsg where
  lane : Fin 2
  domain : Nat
  kind : PtpKind
  seq : Nat
  own1 : Nat
  own2 : Nat
  peer1 : Nat
  peer2 : Nat
  corr : Int
  deriving DecidableEq, Repr

/-- The commands (spec/opcode_table.json). -/
inductive Instr where
  /-- SAMPLE_TICK (R49). -/
  | sampleTick (g : GroupId) (fails : List (CoreId × CheckFail))
  /-- SAMPLE_COMPLETE (R58). -/
  | sampleComplete (c : CoreId) (stalls : Nat) (mirrorErr : Option Half)
  /-- SHARED_READ_ARRIVAL (R176). -/
  | sharedReadArrival (c : CoreId) (v : Nat) (stalls : Nat)
  /-- CROSSBAR_ACCEPT (R177). -/
  | crossbarAccept (c : CoreId) (stalls : Nat)
  /-- NOP (R114). -/
  | nop (iss : Issue) (slot : Slot)
  /-- MAC4 (R81). -/
  | mac4 (iss : Issue) (f : QuadMul)
  /-- MAC2C (R134). -/
  | mac2c (iss : Issue) (f : QuadMul)
  /-- MAC2D (R134). -/
  | mac2d (iss : Issue) (f : QuadMul)
  /-- MAC1 (R131). -/
  | mac1 (iss : Issue) (f : SingleMul)
  /-- MULD (R136). -/
  | muld (iss : Issue) (f : DataMul)
  /-- ACONV (R138). -/
  | aconv (iss : Issue) (f : Convert)
  /-- AOP_MOV (R139). -/
  | aopMov (iss : Issue) (f : AccPair)
  /-- AOP_ADD (R139). -/
  | aopAdd (iss : Issue) (f : AccPair)
  /-- AOP_SUB (R139). -/
  | aopSub (iss : Issue) (f : AccPair)
  /-- AOP_NEG (R139). -/
  | aopNeg (iss : Issue) (f : AccPair)
  /-- AOP_ABS (R139). -/
  | aopAbs (iss : Issue) (f : AccPair)
  /-- AOP_CLR (R139). -/
  | aopClr (iss : Issue) (a : Fin 16)
  /-- AOP_CLRQ (R139). -/
  | aopClrq (iss : Issue) (a : Fin 16)
  /-- ASH (R140). -/
  | ash (iss : Issue) (f : AccShift)
  /-- ALD (R141). -/
  | ald (iss : Issue) (f : AccLoad)
  /-- ADD (R143). -/
  | add (iss : Issue) (f : Data3)
  /-- SUB (R143). -/
  | sub (iss : Issue) (f : Data3)
  /-- LOG_AND (R144). -/
  | logAnd (iss : Issue) (f : Logic3)
  /-- LOG_OR (R144). -/
  | logOr (iss : Issue) (f : Logic3)
  /-- LOG_XOR (R144). -/
  | logXor (iss : Issue) (f : Logic3)
  /-- LOG_ANDN (R144). -/
  | logAndn (iss : Issue) (f : Logic3)
  /-- LOG_NOT (R144). -/
  | logNot (iss : Issue) (f : Logic2)
  /-- SHV_ARITHMETIC (R145). -/
  | shvArithmetic (iss : Issue) (f : Data3)
  /-- SHV_LOGICAL (R145). -/
  | shvLogical (iss : Issue) (f : Logic3)
  /-- SHI (R146). -/
  | shi (iss : Issue) (f : ShiftImm)
  /-- MMX_MIN (R147). -/
  | mmxMin (iss : Issue) (f : Logic3)
  /-- MMX_MAX (R147). -/
  | mmxMax (iss : Issue) (f : Logic3)
  /-- MMX_ABS (R147). -/
  | mmxAbs (iss : Issue) (f : Data2)
  /-- MMX_NEG (R147). -/
  | mmxNeg (iss : Issue) (f : Data2)
  /-- SEL (R149). -/
  | sel (iss : Issue) (f : Select)
  /-- CMP (R150). -/
  | cmp (iss : Issue) (f : Compare)
  /-- CLIP (R148). -/
  | clip (iss : Issue) (f : Data3)
  /-- IMMEDIATE_LOAD_D (R115). -/
  | immediateLoadD (iss : Issue) (f : ImmD)
  /-- IMMEDIATE_LOAD_K (R115). -/
  | immediateLoadK (iss : Issue) (f : ImmK)
  /-- LDS (R55). -/
  | lds (iss : Issue) (f : StateAccess)
  /-- STS (R55). -/
  | sts (iss : Issue) (f : StateAccess)
  /-- LDC (R168). -/
  | ldc (iss : Issue) (f : CoefLoad)
  /-- LDG (R169). -/
  | ldg (iss : Issue) (f : SharedAccess)
  /-- STG (R169). -/
  | stg (iss : Issue) (f : SharedAccess)
  /-- DTAP (R171). -/
  | dtap (iss : Issue) (f : DelayTap)
  /-- LDQ (R169). -/
  | ldq (iss : Issue) (f : QuadLoad)
  /-- DTAPI (R180). -/
  | dtapi (iss : Issue) (f : InterpTap)
  /-- GADD_INDEX (R165). -/
  | gaddIndex (iss : Issue) (f : GenAdd)
  /-- GADD_LINE (R165). -/
  | gaddLine (iss : Issue) (f : GenAdd)
  /-- GMOV_INDEX_SET (R165). -/
  | gmovIndexSet (iss : Issue) (f : GenMove)
  /-- GMOV_INDEX_GET (R165). -/
  | gmovIndexGet (iss : Issue) (f : GenMove)
  /-- GMOV_LINE_SET (R165). -/
  | gmovLineSet (iss : Issue) (f : GenMove)
  /-- GMOV_LINE_GET (R165). -/
  | gmovLineGet (iss : Issue) (f : GenMove)
  /-- KADD (R152). -/
  | kadd (iss : Issue) (f : PtrAdd)
  /-- KMOV_TO_K (R151). -/
  | kmovToK (iss : Issue) (f : PtrMove)
  /-- KMOV_TO_D (R151). -/
  | kmovToD (iss : Issue) (f : PtrMove)
  /-- MOV (R153). -/
  | mov (iss : Issue) (f : Move)
  /-- MOVI (R153). -/
  | movi (iss : Issue) (f : MoveImm)
  /-- CMOV (R153). -/
  | cmov (iss : Issue) (f : CondMove)
  /-- PCMPZ (R154). -/
  | pcmpz (iss : Issue) (f : PredCompare)
  /-- PLOG_AND (R154). -/
  | plogAnd (iss : Issue) (f : Pred3)
  /-- PLOG_OR (R154). -/
  | plogOr (iss : Issue) (f : Pred3)
  /-- PLOG_XOR (R154). -/
  | plogXor (iss : Issue) (f : Pred3)
  /-- PLOG_ANDN (R154). -/
  | plogAndn (iss : Issue) (f : Pred3)
  /-- PLOG_NOT (R154). -/
  | plogNot (iss : Issue) (f : Pred2)
  /-- PLOG_SET (R154). -/
  | plogSet (iss : Issue) (t : Fin 8)
  /-- PLOG_CLR (R154). -/
  | plogClr (iss : Issue) (t : Fin 8)
  /-- PACC (R155). -/
  | pacc (iss : Issue) (f : PredAcc)
  /-- RUN_START (R66). -/
  | runStart (g : GroupId)
  /-- RUN_STOP (R67). -/
  | runStop (g : GroupId)
  /-- MODE_CHANGE (R68). -/
  | modeChange (g : GroupId) (mode : Fin 4)
  /-- UNMUTE (R70). -/
  | unmute (g : GroupId)
  /-- MUTE (R108). -/
  | mute (g : GroupId)
  /-- RAMP_END (R64). -/
  | rampEnd (g : GroupId)
  /-- LATE_LIMIT_MUTE (R78). -/
  | lateLimitMute (g : GroupId)
  /-- TAKEOVER (R102). -/
  | takeover (c : CoreId)
  /-- CLR_PEAK (R111). -/
  | clrPeak (c : CoreId)
  /-- SELF_TEST_COMPLETE (R95). -/
  | selfTestComplete (c : CoreId) (passed : Bool)
  /-- TICK_INDEX_READ (R108). -/
  | tickIndexRead (g : GroupId) (time : Bool) (iface : Fin 3)
  /-- CHAMBER_WRITE (R242). -/
  | chamberWrite (v : Word)
  /-- CHAMBER_READ (R244). -/
  | chamberRead
  /-- SLUICE_ARM (R247). -/
  | sluiceArm (g : GroupId)
  /-- SLUICE_CANCEL (R252). -/
  | sluiceCancel (g : GroupId)
  /-- SLUICE_APPLY (R255). -/
  | sluiceApply (g : GroupId)
  /-- BROADCAST_ORIGINATE (R253). -/
  | broadcastOriginate
  /-- SLUICE_BROADCAST_RECEIVE (R254). -/
  | sluiceBroadcastReceive (id : Half) (sec : Nat) (ns : Nat)
  /-- GLIDE_STAGE (R260). -/
  | glideStage (target : Word)
  /-- GLIDE_START (R262). -/
  | glideStart (g : GroupId)
  /-- GLIDE_END (R268). -/
  | glideEnd (g : GroupId)
  /-- CUT_SWAP (R269). -/
  | cutSwap (g : GroupId)
  /-- CUT_END (R270). -/
  | cutEnd (g : GroupId)
  /-- CROSSFADE_END (R275). -/
  | crossfadeEnd (g : GroupId)
  /-- CHAMBER_SYNC_COMPLETE (R278). -/
  | chamberSyncComplete (c : CoreId)
  /-- JOURNAL_CLEAR (R284). -/
  | journalClear
  /-- JOURNAL_CLEAR_COMPLETE (R284). -/
  | journalClearComplete
  /-- JOURNAL_REPLAY (R285). -/
  | journalReplay
  /-- BCE_ENABLE (R326). -/
  | bceEnable
  /-- BCE_JOB_START (R326). -/
  | bceJobStart (j : Fin 128)
  /-- BCE_STOP (R331). -/
  | bceStop
  /-- BCE_STOP_COMPLETE (R331). -/
  | bceStopComplete
  /-- FILTER_ENABLE (R327). -/
  | filterEnable (f : Fin 128)
  /-- FILTER_DISABLE (R328). -/
  | filterDisable (f : Fin 128)
  /-- FILTER_SWAP (R329). -/
  | filterSwap
  /-- FILTER_ON (R327). -/
  | filterOn (f : Fin 128)
  /-- FILTER_OFF (R328). -/
  | filterOff (f : Fin 128)
  /-- INPUT_BLOCK_RELEASE (R297). -/
  | inputBlockRelease (g : GroupId)
  /-- FORWARD_SLICE_COMPLETE (R320). -/
  | forwardSliceComplete (ue : Option Nat)
  /-- MULTIPLY_SLICE_COMPLETE (R320). -/
  | multiplySliceComplete (ue : Option Nat)
  /-- INVERSE_SLICE_COMPLETE (R311). -/
  | inverseSliceComplete (ue : Option Nat)
  /-- PROBE_SLICE_COMPLETE (R333). -/
  | probeSliceComplete (frameDone : Bool)
  /-- BCE_DEADLINE (R323). -/
  | bceDeadline (g : GroupId)
  /-- TAIL_DELIVERY (R300). -/
  | tailDelivery (g : GroupId)
  /-- BCE_BUSY_WINDOW (R333). -/
  | bceBusyWindow (busy : Half)
  /-- MEM_OPERATION (R208). -/
  | memOperation (b : BankId) (err : MemErr) (scrub : Nat) (other : Option OtherRead)
  /-- ERROR_RE_READ (R218). -/
  | errorReRead (b : BankId) (again : Bool)
  /-- SPARING_COMPLETE (R221). -/
  | sparingComplete (b : BankId)
  /-- BANK_RELEASE (R203). -/
  | bankRelease (b : BankId)
  /-- BANK_RELEASE_COMPLETE (R203). -/
  | bankReleaseComplete (b : BankId)
  /-- BANK_GRANT (R204). -/
  | bankGrant (b : BankId) (cls : Fin 16)
  /-- QWAIT_CLEAR (R237). -/
  | qwaitClear (b : BankId)
  /-- WINDOW_READ (R230). -/
  | windowRead (word : BitVec 20)
  /-- WINDOW_WRITE (R233). -/
  | windowWrite (word : BitVec 20) (v : Word)
  /-- SPARGE_COMPLETE (R227). -/
  | spargeComplete (stuck : List (BankId × Nat))
  /-- SCRUB_PASS (R225). -/
  | scrubPass (corrected : Nat) (lost : List (BankId × Nat)) (lasting : List (BankId × Nat))
  /-- PROBE_ENABLE (R349). -/
  | probeEnable
  /-- PROBE_START (R349). -/
  | probeStart
  /-- PROBE_STOP (R352). -/
  | probeStop
  /-- WEIR_BLOCK (R346). -/
  | weirBlock
  /-- STEEP_END (R357). -/
  | steepEnd (o : Fin 64)
  /-- BCE_FRAME_QUEUE (R362). -/
  | bceFrameQueue (o : Fin 64) (mic : Fin 16)
  /-- RESULT_PUBLISH (R368). -/
  | resultPublish (o : Fin 64) (mic : Fin 16)
  /-- LOOP_UPDATE (R370). -/
  | loopUpdate (o : Fin 64)
  /-- LOOP_ENABLE (R373). -/
  | loopEnable (o : Fin 64) (en : Bool)
  /-- PROBE_PARITY_ERROR (R735). -/
  | probeParityError
  /-- BLOCK_IN_TIME_TEST (R412). -/
  | blockInTimeTest (c : Fin 8192) (k : Nat)
  /-- NONAUDIO_MUTE_END (R419). -/
  | nonaudioMuteEnd (c : Fin 8192)
  /-- HEADGATE_OPEN (R405). -/
  | headgateOpen (h : Fin 256)
  /-- HEADGATE_CLOSE (R405). -/
  | headgateClose (h : Fin 256)
  /-- HEADGATE_CANCEL (R408). -/
  | headgateCancel (h : Fin 256)
  /-- HEADGATE_EFFECT (R407). -/
  | headgateEffect (h : Fin 256)
  /-- HEADGATE_RAMP_END (R407). -/
  | headgateRampEnd (h : Fin 256)
  /-- PORT_OPEN (R449). -/
  | portOpen (p : PortId)
  /-- PORT_CLOSE (R453). -/
  | portClose (p : PortId)
  /-- PORT_CLOSE_COMPLETE (R453). -/
  | portCloseComplete (p : PortId)
  /-- PORT_MUTE (R452). -/
  | portMute (p : PortId) (mute : Bool)
  /-- SAP_FRAME (R446). -/
  | sapFrame (p : PortId) (line0 : List Word) (line1 : List Word) (malformed : Bool)
  /-- SLAVE_CLOCK_LOST (R455). -/
  | slaveClockLost (p : PortId)
  /-- MCLK_CONTROL (R457). -/
  | mclkControl (k : Fin 4) (v : Word)
  /-- LINK_TICK (R466). -/
  | linkTick (stamps : List Nat)
  /-- LINK_FRAME_RECEIVE (R468). -/
  | linkFrameReceive (p : LinkId) (f : LinkFrame) (stamp : Nat) (reserved : Nat) (badSync : Nat)
  /-- LINK_ENABLE (R488). -/
  | linkEnable (p : LinkId)
  /-- LINK_DISABLE (R489). -/
  | linkDisable (p : LinkId)
  /-- LINK_WAKE (R504). -/
  | linkWake (p : LinkId)
  /-- DELAY_CLEAR (R508). -/
  | delayClear (p : LinkId)
  /-- LOSS_OF_SIGNAL (R489). -/
  | lossOfSignal (p : LinkId)
  /-- NO_FRAME (R489). -/
  | noFrame (p : LinkId)
  /-- UNWRAP (R496). -/
  | unwrap
  /-- UNWRAP_APPLY (R496). -/
  | unwrapApply
  /-- WAKE_GO (R504). -/
  | wakeGo
  /-- EYE_UPDATE (R502). -/
  | eyeUpdate (p : LinkId) (h : Byte) (v : Byte)
  /-- STEP (R514). -/
  | stepTime
  /-- SET (R514). -/
  | setTime
  /-- TIME_READ_LATCH (R513). -/
  | timeReadLatch (iface : Fin 3)
  /-- SERVO_UPDATE (R521). -/
  | servoUpdate (theta : Int) (dt : Nat)
  /-- PTP_MESSAGE (R527). -/
  | ptpMessage (m : PtpMsg)
  /-- PPS_IN_EDGE (R521). -/
  | ppsInEdge
  /-- LINK_OFFSET_UPDATE (R521). -/
  | linkOffsetUpdate
  /-- HOLDOVER_ENTRY (R520). -/
  | holdoverEntry
  /-- HOLDOVER_TIMEOUT (R524). -/
  | holdoverTimeout
  /-- PPS_OUTPUT (R518). -/
  | ppsOutput
  /-- PTP_LANE_MOVE (R528). -/
  | ptpLaneMove
  /-- RX_PACKET (R540). -/
  | rxPacket (lane : Fin 2) (d : Datagram)
  /-- TX_PACKET (R544). -/
  | txPacket (k : Fin 128)
  /-- STREAM_LOST (R543). -/
  | streamLost (k : Fin 128)
  /-- RX_ENABLE (R535). -/
  | rxEnable (k : Fin 128) (on : Bool)
  /-- TX_ENABLE (R545). -/
  | txEnable (k : Fin 128) (on : Bool)
  /-- LANE_ENABLE (R553). -/
  | laneEnable (lane : Fin 2) (on : Bool)
  /-- LANE_LINK_CHANGE (R555). -/
  | laneLinkChange (lane : Fin 2) (up : Bool)
  /-- CONTROL_MESSAGE (R548). -/
  | controlMessage (lane : Fin 2) (d : Datagram)
  /-- WAKE_FRAME (R551). -/
  | wakeFrame (lane : Fin 2) (dst : BitVec 48) (port : Nat) (payload : List Byte)
  /-- REFERENCE_STOP (R572). -/
  | referenceStop
  /-- REFERENCE_RETURN (R572). -/
  | referenceReturn
  /-- CLOCK_FAULT (R572). -/
  | clockFault (refLost : Bool)
  /-- PLL_LOCK_DECLARE (R569). -/
  | pllLockDeclare (pll : Fin 5) (passes : Bool)
  /-- MEDIA_MONITOR_FAIL (R573). -/
  | mediaMonitorFail (n : Fin 2)
  /-- INPUT_EDGE (R574). -/
  | inputEdge (k : Fin 18)
  /-- INPUT_STOPPED (R576). -/
  | inputStopped (k : Fin 18)
  /-- RATE_CHANGE_GATE (R579). -/
  | rateChangeGate (n : Fin 2)
  /-- RATE_CHANGE_RELOCK (R579). -/
  | rateChangeRelock (n : Fin 2)
  /-- REJOIN_STEP (R583). -/
  | rejoinStep
  /-- REJOIN_END (R582). -/
  | rejoinEnd (which : Fin 3)
  /-- REFERENCE_CHECK (R570). -/
  | referenceCheck (within : Bool)
  /-- GO (R594). -/
  | goLoad
  /-- VERIFY_PASS_COMPLETE (R610). -/
  | verifyPassComplete
  /-- LOADING_ENTRY (R612). -/
  | loadingEntry
  /-- APPLY_PASS_COMPLETE (R611). -/
  | applyPassComplete
  /-- DEVICE_RECORD (R605). -/
  | deviceRecord
  /-- RATEGROUP_RECORD (R605). -/
  | rategroupRecord
  /-- PROGRAM_RECORD (R605). -/
  | programRecord
  /-- COEF_RECORD (R605). -/
  | coefRecord
  /-- STATE_INIT_RECORD (R605). -/
  | stateInitRecord
  /-- BANK_MAP_RECORD (R605). -/
  | bankMapRecord
  /-- BANK_INIT_RECORD (R605). -/
  | bankInitRecord
  /-- ROUTE_RECORD (R605). -/
  | routeRecord
  /-- PORT_RECORD (R605). -/
  | portRecord
  /-- LINK_RECORD (R605). -/
  | linkRecord
  /-- NET_STREAM_RECORD (R605). -/
  | netStreamRecord
  /-- TIME_RECORD (R605). -/
  | timeRecord
  /-- BCE_JOB_RECORD (R605). -/
  | bceJobRecord
  /-- BCE_FILTER_RECORD (R605). -/
  | bceFilterRecord
  /-- PROBE_RECORD (R605). -/
  | probeRecord
  /-- ALIGN_GROUP_RECORD (R605). -/
  | alignGroupRecord
  /-- POWER_POLICY_RECORD (R605). -/
  | powerPolicyRecord
  /-- EVENT_MAP_RECORD (R775). -/
  | eventMapRecord
  /-- REG_WRITE_RECORD (R607). -/
  | regWriteRecord
  /-- SPARE_RECORD (R605). -/
  | spareRecord
  /-- RESTORE (R619). -/
  | restore
  /-- TRIAL_WATCHDOG (R644). -/
  | trialWatchdog
  /-- ERASE_SLOT (R646). -/
  | eraseSlot (k : Fin 2)
  /-- COMMIT_SLOT (R646). -/
  | commitSlot (k : Fin 2)
  /-- CONFIRM (R647). -/
  | confirm
  /-- RAISE_MINVER (R640). -/
  | raiseMinver
  /-- RAISE_EPOCH (R625). -/
  | raiseEpoch
  /-- REVOKE (R651). -/
  | revoke (k : Fin 4)
  /-- WRITE_HEADER (R629). -/
  | writeHeader (clk : Word) (mode : Byte)
  /-- WRITE_FLOORS (R550). -/
  | writeFloors
  /-- KEY_INSTALL (R651). -/
  | keyInstall (slot : Fin 4) (key : BitVec 256) (auth : Option (Fin 4))
  /-- KEY_LOCK (R651). -/
  | keyLock (slot : Fin 4)
  /-- RECOVERY_WINDOW_EXPIRY (R649). -/
  | recoveryWindowExpiry
  /-- RECOVERY_START (R650). -/
  | recoveryStart
  /-- RECOVERY_DATA (R650). -/
  | recoveryData (w : Word)
  /-- RECOVERY_DONE (R650). -/
  | recoveryDone
  /-- RECOVERY_ABORT (R650). -/
  | recoveryAbort
  /-- RECOVERY_TIMEOUT (R650). -/
  | recoveryTimeout
  /-- QSPI_READ (R667). -/
  | qspiRead (cmd : Byte) (addr : BitVec 24) (crc : BitVec 16)
  /-- QSPI_WRITE (R667). -/
  | qspiWrite (cmd : Byte) (addr : BitVec 24) (data : List Word) (crc : BitVec 16)
  /-- I2C_READ (R671). -/
  | i2cRead (addr : BitVec 24) (count : Nat) (broken : Bool)
  /-- I2C_WRITE (R671). -/
  | i2cWrite (addr : BitVec 24) (data : List Word) (broken : Bool)
  /-- REGISTER_WRITE (R14). -/
  | registerWrite (addr : BitVec 24) (v : Word)
  /-- MAILBOX_GO (R675). -/
  | mailboxGo
  /-- GET_INFO (R677). -/
  | getInfo
  /-- REG_READ (R677). -/
  | regRead
  /-- REG_WRITE (R677). -/
  | regWrite
  /-- SENSOR_READ (R677). -/
  | sensorRead
  /-- LOG_READ (R677). -/
  | logRead
  /-- LOG_CLEAR (R677). -/
  | logClear
  /-- FLASH_READ (R677). -/
  | flashRead (fails : Bool)
  /-- FLASH_WRITE (R677). -/
  | flashWrite (fails : Bool)
  /-- FLASH_ERASE (R677). -/
  | flashErase (fails : Bool)
  /-- UPDATE_BEGIN (R683). -/
  | updateBegin
  /-- UPDATE_DATA (R684). -/
  | updateData (fails : Bool)
  /-- UPDATE_COMMIT (R685). -/
  | updateCommit
  /-- UPDATE_ABORT (R685). -/
  | updateAbort
  /-- UPDATE_OWNER_TIMEOUT (R682). -/
  | updateOwnerTimeout
  /-- SEC_OP (R678). -/
  | secOp
  /-- TUNNEL_SEND (R679). -/
  | tunnelSend
  /-- TUNNEL_RECV (R681). -/
  | tunnelRecv
  /-- RESET (R677). -/
  | resetCmd
  /-- MAILBOX_COMMAND_COMPLETE (R675). -/
  | mailboxCommandComplete
  /-- TUNNEL_MESSAGE (R680). -/
  | tunnelMessage
  /-- TUNNEL_ACK_TIMEOUT (R681). -/
  | tunnelAckTimeout
  /-- SENSOR_UPDATE (R686). -/
  | sensorUpdate (temps : Vector (BitVec 16) 6) (sups : Vector (BitVec 16) 8)
  /-- THERMAL_TRIP (R688). -/
  | thermalTrip (sensor : Fin 6)
  /-- MANAGEMENT_WATCHDOG (R690). -/
  | managementWatchdog
  /-- LOG_COPY (R692). -/
  | logCopy (fails : Bool)
  /-- GPIO_EDGE (R696). -/
  | gpioEdge (pin : Fin 16) (level : Bool)
  /-- EVENT_FORCE (R779). -/
  | eventForce (ev : Fin 128)
  /-- EVENT_CLEAR (R774). -/
  | eventClear (w : Fin 4) (mask : Word)
  /-- POWER_ON_RESET (R758). -/
  | powerOnReset
  /-- BROWNOUT_WARNING (R708). -/
  | brownoutWarning (mv : Fin 8192)
  /-- BROWNOUT_CLEAR (R709). -/
  | brownoutClear
  /-- BROWNOUT_RESET (R710). -/
  | brownoutReset (mv : Fin 8192)
  /-- NRST_PIN (R758). -/
  | nrstPin
  /-- HOST_FULL_RESET (R758). -/
  | hostFullReset
  /-- WARM_RESET (R762). -/
  | warmReset
  /-- WARM_RESET_COMPLETE (R762). -/
  | warmResetComplete
  /-- PL_REQUEST (R713). -/
  | plRequest (level : Fin 8)
  /-- PL_CHANGE_COMPLETE (R712). -/
  | plChangeComplete
  /-- HOST_VOTE (R718). -/
  | hostVote (w : Word)
  /-- DOMAIN_DROP (R717). -/
  | domainDrop (d : Fin 12)
  /-- DOMAIN_POWER_UP (R720). -/
  | domainPowerUp (d : Fin 12)
  /-- DEMAND_HOLD_EXPIRY (R720). -/
  | demandHoldExpiry (d : Fin 12)
  /-- SLEEP_GO (R727). -/
  | sleepGo (target : Fin 8) (stop : Bool)
  /-- SLEEP_ENTRY_COMPLETE (R731). -/
  | sleepEntryComplete
  /-- SLEEP_WAKE (R724). -/
  | sleepWake
  /-- WAKE_PIN (R724). -/
  | wakePin (pin : Fin 2) (level : Bool)
  /-- SIGNAL_DETECT_WAKE (R724). -/
  | signalDetectWake (src : Fin 5) (present : Bool)
  /-- WAKE_FROM_S1 (R722). -/
  | wakeFromS1
  /-- WAKE_FROM_S2_S3 (R723). -/
  | wakeFromS2S3 (ramOk : Bool)
  /-- RESLEEP_CHECK (R725). -/
  | resleepCheck
  /-- CROSSBAR_RETRY (R748). -/
  | crossbarRetry (x : XbarAccess) (again : Bool)
  /-- CORE_MEMORY_RE_READ (R738). -/
  | coreMemoryReRead (c : CoreId) (m : CoreMem) (word : Half) (half : Bool) (again : Bool)
  /-- RESET_RELEASE (R642). -/
  | resetRelease
  /-- LANE_FRAME_RECEIVE (R534). -/
  | laneFrameReceive (lane : Fin 2) (f : LaneFrame)
  /-- LINK_LOCAL_FALLBACK (R534). -/
  | linkLocalFallback (lane : Fin 2)
  deriving DecidableEq, Repr

end Sys2Proof
end

