-- ==== Sys2Proof/Config.lean ====
section
/-!
DEFINITION. What one part fixes, and the values the specification leaves open.
Every constant here is opaque: nothing can be proved of its value, so a theorem holds for every value of it.
-/

namespace Sys2Proof.Config

open Sys2Proof

/-- Silicon step code of this part, GLB_ID bits 7:0 (00_scope R3). The specification lists steps and does not say which
one a part is. Log entry 3. -/
opaque siliconStep : BitVec 8

/-- GLB_GRADE of this part: false = AJ1648-CBG, true = AJ1648-IBG (20 R772). Log entry 3. -/
opaque partGradeIbg : Bool

/-- The straps BOOTSEL1 and BOOTSEL0 as sampled at power-on reset (16 R670; 20 R772). Log entry 3. -/
opaque bootsel : BitVec 2

/-- A fresh unconstrained choice, applied to the counter `State.free` (log entry 2). -/
opaque freeBool : Nat → Bool

/-- A fresh unconstrained number, applied to the counter `State.free` (log entry 2). -/
opaque freeNat : Nat → Nat

/-- A fresh unconstrained word, applied to the counter `State.free` (log entry 2). -/
opaque freeWord : Nat → Word

/-- A step of a log-gain glide as the device computes it from m0, mt, k and j, within the relative error of 2^-24 that the
specification allows (06 R262, R263). -/
opaque logGainStep : Nat → Nat → Nat → Nat → Nat

/-- One stage of a transform of the block convolution engine before its shift: direction, points, stage number and data. The
specification gives the stages, their shifts and rounding, and not the order of data nor the twiddle values (07 R306).
Log entry 24. -/
opaque bceStage : Bool → Nat → Nat → List Int → List Int

/-- The probe's shaper: rate code, filter memory and a sequence value give the new memory and the 16 scaled band signals, in units
of 2^-47 (08 R344). Filter coefficients and scale constants are not given in numbers. Log entry 26. -/
opaque probeShaper : Nat → List Int → Int → List Int × List Int

/-- The weir's crossovers: rate code, filter memory and a mask value give the new memory and the 16 band values in Q1.31
(08 R344, R345). Log entry 26. -/
opaque weirBands : Nat → List Int → Int → List Int × List Int

/-- 10 log10 of a band power held in units of 2^-62, in units of 0.01 dB, within 0.05 dB (08 R346). Log entry 26. -/
opaque powerDb : Nat → Int

/-- The linear gain of a level in units of 0.5 dB, in units of 2^-40 (08 R347). Log entry 26. -/
opaque dbGain : Int → Int

/-- 10 log10 of a fraction in units of 2^-8 dB (08 R366). Log entry 26. -/
opaque ratioDb : Nat → Nat → Int

/-- M_b of the closed loop in units of 0.01 dB: rate code, taps, band, impulse responses (08 R370). Log entry 26. -/
opaque loopLevel : Nat → Nat → Nat → List (List Int) → Int

/-- The correction filter: rate code, taps and the 16 gains in units of 0.5 dB give the coefficient words (08 R371).
Log entry 26. -/
opaque loopFilter : Nat → Nat → List Int → List Int

/-! The cryptographic functions that the specification names by their standards (15 R623, R624, R634 to R636, R652; 14 R598, R599)
and the secrets of a part. Log entry 7. -/

/-- SHA-384 of a byte string. -/
opaque sha384Bytes : List Byte → Vector Byte 48

/-- HMAC-SHA-256 of a byte string under a key. -/
opaque hmacBytes : List Byte → List Byte → Vector Byte 32

/-- The two as byte strings. -/
def sha384 (l : List Byte) : List Byte := (sha384Bytes l).toList
def hmacSha256 (key l : List Byte) : List Byte := (hmacBytes key l).toList

/-- ECDSA P-384: public key, digest and signature. -/
opaque ecdsaVerify : List Byte → List Byte → List Byte → Bool

/-- AES-256-GCM opening: key, nonce, additional data, ciphertext and tag; none where the tag does not verify. -/
opaque gcmOpen : List Byte → List Byte → List Byte → List Byte → List Byte → Option (List Byte)

/-- AES-256 Key Wrap (RFC 3394): wrap, and unwrap; none where it fails. -/
opaque keyWrap : List Byte → List Byte → List Byte
opaque keyUnwrap : List Byte → List Byte → Option (List Byte)

/-- KEY_DIGEST of a fuse slot; all zero is empty. -/
opaque keyDigest : Fin 4 → List Byte

/-- The DEV fuse. -/
opaque devFuse : Bool

/-- K_IMG and K_DEV. -/
opaque imageKey : List Byte
opaque deviceKey : List Byte

/-- Version word of the management firmware in a firmware image, as GET_INFO reports it (16 R677). Log entry 34. -/
opaque firmwareVersion : List Byte → Word

/-- Frequency in kHz that SEC measures for a reference source, false = crystal, true = REFCLK_IN (13 R560). Log entry 40. -/
opaque measuredKhz : Bool → Nat

/-- The operation of R651 that a mailbox SEC_OP word asks for, by its place in the table of R651 (ERASE_SLOT 0, COMMIT_SLOT 1, CONFIRM 2,
RAISE_MINVER 3, RAISE_EPOCH 4, REVOKE 5, WRITE_HEADER 6, WRITE_FLOORS 7, KEY_INSTALL 8, KEY_LOCK 9); 10 and above name none. The
specification gives no codes (16 R678). Log entry 42. -/
opaque secOp : Nat → Nat

/-- The result word that SEC returns for an operation, whether it was carried out, and the code of R636 of a commit (15 R651; 16 R678).
Log entry 42. -/
opaque secResult : Nat → Bool → Nat → Word

end Sys2Proof.Config
end

