-- ==== Sys2Proof/Machine/Fields.lean ====
section
/-!
DEFINITION. The register fields of the AJ1648, one definition for each row of the register tables of the specification
(the rule is named at each block), with the address, the bits, the access code (00 R14), the value after a P-class reset
(00 R15), the values a write may give it (00 R10) and the resets that restore it.
-/

namespace Sys2Proof.Machine

/-- The access codes of 00 R14. -/
inductive Access where
  | ro | rw | rws | w1s | w1c | wo
  deriving DecidableEq, Repr

/-- Which resets give a field its reset value (00 R15, R106 and the exceptions of the chapters).
`phd`: P, H and D classes. `ph`: P and H. `p`: P only. `por`: power-on reset only (R710).
`phwd`: every class. `sec`: written by SEC at each SEC start (R660). `never`: no reset (fixed or by its own rule). -/
inductive ResetBy where
  | phd | ph | p | por | phwd | sec | never
  deriving DecidableEq, Repr

/-- A register field, or an array of them: element `i` lies at `addr + stride * (i / count2) + stride2 * (i % count2)`. -/
structure Field where
  addr : Nat
  lo : Nat := 0
  width : Nat := 32
  reset : Nat := 0
  acc : Access := .rw
  by_ : ResetBy := .phd
  stride : Nat := 0
  count : Nat := 1
  stride2 : Nat := 0
  count2 : Nat := 1
  minV : Nat := 0
  maxV : Nat := 0xFFFFFFFF

/-- Byte address of element `i` of a field. -/
def Field.addrOf (f : Field) (i : Nat) : Nat := f.addr + f.stride * (i / f.count2) + f.stride2 * (i % f.count2)

/-- The place of element `i` of a field in the register file: 32 times the byte address plus the lowest bit. -/
def Field.key (f : Field) (i : Nat) : Nat := f.addrOf i * 32 + f.lo

/-- The temperature limits after reset depend on the grade (16 R701). -/
def thermWarnReset : Nat := if Config.partGradeIbg then 0x64 else 0x5F
def thermHotReset : Nat := if Config.partGradeIbg then 0x69 else 0x64


/-! 02_sample_engine.md R107 -/

def SE_STATUS_BIST_FAIL : Field := { addr := 0x010000, width := 16, acc := .ro }
def SE_STATUS_RG_ON : Field := { addr := 0x010000, lo := 16, width := 4, acc := .ro }
def SE_QUAR : Field := { addr := 0x010004, width := 16, acc := .ro, by_ := .phwd }

/-! 02_sample_engine.md R108 -/

def SE_RG_CFG_RATE : Field := { addr := 0x010100, width := 4, acc := .rws, stride := 0x40, count := 4, maxV := 8 }
def SE_RG_CFG_MINPL : Field := { addr := 0x010100, lo := 4, width := 3, acc := .rws, stride := 0x40, count := 4 }
def SE_RG_CFG_MEMBERS : Field := { addr := 0x010100, lo := 16, width := 16, acc := .rws, stride := 0x40, count := 4 }
def SE_RG_CTL_RUN : Field := { addr := 0x010104, width := 1, stride := 0x40, count := 4 }
def SE_RG_CTL_MODE : Field := { addr := 0x010104, lo := 1, width := 2, stride := 0x40, count := 4, maxV := 2 }
def SE_RG_CTL_UNMUTE : Field := { addr := 0x010104, lo := 3, width := 1, acc := .w1s, stride := 0x40, count := 4 }
def SE_RG_CTL_MUTE : Field := { addr := 0x010104, lo := 4, width := 1, acc := .w1s, stride := 0x40, count := 4 }
def SE_RG_CTL_LATE_LIMIT : Field := { addr := 0x010104, lo := 5, width := 4, reset := 0x4, stride := 0x40, count := 4 }
def SE_RG_CTL_SAFE_RAMP : Field := { addr := 0x010104, lo := 9, width := 5, reset := 0xa, stride := 0x40, count := 4, maxV := 16 }
def SE_RG_SAFE_GAIN : Field := { addr := 0x010108, width := 24, reset := 0x7fffff, stride := 0x40, count := 4 }
def SE_RG_STATUS_STATE : Field := { addr := 0x01010C, width := 3, acc := .ro, stride := 0x40, count := 4 }
def SE_RG_STATUS_RAMPING : Field := { addr := 0x01010C, lo := 3, width := 1, acc := .ro, stride := 0x40, count := 4 }
def SE_RG_STATUS_MUTE_CAUSE : Field := { addr := 0x01010C, lo := 4, width := 2, acc := .ro, stride := 0x40, count := 4 }
def SE_RG_STATUS_CONSEC_LATE : Field := { addr := 0x01010C, lo := 8, width := 4, acc := .ro, stride := 0x40, count := 4 }
def SE_RG_STATUS_ACTIVE : Field := { addr := 0x01010C, lo := 16, width := 16, acc := .ro, stride := 0x40, count := 4 }
def SE_RG_LATE_CNT : Field := { addr := 0x010110, stride := 0x40, count := 4 }
def SE_RG_DECL_MIN : Field := { addr := 0x010114, width := 16, acc := .ro, stride := 0x40, count := 4 }
def SE_RG_DECL_MIN_BUDGET : Field := { addr := 0x010114, lo := 16, width := 16, acc := .ro, stride := 0x40, count := 4 }
def SE_RG_TICK_LO_INDEX_LO : Field := { addr := 0x010118, acc := .ro, stride := 0x40, count := 4 }
def SE_RG_TICK_HI_INDEX_HI : Field := { addr := 0x01011C, acc := .ro, stride := 0x40, count := 4 }
def SE_RG_TICK_NS : Field := { addr := 0x010120, acc := .ro, stride := 0x40, count := 4 }
def SE_RG_TICK_FRAC : Field := { addr := 0x010124, width := 16, acc := .ro, stride := 0x40, count := 4 }
def SE_RG_TICK_SEC_LO : Field := { addr := 0x010128, acc := .ro, stride := 0x40, count := 4 }
def SE_RG_TICK_SEC_HI : Field := { addr := 0x01012C, width := 16, acc := .ro, stride := 0x40, count := 4 }
def SE_RG_SAFEMAP_CNT : Field := { addr := 0x010130, width := 7, acc := .rws, stride := 0x40, count := 4 }

/-! 02_sample_engine.md R110 -/

def SE_SAFEMAP_IN_CH : Field := { addr := 0x011000, width := 13, acc := .rws, stride := 0x100, count := 4, stride2 := 4, count2 := 64 }
def SE_SAFEMAP_OUT_CH : Field := { addr := 0x011000, lo := 16, width := 13, acc := .rws, stride := 0x100, count := 4, stride2 := 4, count2 := 64 }

/-! 02_sample_engine.md R111 -/

def SC_CFG_ROLE : Field := { addr := 0x020000, width := 2, acc := .rws, stride := 0x1000, count := 16, maxV := 2 }
def SC_CFG_GROUP : Field := { addr := 0x020000, lo := 2, width := 2, acc := .rws, stride := 0x1000, count := 16 }
def SC_CFG_PRIMARY : Field := { addr := 0x020000, lo := 8, width := 4, acc := .rws, stride := 0x1000, count := 16 }
def SC_STATUS_STATE : Field := { addr := 0x020004, width := 3, acc := .ro, stride := 0x1000, count := 16 }
def SC_STATUS_PPAGE : Field := { addr := 0x020004, lo := 4, width := 1, acc := .ro, stride := 0x1000, count := 16 }
def SC_STATUS_CPAGE : Field := { addr := 0x020004, lo := 5, width := 1, acc := .ro, stride := 0x1000, count := 16 }
def SC_STATUS_LATE : Field := { addr := 0x020004, lo := 6, width := 1, acc := .ro, stride := 0x1000, count := 16 }
def SC_STATUS_FAULT : Field := { addr := 0x020004, lo := 7, width := 1, acc := .ro, stride := 0x1000, count := 16 }
def SC_CTL_TAKEOVER : Field := { addr := 0x020008, width := 1, acc := .w1s, stride := 0x1000, count := 16 }
def SC_CTL_CLR_PEAK : Field := { addr := 0x020008, lo := 1, width := 1, acc := .w1s, stride := 0x1000, count := 16 }
def SC_PROG_LEN : Field := { addr := 0x02000C, width := 16, acc := .ro, stride := 0x1000, count := 16 }
def SC_PROG_LEN_DECL_MIN : Field := { addr := 0x02000C, lo := 16, width := 16, acc := .ro, stride := 0x1000, count := 16 }
def SC_CYC_LAST : Field := { addr := 0x020010, width := 16, acc := .ro, stride := 0x1000, count := 16 }
def SC_CYC_PEAK : Field := { addr := 0x020010, lo := 16, width := 16, acc := .ro, stride := 0x1000, count := 16 }
def SC_STALL_LAST : Field := { addr := 0x020014, width := 16, acc := .ro, stride := 0x1000, count := 16 }
def SC_STALL_PEAK : Field := { addr := 0x020014, lo := 16, width := 16, acc := .ro, stride := 0x1000, count := 16 }
def SC_STALL_TOTAL : Field := { addr := 0x020018, stride := 0x1000, count := 16 }
def SC_LATE_CNT : Field := { addr := 0x02001C, stride := 0x1000, count := 16 }
def SC_FAULT_CNT : Field := { addr := 0x020020, stride := 0x1000, count := 16 }
def SC_SAT_OUT_SAT : Field := { addr := 0x020024, width := 1, acc := .w1c, stride := 0x1000, count := 16 }
def SC_SAT_ACC_SAT : Field := { addr := 0x020024, lo := 1, width := 1, acc := .w1c, stride := 0x1000, count := 16 }
def SC_SAT_SAFE_SAT : Field := { addr := 0x020024, lo := 2, width := 1, acc := .w1c, stride := 0x1000, count := 16 }
def SC_SAT_CNT : Field := { addr := 0x020028, stride := 0x1000, count := 16 }
def SC_STWR_LAST : Field := { addr := 0x02002C, width := 13, acc := .ro, stride := 0x1000, count := 16 }
def SC_STWR_DECL : Field := { addr := 0x02002C, lo := 16, width := 13, acc := .ro, stride := 0x1000, count := 16 }

/-! 04_addressing_delay_lines.md R191 -/

def SE_GEN_CFG_KIND : Field := { addr := 0x014000, width := 1, acc := .rws, stride := 0x200, count := 16, stride2 := 32, count2 := 16 }
def SE_GEN_CFG_TAPMODE : Field := { addr := 0x014000, lo := 1, width := 2, acc := .rws, stride := 0x200, count := 16, stride2 := 32, count2 := 16, maxV := 2 }
def SE_GEN_CFG_TCF : Field := { addr := 0x014000, lo := 3, width := 1, acc := .rws, stride := 0x200, count := 16, stride2 := 32, count2 := 16 }
def SE_GEN_CFG_BANK0 : Field := { addr := 0x014000, lo := 4, width := 4, acc := .rws, stride := 0x200, count := 16, stride2 := 32, count2 := 16 }
def SE_GEN_CFG_NBANK : Field := { addr := 0x014000, lo := 8, width := 5, acc := .rws, stride := 0x200, count := 16, stride2 := 32, count2 := 16, maxV := 16 }
def SE_GEN_CFG_PTAB : Field := { addr := 0x014000, lo := 16, width := 16, acc := .rws, stride := 0x200, count := 16, stride2 := 32, count2 := 16 }
def SE_GEN_BASE : Field := { addr := 0x014004, width := 20, acc := .rws, stride := 0x200, count := 16, stride2 := 32, count2 := 16 }
def SE_GEN_LEN : Field := { addr := 0x014008, width := 20, acc := .rws, stride := 0x200, count := 16, stride2 := 32, count2 := 16, maxV := 786432 }
def SE_GEN_ORIGIN : Field := { addr := 0x01400C, width := 20, acc := .rws, stride := 0x200, count := 16, stride2 := 32, count2 := 16 }
def SE_GEN_STEP : Field := { addr := 0x014010, width := 20, acc := .rws, stride := 0x200, count := 16, stride2 := 32, count2 := 16 }
def SE_GEN_LINES : Field := { addr := 0x014014, width := 14, acc := .rws, stride := 0x200, count := 16, stride2 := 32, count2 := 16, maxV := 8192 }
def SE_GEN_LINES_CH : Field := { addr := 0x014014, lo := 16, width := 13, acc := .rws, stride := 0x200, count := 16, stride2 := 32, count2 := 16 }
def SE_GEN_IDX_INDEX : Field := { addr := 0x014018, width := 20, acc := .ro, stride := 0x200, count := 16, stride2 := 32, count2 := 16 }

/-! 04_addressing_delay_lines.md R192 -/

def SE_ADDR_DLY_CLAMP : Field := { addr := 0x016000, width := 1, acc := .w1c, stride := 0x4, count := 16 }
def SE_ADDR_TAP_CLAMP : Field := { addr := 0x016000, lo := 1, width := 1, acc := .w1c, stride := 0x4, count := 16 }
def SE_LOAD_TAPS : Field := { addr := 0x016040, width := 14, acc := .ro, stride := 0x4, count := 16 }
def SE_LOAD_WINMAX : Field := { addr := 0x016040, lo := 16, width := 6, acc := .ro, stride := 0x4, count := 16 }

/-! 05_shared_memory.md R235 -/

def MEM_STATUS_SPARGING : Field := { addr := 0x060000, width := 16, acc := .ro }
def MEM_STATUS_SPARE_EXH : Field := { addr := 0x060000, lo := 16, width := 16, acc := .ro }
def MEM_RET_MASK : Field := { addr := 0x060004, width := 16, acc := .rws }
def MEM_SCRUB_RUN_EN : Field := { addr := 0x060008, width := 1 }
def MEM_SCRUB_SLEEP_EN : Field := { addr := 0x060008, lo := 1, width := 1, reset := 0x1 }
def MEM_SCRUB_PERIOD : Field := { addr := 0x060008, lo := 8, width := 8, reset := 0xa, minV := 1, maxV := 255 }
def MEM_SCRUB_STAT_CE : Field := { addr := 0x06000C, width := 16, acc := .ro, by_ := .p }
def MEM_SCRUB_STAT_UE : Field := { addr := 0x06000C, lo := 16, width := 8, acc := .ro, by_ := .p }
def MEM_SCRUB_STAT_PASSES : Field := { addr := 0x06000C, lo := 24, width := 8, acc := .ro, by_ := .p }
def MEM_WIN_SEL_SPACE : Field := { addr := 0x060010, width := 4, maxV := 1 }
def MEM_WIN_SEL_BANK : Field := { addr := 0x060010, lo := 8, width := 4 }
def MEM_WIN_SEL_PAGE : Field := { addr := 0x060010, lo := 16, width := 1 }
def MEM_WIN_STATUS_VIOL : Field := { addr := 0x060014, width := 1, acc := .w1c }
def MEM_WIN_STATUS_RANGE : Field := { addr := 0x060014, lo := 1, width := 1, acc := .w1c }
def MEM_WIN_STATUS_SPARGE_HIT : Field := { addr := 0x060014, lo := 2, width := 1, acc := .w1c }
def MEM_CAP0_WORD : Field := { addr := 0x060018, width := 20, acc := .ro }
def MEM_CAP0_BANK : Field := { addr := 0x060018, lo := 20, width := 4, acc := .ro }
def MEM_CAP0_REQ : Field := { addr := 0x060018, lo := 24, width := 5, acc := .ro }
def MEM_CAP0_KIND : Field := { addr := 0x060018, lo := 29, width := 3, acc := .ro }
def MEM_CAP1_VALID : Field := { addr := 0x06001C, width := 1, acc := .w1c }

/-! 05_shared_memory.md R236 -/

def MEM_SCRUB_UE_WORD : Field := { addr := 0x060040, width := 20, acc := .ro, by_ := .p, stride := 0x4, count := 16 }
def MEM_SCRUB_UE_BANK : Field := { addr := 0x060040, lo := 20, width := 4, acc := .ro, by_ := .p, stride := 0x4, count := 16 }
def MEM_SCRUB_UE_VALID : Field := { addr := 0x060040, lo := 31, width := 1, acc := .ro, by_ := .p, stride := 0x4, count := 16 }

/-! 05_shared_memory.md R237 -/

def MEM_BANK_CFG_OWNER : Field := { addr := 0x060100, width := 4, acc := .rws, stride := 0x40, count := 16, maxV := 8 }
def MEM_BANK_CFG_PUB : Field := { addr := 0x060100, lo := 8, width := 8, acc := .rws, stride := 0x40, count := 16 }
def MEM_BANK_CFG_HANDOVER : Field := { addr := 0x060100, lo := 16, width := 1, acc := .rws, stride := 0x40, count := 16 }
def MEM_BANK_CFG_ALLOWED : Field := { addr := 0x060100, lo := 24, width := 8, acc := .rws, stride := 0x40, count := 16 }
def MEM_BANK_CTL_RELEASE : Field := { addr := 0x060104, width := 1, acc := .w1s, stride := 0x40, count := 16 }
def MEM_BANK_CTL_GRANT : Field := { addr := 0x060104, lo := 1, width := 1, acc := .w1s, stride := 0x40, count := 16 }
def MEM_BANK_CTL_GRANT_TO : Field := { addr := 0x060104, lo := 4, width := 4, stride := 0x40, count := 16 }
def MEM_BANK_STATUS_OWNER_NOW : Field := { addr := 0x060108, width := 4, acc := .ro, stride := 0x40, count := 16 }
def MEM_BANK_STATUS_RELEASED : Field := { addr := 0x060108, lo := 4, width := 1, acc := .ro, stride := 0x40, count := 16 }
def MEM_BANK_STATUS_SPARGING : Field := { addr := 0x060108, lo := 5, width := 1, acc := .ro, stride := 0x40, count := 16 }
def MEM_BANK_STATUS_RETAINED : Field := { addr := 0x060108, lo := 6, width := 1, acc := .ro, stride := 0x40, count := 16 }
def MEM_BANK_STATUS_HANDOVER_ERR : Field := { addr := 0x060108, lo := 7, width := 1, acc := .w1c, stride := 0x40, count := 16 }
def MEM_BANK_STATUS_SPARES_MIN : Field := { addr := 0x060108, lo := 8, width := 4, reset := 0x8, acc := .ro, stride := 0x40, count := 16 }
def MEM_BANK_STATUS_SPARE_Q : Field := { addr := 0x060108, lo := 12, width := 4, acc := .ro, stride := 0x40, count := 16 }
def MEM_BANK_NONOWNER_CNT : Field := { addr := 0x06010C, stride := 0x40, count := 16 }
def MEM_BANK_UNPUB_CNT : Field := { addr := 0x060110, stride := 0x40, count := 16 }
def MEM_BANK_WLOST_CNT : Field := { addr := 0x060114, stride := 0x40, count := 16 }
def MEM_BANK_CE_CNT : Field := { addr := 0x060118, stride := 0x40, count := 16 }
def MEM_BANK_UE_CNT : Field := { addr := 0x06011C, stride := 0x40, count := 16 }
def MEM_BANK_LASTING_CNT : Field := { addr := 0x060120, stride := 0x40, count := 16 }
def MEM_BANK_LOAD_CORE : Field := { addr := 0x060124, width := 6, acc := .ro, stride := 0x40, count := 16 }
def MEM_BANK_LOAD_NONCORE : Field := { addr := 0x060124, lo := 8, width := 4, acc := .ro, stride := 0x40, count := 16 }
def MEM_BANK_QWAIT_PEAK : Field := { addr := 0x060128, width := 8, acc := .ro, stride := 0x40, count := 16 }
def MEM_BANK_QWAIT_GUARD_CNT : Field := { addr := 0x060128, lo := 16, width := 16, acc := .ro, stride := 0x40, count := 16 }
def MEM_BANK_QCLR_CLR : Field := { addr := 0x06012C, width := 1, acc := .w1s, stride := 0x40, count := 16 }

/-! 06_update_chamber.md R289 -/

def UC_STATUS_SYNC_BUSY : Field := { addr := 0x040000, width := 16, acc := .ro }
def UC_STATUS_SL_ARMED : Field := { addr := 0x040000, lo := 16, width := 4, acc := .ro }
def UC_STATUS_MORPHING : Field := { addr := 0x040000, lo := 20, width := 4, acc := .ro }
def UC_CTL_SYNC_MODE : Field := { addr := 0x040004, width := 1 }
def UC_CTL_JNL_EN : Field := { addr := 0x040004, lo := 1, width := 1 }
def UC_CW_SEL_CORES : Field := { addr := 0x040010, width := 16 }
def UC_CW_SEL_PAGE : Field := { addr := 0x040010, lo := 16, width := 1 }
def UC_CW_ADDR_INDEX : Field := { addr := 0x040014, width := 16 }
def UC_CW_ADDR_AUTOINC : Field := { addr := 0x040014, lo := 16, width := 1 }
def UC_CW_DATA : Field := { addr := 0x040018 }
def UC_CW_STATUS_DISCARD : Field := { addr := 0x04001C, width := 1, acc := .w1c }
def UC_CW_STATUS_NO_CORE : Field := { addr := 0x04001C, lo := 1, width := 1, acc := .w1c }
def UC_GL_SEL_CORES : Field := { addr := 0x040020, width := 16 }
def UC_GL_CFG_INDEX : Field := { addr := 0x040024, width := 16 }
def UC_GL_CFG_K : Field := { addr := 0x040024, lo := 16, width := 5, maxV := 16 }
def UC_GL_CFG_LAW : Field := { addr := 0x040024, lo := 21, width := 1 }
def UC_GL_CFG_START : Field := { addr := 0x040024, lo := 22, width := 2, maxV := 1 }
def UC_GL_TARGET : Field := { addr := 0x040028, acc := .wo }
def UC_GL_STATUS_FULL : Field := { addr := 0x04002C, width := 1, acc := .w1c }
def UC_GL_STATUS_LOG_FALLBACK : Field := { addr := 0x04002C, lo := 1, width := 1, acc := .w1c }
def UC_GL_STATUS_NOGROUP : Field := { addr := 0x04002C, lo := 2, width := 1, acc := .w1c }
def UC_BC_ID : Field := { addr := 0x040030, width := 16 }
def UC_BC_NS : Field := { addr := 0x040034 }
def UC_BC_SEC_LO : Field := { addr := 0x040038 }
def UC_BC_SEC_HI : Field := { addr := 0x04003C, width := 16 }
def UC_BC_CTL_GO : Field := { addr := 0x040040, width := 1, acc := .w1s }
def UC_BC_MISS_CNT : Field := { addr := 0x040044 }
def UC_JNL_CFG_BANK : Field := { addr := 0x040048, width := 4, acc := .rws }
def UC_JNL_CFG_SIZE : Field := { addr := 0x040048, lo := 4, width := 7, acc := .rws, maxV := 64 }
def UC_JNL_BASE : Field := { addr := 0x04004C, width := 20, acc := .rws }
def UC_JNL_STATUS_ENTRIES : Field := { addr := 0x040050, width := 14, acc := .ro }
def UC_JNL_STATUS_FULL : Field := { addr := 0x040050, lo := 14, width := 1, acc := .ro }
def UC_JNL_STATUS_SKIP : Field := { addr := 0x040050, lo := 16, width := 16, acc := .ro }
def UC_JNL_CTL_CLEAR : Field := { addr := 0x040054, width := 1, acc := .w1s }

/-! 06_update_chamber.md R290 -/

def UC_SL_CFG_CORES : Field := { addr := 0x040100, width := 16, stride := 0x40, count := 4 }
def UC_SL_CFG_PAGES : Field := { addr := 0x040100, lo := 16, width := 2, stride := 0x40, count := 4 }
def UC_SL_CFG_MORPH : Field := { addr := 0x040100, lo := 18, width := 2, stride := 0x40, count := 4, maxV := 2 }
def UC_SL_CFG_MEXP : Field := { addr := 0x040100, lo := 20, width := 4, stride := 0x40, count := 4 }
def UC_SL_CFG_MODE : Field := { addr := 0x040100, lo := 24, width := 2, stride := 0x40, count := 4, maxV := 2 }
def UC_SL_CFG_GLIDES : Field := { addr := 0x040100, lo := 26, width := 1, stride := 0x40, count := 4 }
def UC_SL_CFG_JOURNAL : Field := { addr := 0x040100, lo := 27, width := 1, stride := 0x40, count := 4 }
def UC_SL_TIME_NS : Field := { addr := 0x040104, stride := 0x40, count := 4 }
def UC_SL_TIME_SEC_LO : Field := { addr := 0x040108, stride := 0x40, count := 4 }
def UC_SL_TIME_SEC_HI : Field := { addr := 0x04010C, width := 16, stride := 0x40, count := 4 }
def UC_SL_ID : Field := { addr := 0x040110, width := 16, stride := 0x40, count := 4 }
def UC_SL_CTL_ARM : Field := { addr := 0x040114, width := 1, acc := .w1s, stride := 0x40, count := 4 }
def UC_SL_CTL_CANCEL : Field := { addr := 0x040114, lo := 1, width := 1, acc := .w1s, stride := 0x40, count := 4 }
def UC_SL_STATUS_STATE : Field := { addr := 0x040118, width := 3, acc := .ro, stride := 0x40, count := 4 }
def UC_SL_STATUS_DEGRADED : Field := { addr := 0x040118, lo := 3, width := 1, acc := .ro, stride := 0x40, count := 4 }
def UC_SL_STATUS_RESULT : Field := { addr := 0x040118, lo := 4, width := 2, acc := .ro, stride := 0x40, count := 4 }
def UC_SL_STATUS_CAUSE : Field := { addr := 0x040118, lo := 8, width := 4, acc := .ro, stride := 0x40, count := 4 }
def UC_SL_EFF_LO : Field := { addr := 0x04011C, acc := .ro, stride := 0x40, count := 4 }
def UC_SL_EFF_HI : Field := { addr := 0x040120, acc := .ro, stride := 0x40, count := 4 }
def UC_SL_COUNT : Field := { addr := 0x040124, stride := 0x40, count := 4 }
def UC_SL_REFUSE_CNT : Field := { addr := 0x040128, stride := 0x40, count := 4 }

/-! 06_update_chamber.md R291 -/

def UC_CORE_STATUS_CH_VERIFIED : Field := { addr := 0x040400, width := 1, acc := .ro, stride := 0x10, count := 16 }
def UC_CORE_STATUS_XF_OK : Field := { addr := 0x040400, lo := 1, width := 1, acc := .ro, stride := 0x10, count := 16 }
def UC_CORE_STATUS_SYNC_BUSY : Field := { addr := 0x040400, lo := 2, width := 1, acc := .ro, stride := 0x10, count := 16 }
def UC_CORE_STATUS_GL_RUN : Field := { addr := 0x040400, lo := 4, width := 11, acc := .ro, stride := 0x10, count := 16 }
def UC_CORE_STATUS_CH_LEN : Field := { addr := 0x040400, lo := 16, width := 16, acc := .ro, stride := 0x10, count := 16 }
def UC_CORE_XF_XF_MIN : Field := { addr := 0x040404, width := 16, acc := .ro, stride := 0x10, count := 16 }
def UC_CORE_XF_XF_STWR : Field := { addr := 0x040404, lo := 16, width := 13, acc := .ro, stride := 0x10, count := 16 }
def UC_CORE_GL_STAGED : Field := { addr := 0x040408, width := 11, acc := .ro, stride := 0x10, count := 16 }

/-! 07_block_convolution.md R335 -/

def BCE_CTL_EN : Field := { addr := 0x050000, width := 1 }
def BCE_CTL_WARN : Field := { addr := 0x050000, lo := 8, width := 8, reset := 0xe6 }
def BCE_STATUS_RUN : Field := { addr := 0x050004, width := 1, acc := .ro }
def BCE_STATUS_STOPPING : Field := { addr := 0x050004, lo := 1, width := 1, acc := .ro }
def BCE_STATUS_SWAP_ERR : Field := { addr := 0x050004, lo := 2, width := 1, acc := .w1c }
def BCE_STATUS_EN_ERR : Field := { addr := 0x050004, lo := 3, width := 1, acc := .w1c }
def BCE_DENSITY_LOAD : Field := { addr := 0x050008, width := 16, acc := .ro }
def BCE_DENSITY_BUSY : Field := { addr := 0x050008, lo := 16, width := 16, acc := .ro }
def BCE_MISS_CNT : Field := { addr := 0x05000C }
def BCE_SAT_CNT : Field := { addr := 0x050010 }
def BCE_EXP_CNT : Field := { addr := 0x050014 }
def BCE_SWAP_OLD : Field := { addr := 0x050018, width := 7 }
def BCE_SWAP_NEW : Field := { addr := 0x050018, lo := 8, width := 7 }
def BCE_SWAP_GO : Field := { addr := 0x050018, lo := 16, width := 1, acc := .w1s }
def BCE_BANKQ0_Q : Field := { addr := 0x050020, acc := .rws }
def BCE_BANKQ1_Q : Field := { addr := 0x050024, acc := .rws }

/-! 07_block_convolution.md R336 -/

def BCE_JOB_CFG_VALID : Field := { addr := 0x051000, width := 1, acc := .rws, stride := 0x20, count := 128 }
def BCE_JOB_CFG_GROUP : Field := { addr := 0x051000, lo := 1, width := 2, acc := .rws, stride := 0x20, count := 128 }
def BCE_JOB_CFG_FIRST : Field := { addr := 0x051000, lo := 3, width := 2, acc := .rws, stride := 0x20, count := 128 }
def BCE_JOB_CFG_IN_CH : Field := { addr := 0x051000, lo := 16, width := 13, acc := .rws, stride := 0x20, count := 128 }
def BCE_JOB_SEG_C : Field := { addr := 0x051004, acc := .rws, stride := 0x20, count := 128 }
def BCE_JOB_HEAD_H : Field := { addr := 0x051008, width := 16, acc := .rws, stride := 0x20, count := 128 }
def BCE_JOB_FDL_BASE : Field := { addr := 0x05100C, width := 21, acc := .rws, stride := 0x20, count := 128 }
def BCE_JOB_FDL_LOC : Field := { addr := 0x05100C, lo := 24, width := 5, reset := 0x10, acc := .rws, stride := 0x20, count := 128, maxV := 16 }
def BCE_JOB_STATUS_STATE : Field := { addr := 0x051010, width := 2, acc := .ro, stride := 0x20, count := 128 }
def BCE_JOB_START_LO : Field := { addr := 0x051014, acc := .ro, stride := 0x20, count := 128 }
def BCE_JOB_START_HI : Field := { addr := 0x051018, acc := .ro, stride := 0x20, count := 128 }

/-! 07_block_convolution.md R337 -/

def BCE_FLT_CFG_VALID : Field := { addr := 0x052000, width := 1, acc := .rws, stride := 0x40, count := 128 }
def BCE_FLT_CFG_JOB : Field := { addr := 0x052000, lo := 1, width := 7, acc := .rws, stride := 0x40, count := 128 }
def BCE_FLT_SPEC_BASE : Field := { addr := 0x052004, width := 21, acc := .rws, stride := 0x40, count := 128 }
def BCE_FLT_SPEC_LOC : Field := { addr := 0x052004, lo := 24, width := 5, reset := 0x10, acc := .rws, stride := 0x40, count := 128, maxV := 16 }
def BCE_FLT_RING_BASE : Field := { addr := 0x052008, width := 21, acc := .rws, stride := 0x40, count := 128 }
def BCE_FLT_RING_RLOG2 : Field := { addr := 0x052008, lo := 24, width := 4, reset := 0x8, acc := .rws, stride := 0x40, count := 128, minV := 8, maxV := 15 }
def BCE_FLT_TAIL_TB : Field := { addr := 0x05200C, width := 20, acc := .rws, stride := 0x40, count := 128 }
def BCE_FLT_TAIL_TBANK : Field := { addr := 0x05200C, lo := 20, width := 4, acc := .rws, stride := 0x40, count := 128 }
def BCE_FLT_STAMP_SB : Field := { addr := 0x052010, width := 20, acc := .rws, stride := 0x40, count := 128 }
def BCE_FLT_STAMP_SBANK : Field := { addr := 0x052010, lo := 20, width := 4, acc := .rws, stride := 0x40, count := 128 }
def BCE_FLT_CTL_EN : Field := { addr := 0x052014, width := 1, stride := 0x40, count := 128 }
def BCE_FLT_STATUS_STATE : Field := { addr := 0x052018, width := 2, acc := .ro, stride := 0x40, count := 128 }
def BCE_FLT_STATUS_LAST_DROP : Field := { addr := 0x052018, lo := 4, width := 4, acc := .ro, stride := 0x40, count := 128 }
def BCE_FLT_EFF_LO : Field := { addr := 0x05201C, acc := .ro, stride := 0x40, count := 128 }
def BCE_FLT_EFF_HI : Field := { addr := 0x052020, acc := .ro, stride := 0x40, count := 128 }
def BCE_FLT_MISS_CNT : Field := { addr := 0x052024, stride := 0x40, count := 128 }

/-! 08_live_probe.md R375 -/

def PRB_CTL_EN : Field := { addr := 0x070000, width := 1, by_ := .phwd }
def PRB_CTL_GROUP : Field := { addr := 0x070000, lo := 1, width := 2, acc := .rws }
def PRB_CTL_LOOP_EN : Field := { addr := 0x070000, lo := 3, width := 1, by_ := .phwd }
def PRB_STATUS_RUN : Field := { addr := 0x070004, width := 1, acc := .ro }
def PRB_STATUS_BACKLOG : Field := { addr := 0x070004, lo := 1, width := 1, acc := .ro }
def PRB_STATUS_OFS_CLAMP : Field := { addr := 0x070004, lo := 2, width := 1, acc := .w1c }
def PRB_WEIR_MARGIN : Field := { addr := 0x070008, width := 8, reset := 0x3c }
def PRB_WEIR_KA : Field := { addr := 0x070008, lo := 8, width := 4, reset := 0x4 }
def PRB_WEIR_KR : Field := { addr := 0x070008, lo := 12, width := 4, reset := 0xb }
def PRB_WEIR_FLOOR : Field := { addr := 0x070008, lo := 16, width := 8 }
def PRB_WEIR_FLOOR_EN : Field := { addr := 0x070008, lo := 24, width := 1 }
def PRB_STEEP_SECONDS : Field := { addr := 0x07000C, width := 10, reset := 0xa, minV := 1, maxV := 600 }
def PRB_RES_BASE : Field := { addr := 0x070010, width := 20, acc := .rws }
def PRB_RES_BASE_BANK : Field := { addr := 0x070010, lo := 20, width := 4, acc := .rws }
def PRB_RES_STRIDE : Field := { addr := 0x070014, width := 16, acc := .rws }
def PRB_CLIP_CNT : Field := { addr := 0x070018 }
def PRB_DROP_CNT : Field := { addr := 0x07001C }
def PRB_LATE_CNT : Field := { addr := 0x070020 }

/-! 08_live_probe.md R376 -/

def PRB_SG_CFG_KIND : Field := { addr := 0x070100, width := 1, acc := .rws, stride := 0x10, count := 4 }
def PRB_SG_CFG_ORDER : Field := { addr := 0x070100, lo := 1, width := 3, acc := .rws, stride := 0x10, count := 4, maxV := 6 }
def PRB_SG_CFG_SEED_SRC : Field := { addr := 0x070100, lo := 4, width := 1, acc := .rws, stride := 0x10, count := 4 }
def PRB_SG_SEED : Field := { addr := 0x070104, acc := .rws, stride := 0x10, count := 4 }

/-! 08_live_probe.md R377 -/

def PRB_OUT_CFG_VALID : Field := { addr := 0x071000, width := 1, acc := .rws, stride := 0x40, count := 64 }
def PRB_OUT_CFG_SG : Field := { addr := 0x071000, lo := 1, width := 2, acc := .rws, stride := 0x40, count := 64 }
def PRB_OUT_CFG_FORCE_BCE : Field := { addr := 0x071000, lo := 3, width := 1, acc := .rws, stride := 0x40, count := 64 }
def PRB_OUT_CFG_SINK_CH : Field := { addr := 0x071000, lo := 16, width := 13, acc := .rws, stride := 0x40, count := 64 }
def PRB_OUT_SHIFT : Field := { addr := 0x071004, width := 20, acc := .rws, stride := 0x40, count := 64 }
def PRB_OUT_MASK_MASK_CH : Field := { addr := 0x071008, width := 13, acc := .rws, stride := 0x40, count := 64 }
def PRB_OUT_MASK_MICS : Field := { addr := 0x071008, lo := 16, width := 16, acc := .rws, stride := 0x40, count := 64 }
def PRB_OUT_IR_K : Field := { addr := 0x07100C, width := 15, acc := .rws, stride := 0x40, count := 64 }
def PRB_OUT_IR_OFS : Field := { addr := 0x07100C, lo := 16, width := 16, acc := .rws, stride := 0x40, count := 64 }
def PRB_OUT_ATTEN_A : Field := { addr := 0x071010, stride := 0x40, count := 64, stride2 := 4, count2 := 4 }
def PRB_OUT_STATUS_ACTIVE : Field := { addr := 0x071020, width := 1, acc := .ro, stride := 0x40, count := 64 }
def PRB_OUT_STATUS_SUPPRESSED : Field := { addr := 0x071020, lo := 1, width := 1, acc := .ro, stride := 0x40, count := 64 }
def PRB_LOOP_CFG_CORE : Field := { addr := 0x071024, width := 4, acc := .rws, stride := 0x40, count := 64 }
def PRB_LOOP_CFG_WORD : Field := { addr := 0x071024, lo := 4, width := 16, acc := .rws, stride := 0x40, count := 64 }
def PRB_LOOP_CFG_NC : Field := { addr := 0x071024, lo := 20, width := 8, acc := .rws, stride := 0x40, count := 64 }
def PRB_LOOP_LIM_STEP_MAX : Field := { addr := 0x071028, width := 4, reset := 0x2, stride := 0x40, count := 64, minV := 1, maxV := 12 }
def PRB_LOOP_LIM_BOOST_MAX : Field := { addr := 0x071028, lo := 4, width := 6, reset := 0xc, stride := 0x40, count := 64, maxV := 24 }
def PRB_LOOP_LIM_CUT_MAX : Field := { addr := 0x071028, lo := 10, width := 6, reset := 0x18, stride := 0x40, count := 64, maxV := 48 }
def PRB_LOOP_LIM_SNR_MIN : Field := { addr := 0x071028, lo := 16, width := 8, reset := 0x28, stride := 0x40, count := 64 }
def PRB_LOOP_LIM_GLIDE_K : Field := { addr := 0x071028, lo := 24, width := 5, reset := 0xc, stride := 0x40, count := 64, maxV := 16 }
def PRB_LOOP_LIM_EN : Field := { addr := 0x071028, lo := 31, width := 1, by_ := .phwd, stride := 0x40, count := 64 }
def PRB_LOOP_STATUS_STATE : Field := { addr := 0x07102C, width := 2, acc := .ro, stride := 0x40, count := 64 }
def PRB_LOOP_STATUS_AT_LIMIT : Field := { addr := 0x07102C, lo := 2, width := 1, acc := .ro, stride := 0x40, count := 64 }
def PRB_LOOP_STATUS_HOLD_CAUSE : Field := { addr := 0x07102C, lo := 4, width := 4, acc := .ro, stride := 0x40, count := 64 }
def PRB_LOOP_STATUS_SKIPS : Field := { addr := 0x07102C, lo := 8, width := 8, acc := .ro, stride := 0x40, count := 64 }
def PRB_LOOP_STATUS_UPDATES : Field := { addr := 0x07102C, lo := 16, width := 16, acc := .ro, stride := 0x40, count := 64 }
def PRB_LOOP_TGT_T : Field := { addr := 0x071030, stride := 0x40, count := 64, stride2 := 4, count2 := 4 }

/-! 08_live_probe.md R378 -/

def PRB_MIC_CFG_VALID : Field := { addr := 0x072000, width := 1, acc := .rws, stride := 0x10, count := 16 }
def PRB_MIC_CFG_CH : Field := { addr := 0x072000, lo := 16, width := 13, acc := .rws, stride := 0x10, count := 16 }
def PRB_MIC_OFS : Field := { addr := 0x072004, width := 16, stride := 0x10, count := 16 }
def PRB_MIC_EXCL_CNT : Field := { addr := 0x072008, stride := 0x10, count := 16 }
def PRB_PAIR_SLOT : Field := { addr := 0x073000, acc := .ro, stride := 0x4, count := 32 }

/-! 09_streams_alignment.md R426 -/

def STR_STATUS_LOADED : Field := { addr := 0x080000, width := 1, acc := .ro }
def STR_TBL_SEL_TABLE : Field := { addr := 0x080010, width := 3, maxV := 3 }
def STR_TBL_SEL_WORD : Field := { addr := 0x080010, lo := 4, width := 2 }
def STR_TBL_SEL_INDEX : Field := { addr := 0x080010, lo := 16, width := 14 }
def STR_TBL_DATA : Field := { addr := 0x080014, acc := .ro }
def STR_BANKQ0_Q : Field := { addr := 0x080020, acc := .rws }
def STR_BANKQ1_Q : Field := { addr := 0x080024, acc := .rws }
def STR_QDROP_CNT : Field := { addr := 0x080030 }
def STR_SEAL_FAIL_CNT : Field := { addr := 0x080034 }
def STR_SEAL_ABSENT_CNT : Field := { addr := 0x080038 }
def STR_NA_CNT : Field := { addr := 0x08003C }

/-! 09_streams_alignment.md R428 -/

def STR_AG_CFG_VALID : Field := { addr := 0x081000, width := 1, acc := .rws, stride := 0x20, count := 256 }
def STR_AG_CFG_LOCKSTEP : Field := { addr := 0x081000, lo := 1, width := 1, acc := .rws, stride := 0x20, count := 256 }
def STR_AG_CFG_GROUP : Field := { addr := 0x081000, lo := 2, width := 2, acc := .rws, stride := 0x20, count := 256 }
def STR_AG_LAT : Field := { addr := 0x081004, width := 20, acc := .rws, stride := 0x20, count := 256, minV := 1, maxV := 1048575 }
def STR_AG_STATUS_MEMBERS : Field := { addr := 0x081008, width := 14, acc := .ro, stride := 0x20, count := 256 }
def STR_AG_STATUS_CONCEALING : Field := { addr := 0x081008, lo := 16, width := 14, acc := .ro, stride := 0x20, count := 256 }
def STR_AG_UNDER_CNT : Field := { addr := 0x08100C, stride := 0x20, count := 256 }
def STR_AG_LATE_CNT : Field := { addr := 0x081010, stride := 0x20, count := 256 }
def STR_AG_EARLY_CNT : Field := { addr := 0x081014, stride := 0x20, count := 256 }
def STR_AG_LAST_LO : Field := { addr := 0x081018, acc := .ro, stride := 0x20, count := 256 }
def STR_AG_LAST_HI : Field := { addr := 0x08101C, acc := .ro, stride := 0x20, count := 256 }

/-! 09_streams_alignment.md R429 -/

def STR_HG_CFG_RAMP : Field := { addr := 0x083000, width := 1, stride := 0x20, count := 256 }
def STR_HG_TIME_NS : Field := { addr := 0x083004, stride := 0x20, count := 256 }
def STR_HG_TIME_SEC_LO : Field := { addr := 0x083008, stride := 0x20, count := 256 }
def STR_HG_TIME_SEC_HI : Field := { addr := 0x08300C, width := 16, stride := 0x20, count := 256 }
def STR_HG_CTL_OPEN : Field := { addr := 0x083010, width := 1, acc := .w1s, stride := 0x20, count := 256 }
def STR_HG_CTL_CLOSE : Field := { addr := 0x083010, lo := 1, width := 1, acc := .w1s, stride := 0x20, count := 256 }
def STR_HG_CTL_CANCEL : Field := { addr := 0x083010, lo := 2, width := 1, acc := .w1s, stride := 0x20, count := 256 }
def STR_HG_STATUS_STATE : Field := { addr := 0x083014, width := 2, acc := .ro, stride := 0x20, count := 256 }
def STR_HG_STATUS_REFUSED : Field := { addr := 0x083014, lo := 2, width := 1, acc := .w1c, stride := 0x20, count := 256 }
def STR_HG_EFF_LO : Field := { addr := 0x083018, acc := .ro, stride := 0x20, count := 256 }
def STR_HG_EFF_HI : Field := { addr := 0x08301C, acc := .ro, stride := 0x20, count := 256 }

/-! 10_serial_audio_ports.md R461 -/

def SAP_CFG_FMT : Field := { addr := 0x090000, width := 2, acc := .rws, stride := 0x100, count := 16 }
def SAP_CFG_MODE : Field := { addr := 0x090000, lo := 2, width := 2, acc := .rws, stride := 0x100, count := 16, maxV := 2 }
def SAP_CFG_GROUP : Field := { addr := 0x090000, lo := 4, width := 2, acc := .rws, stride := 0x100, count := 16 }
def SAP_CFG_SLOTS : Field := { addr := 0x090000, lo := 6, width := 5, reset := 0x1, acc := .rws, stride := 0x100, count := 16, minV := 1, maxV := 31 }
def SAP_CFG_SLOTW : Field := { addr := 0x090000, lo := 11, width := 2, reset := 0x2, acc := .rws, stride := 0x100, count := 16, maxV := 2 }
def SAP_CFG_WORDW : Field := { addr := 0x090000, lo := 13, width := 2, reset := 0x2, acc := .rws, stride := 0x100, count := 16 }
def SAP_CFG_FSW : Field := { addr := 0x090000, lo := 15, width := 1, acc := .rws, stride := 0x100, count := 16 }
def SAP_CFG_FS_DLY : Field := { addr := 0x090000, lo := 16, width := 1, acc := .rws, stride := 0x100, count := 16 }
def SAP_CFG_BCLK_INV : Field := { addr := 0x090000, lo := 17, width := 1, acc := .rws, stride := 0x100, count := 16 }
def SAP_CFG_FS_INV : Field := { addr := 0x090000, lo := 18, width := 1, acc := .rws, stride := 0x100, count := 16 }
def SAP_CFG_DIR0 : Field := { addr := 0x090000, lo := 19, width := 1, acc := .rws, stride := 0x100, count := 16 }
def SAP_CFG_DIR1 : Field := { addr := 0x090000, lo := 20, width := 1, acc := .rws, stride := 0x100, count := 16 }
def SAP_CFG_ORND : Field := { addr := 0x090000, lo := 21, width := 1, acc := .rws, stride := 0x100, count := 16 }
def SAP_CFG_HIZ : Field := { addr := 0x090000, lo := 22, width := 1, acc := .rws, stride := 0x100, count := 16 }
def SAP_DIV_F : Field := { addr := 0x090004, width := 16, acc := .rws, stride := 0x100, count := 16 }
def SAP_DIV_N : Field := { addr := 0x090004, lo := 16, width := 12, acc := .rws, stride := 0x100, count := 16 }
def SAP_CTL_EN : Field := { addr := 0x090008, width := 1, stride := 0x100, count := 16 }
def SAP_CTL_MUTE : Field := { addr := 0x090008, lo := 1, width := 1, reset := 0x1, stride := 0x100, count := 16 }
def SAP_STATUS_STATE : Field := { addr := 0x09000C, width := 2, acc := .ro, stride := 0x100, count := 16 }
def SAP_STATUS_RAMPING : Field := { addr := 0x09000C, lo := 2, width := 1, acc := .ro, stride := 0x100, count := 16 }
def SAP_FS_NS : Field := { addr := 0x090010, width := 30, acc := .ro, stride := 0x100, count := 16 }
def SAP_FS_SEC_LO : Field := { addr := 0x090014, acc := .ro, stride := 0x100, count := 16 }
def SAP_FS_SEC_HI : Field := { addr := 0x090018, width := 16, acc := .ro, stride := 0x100, count := 16 }
def SAP_PHASE_PHI : Field := { addr := 0x09001C, width := 24, acc := .ro, stride := 0x100, count := 16 }
def SAP_SLIP_CNT : Field := { addr := 0x090020, stride := 0x100, count := 16 }
def SAP_FRERR_CNT : Field := { addr := 0x090024, stride := 0x100, count := 16 }
def SAP_LOST_CNT : Field := { addr := 0x090028, stride := 0x100, count := 16 }
def SAP_EFF_LO : Field := { addr := 0x09002C, acc := .ro, stride := 0x100, count := 16 }
def SAP_EFF_HI : Field := { addr := 0x090030, acc := .ro, stride := 0x100, count := 16 }

/-! 10_serial_audio_ports.md R462 -/

def SAP_MCLK_EN : Field := { addr := 0x091000, width := 1, stride := 0x4, count := 4 }
def SAP_MCLK_SRC : Field := { addr := 0x091000, lo := 1, width := 1, stride := 0x4, count := 4 }
def SAP_MCLK_M : Field := { addr := 0x091000, lo := 8, width := 8, reset := 0x10, stride := 0x4, count := 4, minV := 8, maxV := 255 }

/-! 11_ronzu_link.md R508 -/

def RLK_CFG_TOPO : Field := { addr := 0x0A0000, width := 3, acc := .rws, stride := 0x400, count := 4, maxV := 4 }
def RLK_CFG_RATE : Field := { addr := 0x0A0000, lo := 3, width := 2, acc := .rws, stride := 0x400, count := 4, maxV := 2 }
def RLK_CFG_AUTO_EN : Field := { addr := 0x0A0000, lo := 5, width := 1, acc := .rws, stride := 0x400, count := 4 }
def RLK_CFG_TX_POL : Field := { addr := 0x0A0000, lo := 6, width := 1, acc := .rws, stride := 0x400, count := 4 }
def RLK_CFG_RX_POL : Field := { addr := 0x0A0000, lo := 7, width := 1, acc := .rws, stride := 0x400, count := 4 }
def RLK_TXEQ_PRE : Field := { addr := 0x0A0004, width := 4, acc := .rws, stride := 0x400, count := 4 }
def RLK_TXEQ_POST : Field := { addr := 0x0A0004, lo := 8, width := 4, reset := 0x4, acc := .rws, stride := 0x400, count := 4 }
def RLK_TXEQ_SWING : Field := { addr := 0x0A0004, lo := 16, width := 4, reset := 0x8, acc := .rws, stride := 0x400, count := 4 }
def RLK_CTL_EN : Field := { addr := 0x0A0008, width := 1, stride := 0x400, count := 4 }
def RLK_CTL_DOWN_ON_LASTING : Field := { addr := 0x0A0008, lo := 1, width := 1, stride := 0x400, count := 4 }
def RLK_CTL_WAKE : Field := { addr := 0x0A0008, lo := 2, width := 1, acc := .w1s, stride := 0x400, count := 4 }
def RLK_CTL_CLR : Field := { addr := 0x0A0008, lo := 3, width := 1, acc := .w1s, stride := 0x400, count := 4 }
def RLK_STATUS_STATE : Field := { addr := 0x0A000C, width := 3, acc := .ro, stride := 0x400, count := 4 }
def RLK_STATUS_WRAPPED : Field := { addr := 0x0A000C, lo := 3, width := 1, acc := .ro, stride := 0x400, count := 4 }
def RLK_STATUS_DOWN_CAUSE : Field := { addr := 0x0A000C, lo := 4, width := 4, acc := .ro, stride := 0x400, count := 4 }
def RLK_STATUS_PARTNER_ID : Field := { addr := 0x0A000C, lo := 8, width := 12, acc := .ro, stride := 0x400, count := 4 }
def RLK_STATUS_PARTNER_PORT : Field := { addr := 0x0A000C, lo := 20, width := 2, acc := .ro, stride := 0x400, count := 4 }
def RLK_STATUS_PARTNER_UNVERIFIED : Field := { addr := 0x0A000C, lo := 22, width := 1, acc := .ro, stride := 0x400, count := 4 }
def RLK_STATUS_LONG : Field := { addr := 0x0A000C, lo := 23, width := 1, acc := .ro, stride := 0x400, count := 4 }
def RLK_STATUS_LASTING : Field := { addr := 0x0A000C, lo := 24, width := 1, acc := .ro, stride := 0x400, count := 4 }
def RLK_STATUS_TIME_FOLLOWER : Field := { addr := 0x0A000C, lo := 25, width := 1, acc := .ro, stride := 0x400, count := 4 }
def RLK_STATUS_DUP_ID : Field := { addr := 0x0A000C, lo := 26, width := 1, acc := .ro, stride := 0x400, count := 4 }
def RLK_DELAY_D : Field := { addr := 0x0A0010, acc := .ro, stride := 0x400, count := 4 }
def RLK_OFFSET_THETA : Field := { addr := 0x0A0014, acc := .ro, stride := 0x400, count := 4 }
def RLK_DELAY_MIN : Field := { addr := 0x0A0018, acc := .ro, stride := 0x400, count := 4 }
def RLK_DELAY_MAX : Field := { addr := 0x0A001C, acc := .ro, stride := 0x400, count := 4 }
def RLK_ASYM : Field := { addr := 0x0A0020, stride := 0x400, count := 4 }
def RLK_EYE_HMARGIN : Field := { addr := 0x0A0024, width := 8, acc := .ro, stride := 0x400, count := 4 }
def RLK_EYE_VMARGIN : Field := { addr := 0x0A0024, lo := 8, width := 8, acc := .ro, stride := 0x400, count := 4 }
def RLK_EYE_WARN_H : Field := { addr := 0x0A0028, width := 8, reset := 0x10, stride := 0x400, count := 4 }
def RLK_EYE_WARN_V : Field := { addr := 0x0A0028, lo := 8, width := 8, reset := 0xa, stride := 0x400, count := 4 }
def RLK_LASTING_LIM : Field := { addr := 0x0A002C, width := 8, reset := 0x10, stride := 0x400, count := 4, minV := 1, maxV := 255 }
def RLK_CRC_CNT : Field := { addr := 0x0A0030, stride := 0x400, count := 4 }
def RLK_RETRY_OK_CNT : Field := { addr := 0x0A0034, stride := 0x400, count := 4 }
def RLK_CONC_CNT : Field := { addr := 0x0A0038, stride := 0x400, count := 4 }
def RLK_CF_ERR_CNT : Field := { addr := 0x0A003C, stride := 0x400, count := 4 }
def RLK_NOFRAME_CNT : Field := { addr := 0x0A0040, stride := 0x400, count := 4 }
def RLK_DOWN_CNT : Field := { addr := 0x0A0044, stride := 0x400, count := 4 }
def RLK_TUN_DROP_CNT : Field := { addr := 0x0A0048, stride := 0x400, count := 4 }

/-! 11_ronzu_link.md R509 -/

def RLK_GLB_CFG_DEV_ID : Field := { addr := 0x0A1000, width := 12, acc := .rws }
def RLK_GLB_CFG_FAMILY : Field := { addr := 0x0A1000, lo := 12, width := 1, acc := .rws }
def RLK_GLB_CFG_RING : Field := { addr := 0x0A1000, lo := 13, width := 1, acc := .rws }
def RLK_GLB_STATUS_WRAP : Field := { addr := 0x0A1004, width := 2, acc := .ro }
def RLK_GLB_STATUS_FOLLOW_PORT : Field := { addr := 0x0A1004, lo := 2, width := 2, acc := .ro }
def RLK_GLB_STATUS_FOLLOW_VALID : Field := { addr := 0x0A1004, lo := 4, width := 1, acc := .ro }
def RLK_GLB_STATUS_GM_HOPS : Field := { addr := 0x0A1004, lo := 5, width := 12, reset := 0xfff, acc := .ro }
def RLK_IDX_LO : Field := { addr := 0x0A1008, acc := .ro }
def RLK_IDX_HI : Field := { addr := 0x0A100C, width := 16, acc := .ro }
def RLK_UNWRAP_LO_U_LO : Field := { addr := 0x0A1010 }
def RLK_UNWRAP_HI_U_HI : Field := { addr := 0x0A1014, width := 16 }
def RLK_GLB_CTL_UNWRAP : Field := { addr := 0x0A1018, width := 1, acc := .w1s }
def RLK_GLB_CTL_WAKE_GO : Field := { addr := 0x0A1018, lo := 1, width := 1, acc := .w1s }
def RLK_GLB_CTL_WAKE_ID : Field := { addr := 0x0A1018, lo := 2, width := 12 }
def RLK_GLB_CTL_WAKE_ALL : Field := { addr := 0x0A1018, lo := 14, width := 1 }
def RLK_BC_FWD_CNT : Field := { addr := 0x0A101C }
def RLK_BC_DROP_CNT : Field := { addr := 0x0A1020 }

/-! 12_network_time.md R554 -/

def TIM_CFG_SOURCE : Field := { addr := 0x0C0000, width := 3, acc := .rws, maxV := 4 }
def TIM_CFG_PROFILE : Field := { addr := 0x0C0000, lo := 3, width := 3, acc := .rws, maxV := 4 }
def TIM_CFG_GM_CAPABLE : Field := { addr := 0x0C0000, lo := 6, width := 1, acc := .rws }
def TIM_CFG_LINK_GM : Field := { addr := 0x0C0000, lo := 7, width := 1, acc := .rws }
def TIM_CFG_DOMAIN : Field := { addr := 0x0C0000, lo := 8, width := 7, acc := .rws }
def TIM_CFG_PTP_LANE : Field := { addr := 0x0C0000, lo := 15, width := 1, acc := .rws }
def TIM_STATUS_STATE : Field := { addr := 0x0C0004, width := 2, acc := .ro }
def TIM_STATUS_COARSE : Field := { addr := 0x0C0004, lo := 2, width := 1, reset := 0x1, acc := .ro }
def TIM_STATUS_GM : Field := { addr := 0x0C0004, lo := 3, width := 1, acc := .ro }
def TIM_STATUS_PTP_LANE_NOW : Field := { addr := 0x0C0004, lo := 4, width := 1, acc := .ro }
def TIM_STATUS_CLASS : Field := { addr := 0x0C0004, lo := 8, width := 8, reset := 0xf8, acc := .ro }
def TIM_CTL_STEP : Field := { addr := 0x0C0008, width := 1, acc := .w1s }
def TIM_CTL_SET : Field := { addr := 0x0C0008, lo := 1, width := 1, acc := .w1s }
def TIM_NS : Field := { addr := 0x0C000C, acc := .ro }
def TIM_FRAC : Field := { addr := 0x0C0010, width := 16, acc := .ro }
def TIM_SEC_LO : Field := { addr := 0x0C0014, acc := .ro }
def TIM_SEC_HI : Field := { addr := 0x0C0018, width := 16, acc := .ro }
def TIM_ADJ_NS_ADJ : Field := { addr := 0x0C001C }
def TIM_SET_NS : Field := { addr := 0x0C0020, width := 30, maxV := 999999999 }
def TIM_SET_SEC_LO : Field := { addr := 0x0C0024 }
def TIM_SET_SEC_HI : Field := { addr := 0x0C0028, width := 16 }
def TIM_RATE_LO : Field := { addr := 0x0C002C, acc := .ro }
def TIM_RATE_HI : Field := { addr := 0x0C0030, width := 8, acc := .ro }
def TIM_SERVO_KP : Field := { addr := 0x0C0034, width := 5, reset := 0x2 }
def TIM_SERVO_KI : Field := { addr := 0x0C0034, lo := 8, width := 5, reset := 0x6 }
def TIM_LIM_FLIM : Field := { addr := 0x0C0038, width := 16, reset := 0x4e20 }
def TIM_LIM_SLIM : Field := { addr := 0x0C0038, lo := 16, width := 16, reset := 0x7d0 }
def TIM_THETA : Field := { addr := 0x0C003C, acc := .ro }
def TIM_HOLD_TMAX : Field := { addr := 0x0C0040, width := 16 }
def TIM_GM_CLASS : Field := { addr := 0x0C0044, width := 8, reset := 0xf8 }
def TIM_PPS_OUT_EN : Field := { addr := 0x0C0048, width := 1 }
def TIM_PPS_IN_EN : Field := { addr := 0x0C0048, lo := 1, width := 1 }
def TIM_PPS_WIDTH : Field := { addr := 0x0C0048, lo := 8, width := 8, reset := 0x64, minV := 1, maxV := 255 }
def TIM_PPS_IN_NS : Field := { addr := 0x0C004C, acc := .ro }
def TIM_STEP_CNT : Field := { addr := 0x0C0050 }
def TIM_OUTLIER_CNT : Field := { addr := 0x0C0054 }

/-! 12_network_time.md R555 -/

def NET_LANE_CFG_MODE : Field := { addr := 0x0B0000, width := 2, acc := .rws, stride := 0x100, count := 2 }
def NET_LANE_CFG_AN : Field := { addr := 0x0B0000, lo := 2, width := 1, acc := .rws, stride := 0x100, count := 2 }
def NET_LANE_CFG_VLAN_EN : Field := { addr := 0x0B0000, lo := 3, width := 1, acc := .rws, stride := 0x100, count := 2 }
def NET_LANE_CFG_VID : Field := { addr := 0x0B0000, lo := 4, width := 12, acc := .rws, stride := 0x100, count := 2 }
def NET_LANE_CFG_PCP : Field := { addr := 0x0B0000, lo := 16, width := 3, acc := .rws, stride := 0x100, count := 2 }
def NET_LANE_MAC_LO : Field := { addr := 0x0B0004, acc := .rws, stride := 0x100, count := 2 }
def NET_LANE_MAC_HI : Field := { addr := 0x0B0008, width := 16, acc := .rws, stride := 0x100, count := 2 }
def NET_LANE_IPCFG_SRC : Field := { addr := 0x0B000C, width := 2, acc := .rws, stride := 0x100, count := 2, maxV := 2 }
def NET_LANE_IP : Field := { addr := 0x0B0010, acc := .rws, stride := 0x100, count := 2 }
def NET_LANE_IP_NOW_IP : Field := { addr := 0x0B0014, acc := .ro, stride := 0x100, count := 2 }
def NET_LANE_CTL_EN : Field := { addr := 0x0B0018, width := 1, stride := 0x100, count := 2 }
def NET_LANE_STATUS_LINK : Field := { addr := 0x0B001C, width := 1, acc := .ro, stride := 0x100, count := 2 }
def NET_LANE_STATUS_ADDR_OK : Field := { addr := 0x0B001C, lo := 1, width := 1, acc := .ro, stride := 0x100, count := 2 }
def NET_LANE_FCS_CNT : Field := { addr := 0x0B0020, stride := 0x100, count := 2 }
def NET_LANE_FRAG_CNT : Field := { addr := 0x0B0024, stride := 0x100, count := 2 }
def NET_LANE_FILT_CNT : Field := { addr := 0x0B0028, stride := 0x100, count := 2 }

/-! 12_network_time.md R556 -/

def NET_CC_CFG_PORT : Field := { addr := 0x0B0800, width := 16 }
def NET_CC_CFG_LANES : Field := { addr := 0x0B0800, lo := 16, width := 2 }
def NET_CC_OK_CNT : Field := { addr := 0x0B0804 }
def NET_CC_FAIL_CNT : Field := { addr := 0x0B0808 }
def NET_WAKE_EN : Field := { addr := 0x0B0810, width := 1 }
def NET_WAKE_LANE : Field := { addr := 0x0B0810, lo := 1, width := 1 }
def NET_WAKE_PORT : Field := { addr := 0x0B0810, lo := 16, width := 16, reset := 0x9 }

/-! 12_network_time.md R557 -/

def NET_RX_CFG_VALID : Field := { addr := 0x0B1000, width := 1, acc := .rws, stride := 0x40, count := 128 }
def NET_TX_CFG_VALID : Field := { addr := 0x0B3000, width := 1, acc := .rws, stride := 0x40, count := 128 }
def NET_RX_CFG_GROUP : Field := { addr := 0x0B1000, lo := 1, width := 2, acc := .rws, stride := 0x40, count := 128 }
def NET_TX_CFG_GROUP : Field := { addr := 0x0B3000, lo := 1, width := 2, acc := .rws, stride := 0x40, count := 128 }
def NET_RX_CFG_PATHS : Field := { addr := 0x0B1000, lo := 3, width := 2, acc := .rws, stride := 0x40, count := 128 }
def NET_TX_CFG_PATHS : Field := { addr := 0x0B3000, lo := 3, width := 2, acc := .rws, stride := 0x40, count := 128 }
def NET_RX_CFG_ENC : Field := { addr := 0x0B1000, lo := 5, width := 1, acc := .rws, stride := 0x40, count := 128 }
def NET_TX_CFG_ENC : Field := { addr := 0x0B3000, lo := 5, width := 1, acc := .rws, stride := 0x40, count := 128 }
def NET_RX_CFG_SPP : Field := { addr := 0x0B1000, lo := 6, width := 2, acc := .rws, stride := 0x40, count := 128, maxV := 2 }
def NET_TX_CFG_SPP : Field := { addr := 0x0B3000, lo := 6, width := 2, acc := .rws, stride := 0x40, count := 128, maxV := 2 }
def NET_RX_CFG_CH : Field := { addr := 0x0B1000, lo := 8, width := 6, acc := .rws, stride := 0x40, count := 128 }
def NET_TX_CFG_CH : Field := { addr := 0x0B3000, lo := 8, width := 6, acc := .rws, stride := 0x40, count := 128 }
def NET_RX_CFG_SSRC_CHK : Field := { addr := 0x0B1000, lo := 14, width := 1, acc := .rws, stride := 0x40, count := 128 }
def NET_TX_CFG_SSRC_CHK : Field := { addr := 0x0B3000, lo := 14, width := 1, acc := .rws, stride := 0x40, count := 128 }
def NET_RX_CFG_PT : Field := { addr := 0x0B1000, lo := 15, width := 7, reset := 0x60, acc := .rws, stride := 0x40, count := 128 }
def NET_TX_CFG_PT : Field := { addr := 0x0B3000, lo := 15, width := 7, reset := 0x60, acc := .rws, stride := 0x40, count := 128 }
def NET_RX_CFG_ORND : Field := { addr := 0x0B1000, lo := 22, width := 1, acc := .rws, stride := 0x40, count := 128 }
def NET_TX_CFG_ORND : Field := { addr := 0x0B3000, lo := 22, width := 1, acc := .rws, stride := 0x40, count := 128 }
def NET_RX_DST_A : Field := { addr := 0x0B1004, stride := 0x40, count := 128 }
def NET_TX_DST_A : Field := { addr := 0x0B3004, stride := 0x40, count := 128 }
def NET_RX_DST_B : Field := { addr := 0x0B1008, stride := 0x40, count := 128 }
def NET_TX_DST_B : Field := { addr := 0x0B3008, stride := 0x40, count := 128 }
def NET_RX_SRC_A : Field := { addr := 0x0B100C, stride := 0x40, count := 128 }
def NET_TX_SRC_A : Field := { addr := 0x0B300C, stride := 0x40, count := 128 }
def NET_RX_SRC_B : Field := { addr := 0x0B1010, stride := 0x40, count := 128 }
def NET_TX_SRC_B : Field := { addr := 0x0B3010, stride := 0x40, count := 128 }
def NET_RX_PORT_PORT_A : Field := { addr := 0x0B1014, width := 16, stride := 0x40, count := 128 }
def NET_TX_PORT_PORT_A : Field := { addr := 0x0B3014, width := 16, stride := 0x40, count := 128 }
def NET_RX_PORT_PORT_B : Field := { addr := 0x0B1014, lo := 16, width := 16, stride := 0x40, count := 128 }
def NET_TX_PORT_PORT_B : Field := { addr := 0x0B3014, lo := 16, width := 16, stride := 0x40, count := 128 }
def NET_RX_SSRC : Field := { addr := 0x0B1018, stride := 0x40, count := 128 }
def NET_TX_SSRC : Field := { addr := 0x0B3018, stride := 0x40, count := 128 }
def NET_RX_TS_OFS : Field := { addr := 0x0B101C, stride := 0x40, count := 128 }
def NET_TX_TS_OFS : Field := { addr := 0x0B301C, stride := 0x40, count := 128 }
def NET_RX_CTL_EN : Field := { addr := 0x0B1020, width := 1, stride := 0x40, count := 128 }
def NET_TX_CTL_EN : Field := { addr := 0x0B3020, width := 1, stride := 0x40, count := 128 }
def NET_RX_STATUS_STATE : Field := { addr := 0x0B1024, width := 2, acc := .ro, stride := 0x40, count := 128 }
def NET_TX_STATUS_STATE : Field := { addr := 0x0B3024, width := 2, acc := .ro, stride := 0x40, count := 128 }
def NET_RX_STATUS_PATH_A : Field := { addr := 0x0B1024, lo := 2, width := 1, acc := .ro, stride := 0x40, count := 128 }
def NET_TX_STATUS_PATH_A : Field := { addr := 0x0B3024, lo := 2, width := 1, acc := .ro, stride := 0x40, count := 128 }
def NET_RX_STATUS_PATH_B : Field := { addr := 0x0B1024, lo := 3, width := 1, acc := .ro, stride := 0x40, count := 128 }
def NET_TX_STATUS_PATH_B : Field := { addr := 0x0B3024, lo := 3, width := 1, acc := .ro, stride := 0x40, count := 128 }
def NET_RX_LOSS_A_CNT : Field := { addr := 0x0B1028, stride := 0x40, count := 128 }
def NET_TX_LOSS_A_CNT : Field := { addr := 0x0B3028, stride := 0x40, count := 128 }
def NET_RX_LOSS_B_CNT : Field := { addr := 0x0B102C, stride := 0x40, count := 128 }
def NET_TX_LOSS_B_CNT : Field := { addr := 0x0B302C, stride := 0x40, count := 128 }
def NET_RX_DUP_CNT : Field := { addr := 0x0B1030, stride := 0x40, count := 128 }
def NET_TX_DUP_CNT : Field := { addr := 0x0B3030, stride := 0x40, count := 128 }
def NET_RX_BAD_CNT : Field := { addr := 0x0B1034, stride := 0x40, count := 128 }
def NET_TX_BAD_CNT : Field := { addr := 0x0B3034, stride := 0x40, count := 128 }

/-! 13_clocks.md R588 -/

def CLK_CFG_REF_SRC : Field := { addr := 0x0D0000, width := 1, acc := .ro, by_ := .ph }
def CLK_CFG_SYS_MODE : Field := { addr := 0x0D0000, lo := 1, width := 2, acc := .ro, by_ := .ph }
def CLK_CFG_REF_KHZ : Field := { addr := 0x0D0000, lo := 16, width := 16, reset := 0x61a8, acc := .ro, by_ := .ph }
def CLK_REFMODE_SP0 : Field := { addr := 0x0D0004, width := 2, acc := .rws, maxV := 2 }
def CLK_REFMODE_SP1 : Field := { addr := 0x0D0004, lo := 2, width := 2, acc := .rws, maxV := 2 }
def CLK_STATUS_SYS_LOCK : Field := { addr := 0x0D0008, width := 1, acc := .ro }
def CLK_STATUS_SP0_LOCK : Field := { addr := 0x0D0008, lo := 1, width := 1, acc := .ro }
def CLK_STATUS_SP1_LOCK : Field := { addr := 0x0D0008, lo := 2, width := 1, acc := .ro }
def CLK_STATUS_SP1_VCO : Field := { addr := 0x0D0008, lo := 3, width := 1, acc := .ro }
def CLK_STATUS_REF_HOLD : Field := { addr := 0x0D0008, lo := 4, width := 1, acc := .ro }
def CLK_STATUS_REJOINING : Field := { addr := 0x0D0008, lo := 5, width := 1, acc := .ro }
def CLK_STATUS_MUTING : Field := { addr := 0x0D0008, lo := 6, width := 1, acc := .ro }
def CLK_FAULT_CAUSE : Field := { addr := 0x0D000C, width := 4, acc := .ro, by_ := .p }
def CLK_REJOIN_MODE : Field := { addr := 0x0D0010, width := 1 }
def CLK_REJOIN_STEP_THR : Field := { addr := 0x0D0010, lo := 8, width := 8, reset := 0x5 }
def CLK_REJOIN_JUMP_THR : Field := { addr := 0x0D0010, lo := 16, width := 16, reset := 0xa, minV := 1, maxV := 65535 }
def CLK_ANCHOR : Field := { addr := 0x0D0014, acc := .ro }
def CLK_WCLK_IN_FAM : Field := { addr := 0x0D0018, width := 1, acc := .rws }
def CLK_WCLK_OUT_EN : Field := { addr := 0x0D0018, lo := 1, width := 1 }
def CLK_WCLK_OUT_SRC : Field := { addr := 0x0D0018, lo := 2, width := 1 }

/-! 13_clocks.md R589 -/

def CLK_MPLL_CFG_REF : Field := { addr := 0x0D0100, width := 2, acc := .rws, stride := 0x40, count := 2, maxV := 2 }
def CLK_MPLL_CFG_PORT : Field := { addr := 0x0D0100, lo := 2, width := 4, acc := .rws, stride := 0x40, count := 2 }
def CLK_MPLL_CFG_FALLBACK : Field := { addr := 0x0D0100, lo := 6, width := 1, acc := .rws, stride := 0x40, count := 2 }
def CLK_MPLL_CFG_SEED_SRC : Field := { addr := 0x0D0100, lo := 7, width := 1, acc := .rws, stride := 0x40, count := 2 }
def CLK_MPLL_CFG_BW : Field := { addr := 0x0D0100, lo := 8, width := 2, reset := 0x2, acc := .rws, stride := 0x40, count := 2 }
def CLK_MPLL_SEED : Field := { addr := 0x0D0104, acc := .rws, stride := 0x40, count := 2 }
def CLK_MPLL_LIM_FLIM : Field := { addr := 0x0D0108, width := 16, reset := 0x4e20, stride := 0x40, count := 2 }
def CLK_MPLL_LIM_SLIM : Field := { addr := 0x0D0108, lo := 16, width := 16, reset := 0x7d0, stride := 0x40, count := 2 }
def CLK_MPLL_STATUS_STATE : Field := { addr := 0x0D010C, width := 3, acc := .ro, stride := 0x40, count := 2 }
def CLK_MPLL_STATUS_FAST : Field := { addr := 0x0D010C, lo := 3, width := 1, acc := .ro, stride := 0x40, count := 2 }
def CLK_MPLL_RATIO_LO_FRAC : Field := { addr := 0x0D0110, acc := .ro, stride := 0x40, count := 2 }
def CLK_MPLL_RATIO_HI_INT : Field := { addr := 0x0D0114, width := 10, acc := .ro, stride := 0x40, count := 2 }
def CLK_MPLL_PHASE_ERR : Field := { addr := 0x0D0118, acc := .ro, stride := 0x40, count := 2 }
def CLK_MPLL_RELOCK_CNT : Field := { addr := 0x0D011C, stride := 0x40, count := 2 }
def CLK_MPLL_HOLD_CNT : Field := { addr := 0x0D0120, stride := 0x40, count := 2 }

/-! 13_clocks.md R590 -/

def CLK_IN_STATUS_STATE : Field := { addr := 0x0D0200, width := 3, acc := .ro, stride := 0x10, count := 18 }
def CLK_IN_PERIOD : Field := { addr := 0x0D0204, acc := .ro, stride := 0x10, count := 18 }
def CLK_IN_GLITCH_CNT : Field := { addr := 0x0D0208, stride := 0x10, count := 18 }
def CLK_IN_STOP_CNT : Field := { addr := 0x0D020C, stride := 0x10, count := 18 }

/-! 14_configuration_bitstream.md R621 -/

def LDR_CTL_GO : Field := { addr := 0x018000, width := 1, acc := .w1s }
def LDR_SRC_ADDR : Field := { addr := 0x018004, width := 28 }
def LDR_SRC_LEN : Field := { addr := 0x018008, width := 27 }
def LDR_STATUS_STATE : Field := { addr := 0x01800C, width := 3, acc := .ro, by_ := .ph }
def LDR_STATUS_RESULT : Field := { addr := 0x01800C, lo := 4, width := 3, acc := .ro, by_ := .ph }
def LDR_STATUS_GO_IGNORED : Field := { addr := 0x01800C, lo := 7, width := 1, acc := .w1c, by_ := .ph }
def LDR_STATUS_UNVERIFIED : Field := { addr := 0x01800C, lo := 8, width := 1, acc := .ro, by_ := .ph }
def LDR_STATUS_KIND : Field := { addr := 0x01800C, lo := 9, width := 1, acc := .ro, by_ := .ph }
def LDR_STATUS_SKIPPED : Field := { addr := 0x01800C, lo := 16, width := 16, acc := .ro, by_ := .ph }
def LDR_ERR_CODE : Field := { addr := 0x018010, width := 8, acc := .ro, by_ := .ph }
def LDR_ERR_RECORD : Field := { addr := 0x018010, lo := 8, width := 24, acc := .ro, by_ := .ph }
def LDR_ERR_OFS : Field := { addr := 0x018014, acc := .ro, by_ := .ph }
def LDR_ERR_ARG : Field := { addr := 0x018018, acc := .ro, by_ := .ph }
def LDR_BOOT_SEQ_LO : Field := { addr := 0x01801C, acc := .ro }
def LDR_BOOT_SEQ_HI : Field := { addr := 0x018020, acc := .ro }
def LDR_RESTORE_VALID : Field := { addr := 0x018024, width := 4, acc := .ro }
def LDR_RESTORE_SKIP : Field := { addr := 0x018024, lo := 4, width := 4, acc := .ro }
def LDR_GRP_SEQ_LO : Field := { addr := 0x018040, acc := .ro, stride := 0x8, count := 4 }
def LDR_GRP_SEQ_HI : Field := { addr := 0x018044, acc := .ro, stride := 0x8, count := 4 }

/-! 15_boot_security.md R660 -/

def SEC_STATUS_UNVERIFIED : Field := { addr := 0x130000, width := 1, acc := .ro, by_ := .sec }
def SEC_STATUS_DEV : Field := { addr := 0x130000, lo := 1, width := 1, acc := .ro, by_ := .sec }
def SEC_STATUS_TRIAL : Field := { addr := 0x130000, lo := 2, width := 1, acc := .ro, by_ := .sec }
def SEC_STATUS_FALLBACK : Field := { addr := 0x130000, lo := 3, width := 1, acc := .ro, by_ := .sec }
def SEC_STATUS_MINVER_LOST : Field := { addr := 0x130000, lo := 4, width := 1, acc := .ro, by_ := .sec }
def SEC_STATUS_FAST_PATH : Field := { addr := 0x130000, lo := 5, width := 1, acc := .ro, by_ := .sec }
def SEC_STATUS_ROM_HIDDEN : Field := { addr := 0x130000, lo := 6, width := 1, acc := .ro, by_ := .sec }
def SEC_STATUS_KEYS_LOCKED : Field := { addr := 0x130000, lo := 7, width := 1, acc := .ro, by_ := .sec }
def SEC_BOOT_SLOT : Field := { addr := 0x130004, width := 1, acc := .ro, by_ := .sec }
def SEC_BOOT_STATE_A : Field := { addr := 0x130004, lo := 1, width := 3, acc := .ro, by_ := .sec }
def SEC_BOOT_STATE_B : Field := { addr := 0x130004, lo := 4, width := 3, acc := .ro, by_ := .sec }
def SEC_BOOT_LAST_FAIL_A : Field := { addr := 0x130004, lo := 8, width := 8, acc := .ro, by_ := .sec }
def SEC_BOOT_LAST_FAIL_B : Field := { addr := 0x130004, lo := 16, width := 8, acc := .ro, by_ := .sec }
def SEC_SEQ_LO : Field := { addr := 0x130008, acc := .ro, by_ := .sec }
def SEC_SEQ_HI : Field := { addr := 0x13000C, acc := .ro, by_ := .sec }
def SEC_VERSION : Field := { addr := 0x130010, acc := .ro, by_ := .sec }
def SEC_EPOCH_FUSE : Field := { addr := 0x130014, width := 6, acc := .ro, by_ := .sec }
def SEC_IMG_EPOCH : Field := { addr := 0x130018, acc := .ro, by_ := .sec }
def SEC_MINVER : Field := { addr := 0x13001C, acc := .ro, by_ := .sec }
def SEC_KEYS_PRESENT : Field := { addr := 0x130020, width := 4, acc := .ro, by_ := .sec }
def SEC_KEYS_REVOKED : Field := { addr := 0x130020, lo := 4, width := 4, acc := .ro, by_ := .sec }
def SEC_KEYS_LOADED : Field := { addr := 0x130020, lo := 8, width := 4, acc := .ro, by_ := .sec }
def SEC_KEYS_SIGNER : Field := { addr := 0x130020, lo := 12, width := 2, acc := .ro, by_ := .sec }
def SEC_TRIAL_SECONDS : Field := { addr := 0x130024, width := 12, acc := .ro, by_ := .sec }
def SEC_ATTEMPTS : Field := { addr := 0x130028, width := 16, acc := .ro, by_ := .sec }
def SEC_CC_KEYS_PRESENT : Field := { addr := 0x13002C, width := 4, acc := .ro, by_ := .sec }
def SEC_CC_KEYS_LOCKED : Field := { addr := 0x13002C, lo := 4, width := 4, acc := .ro, by_ := .sec }
def SEC_RCV_CTL_START : Field := { addr := 0x130040, width := 1, acc := .w1s, by_ := .sec }
def SEC_RCV_CTL_DONE : Field := { addr := 0x130040, lo := 1, width := 1, acc := .w1s, by_ := .sec }
def SEC_RCV_CTL_ABORT : Field := { addr := 0x130040, lo := 2, width := 1, acc := .w1s, by_ := .sec }
def SEC_RCV_CTL_SLOT : Field := { addr := 0x130040, lo := 3, width := 1, by_ := .sec }
def SEC_RCV_LEN : Field := { addr := 0x130044, width := 26, by_ := .sec }
def SEC_RCV_DATA : Field := { addr := 0x130048, acc := .wo, by_ := .sec }
def SEC_RCV_STATUS_STATE : Field := { addr := 0x13004C, width := 2, acc := .ro, by_ := .sec }
def SEC_RCV_STATUS_ERR : Field := { addr := 0x13004C, lo := 2, width := 1, acc := .w1c, by_ := .sec }

/-! 16_management_host.md R700 -/

def HST_STATUS_QSPI_ERR : Field := { addr := 0x110000, width := 1, acc := .w1c }
def HST_STATUS_I2C_TIMEOUT : Field := { addr := 0x110000, lo := 1, width := 1, acc := .w1c }
def HST_STATUS_LATE_WR : Field := { addr := 0x110000, lo := 2, width := 1, acc := .ro }
def HST_QSPI_CRC_CNT : Field := { addr := 0x110004 }
def HST_RST_KEY : Field := { addr := 0x110008, width := 8, acc := .wo }
def HST_RST_KIND : Field := { addr := 0x110008, lo := 8, width := 2, acc := .wo }
def HST_I2C_ADDR : Field := { addr := 0x11000C, width := 7, reset := (0x2C + Config.bootsel.toNat), acc := .ro }
def HST_GPIO_DIR : Field := { addr := 0x110020, width := 16 }
def HST_GPIO_OUT : Field := { addr := 0x110024, width := 16 }
def HST_GPIO_IN : Field := { addr := 0x110028, width := 16, acc := .ro }
def HST_GPIO_FUNC : Field := { addr := 0x11002C }
def HST_GPIO_INT_EN : Field := { addr := 0x110030, width := 16 }
def HST_GPIO_INT_EDGE : Field := { addr := 0x110034 }
def HST_GPIO_INT_PEND : Field := { addr := 0x110038, width := 16, acc := .w1c }
def HST_GPIO_SEL_EV : Field := { addr := 0x110040, width := 7, stride := 0x4, count := 16 }
def HST_GPIO_SEL_GROUP : Field := { addr := 0x110040, lo := 8, width := 2, stride := 0x4, count := 16 }
def HST_IRQ_CFG_POL_OD : Field := { addr := 0x110080, width := 8, reset := 0xaa }
def HST_XSPI_STATUS_PROT_HIT : Field := { addr := 0x1100C0, width := 1, acc := .w1c }
def HST_XSPI_STATUS_ECC_ERR : Field := { addr := 0x1100C0, lo := 1, width := 1, acc := .w1c }
def HST_XSPI_STATUS_BUSY : Field := { addr := 0x1100C0, lo := 2, width := 1, acc := .ro }
def HST_XSPI_STATUS_SUSPENDED : Field := { addr := 0x1100C0, lo := 3, width := 1, acc := .ro }

/-! 16_management_host.md R701 -/

def MBX_REQ_WORD : Field := { addr := 0x120000, stride := 0x4, count := 256 }
def MBX_RSP_WORD : Field := { addr := 0x120400, acc := .ro, stride := 0x4, count := 256 }
def MBX_CTL_GO : Field := { addr := 0x120800, width := 1, acc := .w1s }
def MBX_STATUS_STATE : Field := { addr := 0x120804, width := 2, acc := .ro }
def MBX_STATUS_OVR : Field := { addr := 0x120804, lo := 2, width := 1, acc := .w1c }
def MBX_STATUS_READY : Field := { addr := 0x120804, lo := 3, width := 1, acc := .ro }
def MGT_TEMP_T : Field := { addr := 0x120900, width := 16, acc := .ro, stride := 0x4, count := 6 }
def MGT_TEMP_PEAK : Field := { addr := 0x120900, lo := 16, width := 16, acc := .ro, stride := 0x4, count := 6 }
def MGT_SUP_VALUE : Field := { addr := 0x120920, width := 16, acc := .ro, stride := 0x4, count := 8 }
def MGT_SUP_LIM_LO : Field := { addr := 0x120940, width := 16, stride := 0x4, count := 8 }
def MGT_SUP_LIM_HI : Field := { addr := 0x120940, lo := 16, width := 16, reset := 0xffff, stride := 0x4, count := 8 }
def MGT_THERM_CFG_WARN : Field := { addr := 0x120980, width := 8, reset := thermWarnReset }
def MGT_THERM_CFG_HOT : Field := { addr := 0x120980, lo := 8, width := 8, reset := thermHotReset }
def MGT_THERM_CFG_HOT_ACT : Field := { addr := 0x120980, lo := 16, width := 2, maxV := 2 }
def MGT_THERM_STATUS_LEVEL : Field := { addr := 0x120984, width := 2, acc := .ro }
def MGT_THERM_STATUS_TRIPPED : Field := { addr := 0x120984, lo := 2, width := 1, acc := .w1c, by_ := .p }
def MGT_THERM_STATUS_TRIP_SENSOR : Field := { addr := 0x120984, lo := 4, width := 3, acc := .ro, by_ := .p }
def MGT_LOG_STATUS_PENDING : Field := { addr := 0x120990, width := 9, acc := .ro }
def MGT_LOG_STATUS_LOST : Field := { addr := 0x120990, lo := 9, width := 1, acc := .w1c }
def MGT_LOG_STATUS_PLOG_FAIL : Field := { addr := 0x120990, lo := 10, width := 1, acc := .w1c }
def MGT_LOG_STATUS_TUN_LOST : Field := { addr := 0x120990, lo := 16, width := 8, acc := .ro }

/-! 17_power.md R733 -/

def PWR_STATUS_STATE : Field := { addr := 0x0E0000, width := 2, acc := .ro }
def PWR_STATUS_DOMAINS : Field := { addr := 0x0E0000, lo := 4, width := 12, reset := 0xf, acc := .ro }
def PWR_STATUS_BO_WARN : Field := { addr := 0x0E0000, lo := 16, width := 1, acc := .ro }
def PWR_STATUS_PL_BUSY : Field := { addr := 0x0E0000, lo := 17, width := 1, acc := .ro }
def PWR_CFG_PL_DEFAULT : Field := { addr := 0x0E0004, width := 3, reset := 0x2, acc := .rws, maxV := 5 }
def PWR_CFG_RETAIN_ON_PINRST : Field := { addr := 0x0E0004, lo := 3, width := 1, acc := .rws }
def PWR_CFG_BO_MUTE : Field := { addr := 0x0E0004, lo := 4, width := 1, acc := .rws }
def PWR_CFG_BO_DROP : Field := { addr := 0x0E0004, lo := 5, width := 1, acc := .rws }
def PWR_CFG_BO_FLASH : Field := { addr := 0x0E0004, lo := 6, width := 1, reset := 0x1, acc := .rws }
def PWR_CFG_WAKE_SRC : Field := { addr := 0x0E0004, lo := 8, width := 7, acc := .rws }
def PWR_PL_REQ_LEVEL : Field := { addr := 0x0E0008, width := 3, reset := 0x2, maxV := 5 }
def PWR_PL_STATUS_CUR : Field := { addr := 0x0E000C, width := 3, reset := 0x2, acc := .ro }
def PWR_PL_STATUS_TARGET : Field := { addr := 0x0E000C, lo := 4, width := 3, reset := 0x2, acc := .ro }
def PWR_PL_STATUS_REFUSED : Field := { addr := 0x0E000C, lo := 8, width := 1, acc := .w1c }
def PWR_PL_STATUS_REFUSER : Field := { addr := 0x0E000C, lo := 12, width := 4, acc := .ro }
def PWR_PL_STATUS_SOURCE : Field := { addr := 0x0E000C, lo := 16, width := 2, acc := .ro }
def PWR_PL_MGT_LEVEL : Field := { addr := 0x0E0010, width := 3, acc := .ro }
def PWR_PL_MGT_EN : Field := { addr := 0x0E0010, lo := 3, width := 1, acc := .ro }
def PWR_SLEEP_CTL_STATE : Field := { addr := 0x0E0014, width := 3, reset := 0x1, minV := 1, maxV := 4 }
def PWR_SLEEP_CTL_STOP : Field := { addr := 0x0E0014, lo := 3, width := 1 }
def PWR_SLEEP_CTL_GO : Field := { addr := 0x0E0014, lo := 4, width := 1, acc := .w1s }
def PWR_SLEEP_CTL_WAKE : Field := { addr := 0x0E0014, lo := 5, width := 1, acc := .w1s }
def PWR_SLEEP_STATUS_RESULT : Field := { addr := 0x0E0018, width := 2, acc := .ro }
def PWR_SLEEP_STATUS_OVR : Field := { addr := 0x0E0018, lo := 2, width := 1, acc := .w1c }
def PWR_REFUSE_CNT : Field := { addr := 0x0E001C }
def PWR_LAST_REFUSER_CLIENT : Field := { addr := 0x0E0020, width := 4, acc := .ro }
def PWR_LAST_REFUSER_PHASE : Field := { addr := 0x0E0020, lo := 4, width := 1, acc := .ro }
def PWR_LAST_REFUSER_TARGET : Field := { addr := 0x0E0020, lo := 5, width := 3, acc := .ro }
def PWR_WAKE_CFG_MODE0 : Field := { addr := 0x0E0024, width := 1 }
def PWR_WAKE_CFG_POL0 : Field := { addr := 0x0E0024, lo := 1, width := 1 }
def PWR_WAKE_CFG_MODE1 : Field := { addr := 0x0E0024, lo := 2, width := 1 }
def PWR_WAKE_CFG_POL1 : Field := { addr := 0x0E0024, lo := 3, width := 1 }
def PWR_WAKE_CFG_RESLEEP : Field := { addr := 0x0E0024, lo := 4, width := 1 }
def PWR_WAKE_CAUSE_ACTIVE : Field := { addr := 0x0E0028, width := 7, acc := .ro, by_ := .p }
def PWR_WAKE_CAUSE_HOST : Field := { addr := 0x0E0028, lo := 7, width := 1, acc := .ro, by_ := .p }
def PWR_WAKE_CAUSE_FIRST : Field := { addr := 0x0E0028, lo := 8, width := 4, acc := .ro, by_ := .p }
def PWR_BO_MIN_MV : Field := { addr := 0x0E002C, width := 13, reset := 0x1fff, acc := .w1c, by_ := .por }
def PWR_BO_CNT : Field := { addr := 0x0E0030, by_ := .por }
def PWR_DEMAND_HOLD : Field := { addr := 0x0E0034, width := 8, reset := 0x64, minV := 1, maxV := 255 }
def PWR_VOTE_DOMAINS : Field := { addr := 0x0E0040, width := 12, stride := 0x4, count := 16 }
def PWR_VOTE_DEEPEST : Field := { addr := 0x0E0040, lo := 12, width := 3, reset := 0x4, stride := 0x4, count := 16 }

/-! 18_faults_integrity.md R755 -/

def FLT_CFG_CORE_RETRY : Field := { addr := 0x0F0000, width := 1, reset := 0x1 }
def FLT_CFG_CORE_LIM : Field := { addr := 0x0F0000, lo := 4, width := 4, reset := 0x4 }
def FLT_SUM_MEM_LASTING : Field := { addr := 0x0F0004, width := 16, acc := .w1c }
def FLT_SUM_LINK_LASTING : Field := { addr := 0x0F0004, lo := 16, width := 4, acc := .w1c }
def FLT_SUM_BCE_UE : Field := { addr := 0x0F0004, lo := 20, width := 1, acc := .w1c }
def FLT_SUM_XBAR : Field := { addr := 0x0F0004, lo := 21, width := 1, acc := .w1c }
def FLT_SUM_LOCAL_LASTING : Field := { addr := 0x0F0004, lo := 22, width := 1, acc := .w1c }
def FLT_STATUS_RETRYING : Field := { addr := 0x0F0008, width := 16, acc := .ro }
def FLT_XBAR_RETRY_CNT : Field := { addr := 0x0F000C }
def FLT_XBAR_FAIL_CNT : Field := { addr := 0x0F0010 }

/-! 18_faults_integrity.md R756 -/

def FLT_CORE_STATUS_CAUSE : Field := { addr := 0x0F0100, width := 4, acc := .ro, by_ := .ph, stride := 0x20, count := 16 }
def FLT_CORE_STATUS_PHASE : Field := { addr := 0x0F0100, lo := 4, width := 2, acc := .ro, by_ := .ph, stride := 0x20, count := 16 }
def FLT_CORE_STATUS_BUNDLE : Field := { addr := 0x0F0100, lo := 8, width := 15, acc := .ro, by_ := .ph, stride := 0x20, count := 16 }
def FLT_CORE_IDX_LO : Field := { addr := 0x0F0104, acc := .ro, by_ := .ph, stride := 0x20, count := 16 }
def FLT_CORE_IDX_HI : Field := { addr := 0x0F0108, acc := .ro, by_ := .ph, stride := 0x20, count := 16 }
def FLT_CORE_LADDR_WORD : Field := { addr := 0x0F010C, width := 16, acc := .ro, by_ := .ph, stride := 0x20, count := 16 }
def FLT_CORE_LADDR_MEM : Field := { addr := 0x0F010C, lo := 16, width := 2, acc := .ro, by_ := .ph, stride := 0x20, count := 16 }
def FLT_CORE_LADDR_HALF : Field := { addr := 0x0F010C, lo := 18, width := 1, acc := .ro, by_ := .ph, stride := 0x20, count := 16 }
def FLT_CORE_LADDR_WINCNT : Field := { addr := 0x0F010C, lo := 24, width := 8, acc := .ro, by_ := .ph, stride := 0x20, count := 16 }
def FLT_CORE_RETRY_OK_CNT : Field := { addr := 0x0F0110, stride := 0x20, count := 16 }
def FLT_CORE_LCE_CNT : Field := { addr := 0x0F0114, stride := 0x20, count := 16 }
def FLT_CORE_LLAST_CNT : Field := { addr := 0x0F0118, stride := 0x20, count := 16 }
def FLT_CORE_LUE_CNT : Field := { addr := 0x0F011C, stride := 0x20, count := 16 }

/-! 19_resets_retention.md R761 -/

def GLB_RST_CAUSE_LAST : Field := { addr := 0x000020, width := 4, reset := 0x1, acc := .ro, by_ := .never }
def GLB_RST_HIST_SEEN : Field := { addr := 0x000024, lo := 1, width := 12, reset := 0x1, acc := .w1c, by_ := .never }

/-! 20_register_map.md R772 -/

def GLB_ID_PART : Field := { addr := 0x000000, lo := 8, width := 24, reset := 0x164800, acc := .ro, by_ := .never }
def GLB_ID_STEP : Field := { addr := 0x000000, width := 8, reset := Config.siliconStep.toNat, acc := .ro, by_ := .never }
def GLB_GRADE : Field := { addr := 0x000004, width := 1, reset := (if Config.partGradeIbg then 1 else 0), acc := .ro, by_ := .never }
def GLB_STRAP_BOOTSEL : Field := { addr := 0x000008, width := 2, reset := Config.bootsel.toNat, acc := .ro, by_ := .never }
def GLB_SCRATCH_DATA : Field := { addr := 0x000010, by_ := .p }
def GLB_BUS_ERR_UNMAPPED : Field := { addr := 0x000030, width := 1, acc := .w1c, by_ := .ph }
def GLB_BUS_ERR_IFACE : Field := { addr := 0x000030, lo := 1, width := 1, acc := .ro, by_ := .ph }
def GLB_BUS_ERR_WRITE : Field := { addr := 0x000030, lo := 2, width := 1, acc := .ro, by_ := .ph }
def GLB_BUS_ADDR : Field := { addr := 0x000034, width := 24, acc := .ro, by_ := .ph }

/-! 20_register_map.md R781 -/

def EVT_PEND : Field := { addr := 0x100000, acc := .w1c, stride := 0x4, count := 4 }
def EVT_ROUTE : Field := { addr := 0x100040, acc := .rws, stride := 0x4, count := 32 }
def EVT_MASK : Field := { addr := 0x100100, stride := 0x10, count := 4, stride2 := 4, count2 := 4 }
def EVT_IRQ_STATUS_ASSERTED : Field := { addr := 0x100140, width := 4, acc := .ro }
def EVT_IRQ_VEC_EV : Field := { addr := 0x100150, width := 7, acc := .ro, stride := 0x4, count := 4 }
def EVT_IRQ_VEC_VALID : Field := { addr := 0x100150, lo := 31, width := 1, acc := .ro, stride := 0x4, count := 4 }
def EVT_FORCE_EV : Field := { addr := 0x100180, width := 7 }
def EVT_FORCE_GO : Field := { addr := 0x100180, lo := 8, width := 1, acc := .w1s }
def EVT_CNT : Field := { addr := 0x100200, stride := 0x4, count := 128 }

/-! The fields as lists, for the decoding of host accesses and for resets. -/

def fieldTable0 : List Field :=
  [SE_STATUS_BIST_FAIL, SE_STATUS_RG_ON, SE_QUAR, SE_RG_CFG_RATE,
   SE_RG_CFG_MINPL, SE_RG_CFG_MEMBERS, SE_RG_CTL_RUN, SE_RG_CTL_MODE,
   SE_RG_CTL_UNMUTE, SE_RG_CTL_MUTE, SE_RG_CTL_LATE_LIMIT, SE_RG_CTL_SAFE_RAMP,
   SE_RG_SAFE_GAIN, SE_RG_STATUS_STATE, SE_RG_STATUS_RAMPING, SE_RG_STATUS_MUTE_CAUSE,
   SE_RG_STATUS_CONSEC_LATE, SE_RG_STATUS_ACTIVE, SE_RG_LATE_CNT, SE_RG_DECL_MIN,
   SE_RG_DECL_MIN_BUDGET, SE_RG_TICK_LO_INDEX_LO, SE_RG_TICK_HI_INDEX_HI, SE_RG_TICK_NS,
   SE_RG_TICK_FRAC, SE_RG_TICK_SEC_LO, SE_RG_TICK_SEC_HI, SE_RG_SAFEMAP_CNT,
   SE_SAFEMAP_IN_CH, SE_SAFEMAP_OUT_CH, SC_CFG_ROLE, SC_CFG_GROUP,
   SC_CFG_PRIMARY, SC_STATUS_STATE, SC_STATUS_PPAGE, SC_STATUS_CPAGE,
   SC_STATUS_LATE, SC_STATUS_FAULT, SC_CTL_TAKEOVER, SC_CTL_CLR_PEAK,
   SC_PROG_LEN, SC_PROG_LEN_DECL_MIN, SC_CYC_LAST, SC_CYC_PEAK,
   SC_STALL_LAST, SC_STALL_PEAK, SC_STALL_TOTAL, SC_LATE_CNT,
   SC_FAULT_CNT, SC_SAT_OUT_SAT, SC_SAT_ACC_SAT, SC_SAT_SAFE_SAT,
   SC_SAT_CNT, SC_STWR_LAST, SC_STWR_DECL, SE_GEN_CFG_KIND,
   SE_GEN_CFG_TAPMODE, SE_GEN_CFG_TCF, SE_GEN_CFG_BANK0, SE_GEN_CFG_NBANK]

def fieldTable1 : List Field :=
  [SE_GEN_CFG_PTAB, SE_GEN_BASE, SE_GEN_LEN, SE_GEN_ORIGIN,
   SE_GEN_STEP, SE_GEN_LINES, SE_GEN_LINES_CH, SE_GEN_IDX_INDEX,
   SE_ADDR_DLY_CLAMP, SE_ADDR_TAP_CLAMP, SE_LOAD_TAPS, SE_LOAD_WINMAX,
   MEM_STATUS_SPARGING, MEM_STATUS_SPARE_EXH, MEM_RET_MASK, MEM_SCRUB_RUN_EN,
   MEM_SCRUB_SLEEP_EN, MEM_SCRUB_PERIOD, MEM_SCRUB_STAT_CE, MEM_SCRUB_STAT_UE,
   MEM_SCRUB_STAT_PASSES, MEM_WIN_SEL_SPACE, MEM_WIN_SEL_BANK, MEM_WIN_SEL_PAGE,
   MEM_WIN_STATUS_VIOL, MEM_WIN_STATUS_RANGE, MEM_WIN_STATUS_SPARGE_HIT, MEM_CAP0_WORD,
   MEM_CAP0_BANK, MEM_CAP0_REQ, MEM_CAP0_KIND, MEM_CAP1_VALID,
   MEM_SCRUB_UE_WORD, MEM_SCRUB_UE_BANK, MEM_SCRUB_UE_VALID, MEM_BANK_CFG_OWNER,
   MEM_BANK_CFG_PUB, MEM_BANK_CFG_HANDOVER, MEM_BANK_CFG_ALLOWED, MEM_BANK_CTL_RELEASE,
   MEM_BANK_CTL_GRANT, MEM_BANK_CTL_GRANT_TO, MEM_BANK_STATUS_OWNER_NOW, MEM_BANK_STATUS_RELEASED,
   MEM_BANK_STATUS_SPARGING, MEM_BANK_STATUS_RETAINED, MEM_BANK_STATUS_HANDOVER_ERR, MEM_BANK_STATUS_SPARES_MIN,
   MEM_BANK_STATUS_SPARE_Q, MEM_BANK_NONOWNER_CNT, MEM_BANK_UNPUB_CNT, MEM_BANK_WLOST_CNT,
   MEM_BANK_CE_CNT, MEM_BANK_UE_CNT, MEM_BANK_LASTING_CNT, MEM_BANK_LOAD_CORE,
   MEM_BANK_LOAD_NONCORE, MEM_BANK_QWAIT_PEAK, MEM_BANK_QWAIT_GUARD_CNT, MEM_BANK_QCLR_CLR]

def fieldTable2 : List Field :=
  [UC_STATUS_SYNC_BUSY, UC_STATUS_SL_ARMED, UC_STATUS_MORPHING, UC_CTL_SYNC_MODE,
   UC_CTL_JNL_EN, UC_CW_SEL_CORES, UC_CW_SEL_PAGE, UC_CW_ADDR_INDEX,
   UC_CW_ADDR_AUTOINC, UC_CW_DATA, UC_CW_STATUS_DISCARD, UC_CW_STATUS_NO_CORE,
   UC_GL_SEL_CORES, UC_GL_CFG_INDEX, UC_GL_CFG_K, UC_GL_CFG_LAW,
   UC_GL_CFG_START, UC_GL_TARGET, UC_GL_STATUS_FULL, UC_GL_STATUS_LOG_FALLBACK,
   UC_GL_STATUS_NOGROUP, UC_BC_ID, UC_BC_NS, UC_BC_SEC_LO,
   UC_BC_SEC_HI, UC_BC_CTL_GO, UC_BC_MISS_CNT, UC_JNL_CFG_BANK,
   UC_JNL_CFG_SIZE, UC_JNL_BASE, UC_JNL_STATUS_ENTRIES, UC_JNL_STATUS_FULL,
   UC_JNL_STATUS_SKIP, UC_JNL_CTL_CLEAR, UC_SL_CFG_CORES, UC_SL_CFG_PAGES,
   UC_SL_CFG_MORPH, UC_SL_CFG_MEXP, UC_SL_CFG_MODE, UC_SL_CFG_GLIDES,
   UC_SL_CFG_JOURNAL, UC_SL_TIME_NS, UC_SL_TIME_SEC_LO, UC_SL_TIME_SEC_HI,
   UC_SL_ID, UC_SL_CTL_ARM, UC_SL_CTL_CANCEL, UC_SL_STATUS_STATE,
   UC_SL_STATUS_DEGRADED, UC_SL_STATUS_RESULT, UC_SL_STATUS_CAUSE, UC_SL_EFF_LO,
   UC_SL_EFF_HI, UC_SL_COUNT, UC_SL_REFUSE_CNT, UC_CORE_STATUS_CH_VERIFIED,
   UC_CORE_STATUS_XF_OK, UC_CORE_STATUS_SYNC_BUSY, UC_CORE_STATUS_GL_RUN, UC_CORE_STATUS_CH_LEN]

def fieldTable3 : List Field :=
  [UC_CORE_XF_XF_MIN, UC_CORE_XF_XF_STWR, UC_CORE_GL_STAGED, BCE_CTL_EN,
   BCE_CTL_WARN, BCE_STATUS_RUN, BCE_STATUS_STOPPING, BCE_STATUS_SWAP_ERR,
   BCE_STATUS_EN_ERR, BCE_DENSITY_LOAD, BCE_DENSITY_BUSY, BCE_MISS_CNT,
   BCE_SAT_CNT, BCE_EXP_CNT, BCE_SWAP_OLD, BCE_SWAP_NEW,
   BCE_SWAP_GO, BCE_BANKQ0_Q, BCE_BANKQ1_Q, BCE_JOB_CFG_VALID,
   BCE_JOB_CFG_GROUP, BCE_JOB_CFG_FIRST, BCE_JOB_CFG_IN_CH, BCE_JOB_SEG_C,
   BCE_JOB_HEAD_H, BCE_JOB_FDL_BASE, BCE_JOB_FDL_LOC, BCE_JOB_STATUS_STATE,
   BCE_JOB_START_LO, BCE_JOB_START_HI, BCE_FLT_CFG_VALID, BCE_FLT_CFG_JOB,
   BCE_FLT_SPEC_BASE, BCE_FLT_SPEC_LOC, BCE_FLT_RING_BASE, BCE_FLT_RING_RLOG2,
   BCE_FLT_TAIL_TB, BCE_FLT_TAIL_TBANK, BCE_FLT_STAMP_SB, BCE_FLT_STAMP_SBANK,
   BCE_FLT_CTL_EN, BCE_FLT_STATUS_STATE, BCE_FLT_STATUS_LAST_DROP, BCE_FLT_EFF_LO,
   BCE_FLT_EFF_HI, BCE_FLT_MISS_CNT, PRB_CTL_EN, PRB_CTL_GROUP,
   PRB_CTL_LOOP_EN, PRB_STATUS_RUN, PRB_STATUS_BACKLOG, PRB_STATUS_OFS_CLAMP,
   PRB_WEIR_MARGIN, PRB_WEIR_KA, PRB_WEIR_KR, PRB_WEIR_FLOOR,
   PRB_WEIR_FLOOR_EN, PRB_STEEP_SECONDS, PRB_RES_BASE, PRB_RES_BASE_BANK]

def fieldTable4 : List Field :=
  [PRB_RES_STRIDE, PRB_CLIP_CNT, PRB_DROP_CNT, PRB_LATE_CNT,
   PRB_SG_CFG_KIND, PRB_SG_CFG_ORDER, PRB_SG_CFG_SEED_SRC, PRB_SG_SEED,
   PRB_OUT_CFG_VALID, PRB_OUT_CFG_SG, PRB_OUT_CFG_FORCE_BCE, PRB_OUT_CFG_SINK_CH,
   PRB_OUT_SHIFT, PRB_OUT_MASK_MASK_CH, PRB_OUT_MASK_MICS, PRB_OUT_IR_K,
   PRB_OUT_IR_OFS, PRB_OUT_ATTEN_A, PRB_OUT_STATUS_ACTIVE, PRB_OUT_STATUS_SUPPRESSED,
   PRB_LOOP_CFG_CORE, PRB_LOOP_CFG_WORD, PRB_LOOP_CFG_NC, PRB_LOOP_LIM_STEP_MAX,
   PRB_LOOP_LIM_BOOST_MAX, PRB_LOOP_LIM_CUT_MAX, PRB_LOOP_LIM_SNR_MIN, PRB_LOOP_LIM_GLIDE_K,
   PRB_LOOP_LIM_EN, PRB_LOOP_STATUS_STATE, PRB_LOOP_STATUS_AT_LIMIT, PRB_LOOP_STATUS_HOLD_CAUSE,
   PRB_LOOP_STATUS_SKIPS, PRB_LOOP_STATUS_UPDATES, PRB_LOOP_TGT_T, PRB_MIC_CFG_VALID,
   PRB_MIC_CFG_CH, PRB_MIC_OFS, PRB_MIC_EXCL_CNT, PRB_PAIR_SLOT,
   STR_STATUS_LOADED, STR_TBL_SEL_TABLE, STR_TBL_SEL_WORD, STR_TBL_SEL_INDEX,
   STR_TBL_DATA, STR_BANKQ0_Q, STR_BANKQ1_Q, STR_QDROP_CNT,
   STR_SEAL_FAIL_CNT, STR_SEAL_ABSENT_CNT, STR_NA_CNT, STR_AG_CFG_VALID,
   STR_AG_CFG_LOCKSTEP, STR_AG_CFG_GROUP, STR_AG_LAT, STR_AG_STATUS_MEMBERS,
   STR_AG_STATUS_CONCEALING, STR_AG_UNDER_CNT, STR_AG_LATE_CNT, STR_AG_EARLY_CNT]

def fieldTable5 : List Field :=
  [STR_AG_LAST_LO, STR_AG_LAST_HI, STR_HG_CFG_RAMP, STR_HG_TIME_NS,
   STR_HG_TIME_SEC_LO, STR_HG_TIME_SEC_HI, STR_HG_CTL_OPEN, STR_HG_CTL_CLOSE,
   STR_HG_CTL_CANCEL, STR_HG_STATUS_STATE, STR_HG_STATUS_REFUSED, STR_HG_EFF_LO,
   STR_HG_EFF_HI, SAP_CFG_FMT, SAP_CFG_MODE, SAP_CFG_GROUP,
   SAP_CFG_SLOTS, SAP_CFG_SLOTW, SAP_CFG_WORDW, SAP_CFG_FSW,
   SAP_CFG_FS_DLY, SAP_CFG_BCLK_INV, SAP_CFG_FS_INV, SAP_CFG_DIR0,
   SAP_CFG_DIR1, SAP_CFG_ORND, SAP_CFG_HIZ, SAP_DIV_F,
   SAP_DIV_N, SAP_CTL_EN, SAP_CTL_MUTE, SAP_STATUS_STATE,
   SAP_STATUS_RAMPING, SAP_FS_NS, SAP_FS_SEC_LO, SAP_FS_SEC_HI,
   SAP_PHASE_PHI, SAP_SLIP_CNT, SAP_FRERR_CNT, SAP_LOST_CNT,
   SAP_EFF_LO, SAP_EFF_HI, SAP_MCLK_EN, SAP_MCLK_SRC,
   SAP_MCLK_M, RLK_CFG_TOPO, RLK_CFG_RATE, RLK_CFG_AUTO_EN,
   RLK_CFG_TX_POL, RLK_CFG_RX_POL, RLK_TXEQ_PRE, RLK_TXEQ_POST,
   RLK_TXEQ_SWING, RLK_CTL_EN, RLK_CTL_DOWN_ON_LASTING, RLK_CTL_WAKE,
   RLK_CTL_CLR, RLK_STATUS_STATE, RLK_STATUS_WRAPPED, RLK_STATUS_DOWN_CAUSE]

def fieldTable6 : List Field :=
  [RLK_STATUS_PARTNER_ID, RLK_STATUS_PARTNER_PORT, RLK_STATUS_PARTNER_UNVERIFIED, RLK_STATUS_LONG,
   RLK_STATUS_LASTING, RLK_STATUS_TIME_FOLLOWER, RLK_STATUS_DUP_ID, RLK_DELAY_D,
   RLK_OFFSET_THETA, RLK_DELAY_MIN, RLK_DELAY_MAX, RLK_ASYM,
   RLK_EYE_HMARGIN, RLK_EYE_VMARGIN, RLK_EYE_WARN_H, RLK_EYE_WARN_V,
   RLK_LASTING_LIM, RLK_CRC_CNT, RLK_RETRY_OK_CNT, RLK_CONC_CNT,
   RLK_CF_ERR_CNT, RLK_NOFRAME_CNT, RLK_DOWN_CNT, RLK_TUN_DROP_CNT,
   RLK_GLB_CFG_DEV_ID, RLK_GLB_CFG_FAMILY, RLK_GLB_CFG_RING, RLK_GLB_STATUS_WRAP,
   RLK_GLB_STATUS_FOLLOW_PORT, RLK_GLB_STATUS_FOLLOW_VALID, RLK_GLB_STATUS_GM_HOPS, RLK_IDX_LO,
   RLK_IDX_HI, RLK_UNWRAP_LO_U_LO, RLK_UNWRAP_HI_U_HI, RLK_GLB_CTL_UNWRAP,
   RLK_GLB_CTL_WAKE_GO, RLK_GLB_CTL_WAKE_ID, RLK_GLB_CTL_WAKE_ALL, RLK_BC_FWD_CNT,
   RLK_BC_DROP_CNT, TIM_CFG_SOURCE, TIM_CFG_PROFILE, TIM_CFG_GM_CAPABLE,
   TIM_CFG_LINK_GM, TIM_CFG_DOMAIN, TIM_CFG_PTP_LANE, TIM_STATUS_STATE,
   TIM_STATUS_COARSE, TIM_STATUS_GM, TIM_STATUS_PTP_LANE_NOW, TIM_STATUS_CLASS,
   TIM_CTL_STEP, TIM_CTL_SET, TIM_NS, TIM_FRAC,
   TIM_SEC_LO, TIM_SEC_HI, TIM_ADJ_NS_ADJ, TIM_SET_NS]

def fieldTable7 : List Field :=
  [TIM_SET_SEC_LO, TIM_SET_SEC_HI, TIM_RATE_LO, TIM_RATE_HI,
   TIM_SERVO_KP, TIM_SERVO_KI, TIM_LIM_FLIM, TIM_LIM_SLIM,
   TIM_THETA, TIM_HOLD_TMAX, TIM_GM_CLASS, TIM_PPS_OUT_EN,
   TIM_PPS_IN_EN, TIM_PPS_WIDTH, TIM_PPS_IN_NS, TIM_STEP_CNT,
   TIM_OUTLIER_CNT, NET_LANE_CFG_MODE, NET_LANE_CFG_AN, NET_LANE_CFG_VLAN_EN,
   NET_LANE_CFG_VID, NET_LANE_CFG_PCP, NET_LANE_MAC_LO, NET_LANE_MAC_HI,
   NET_LANE_IPCFG_SRC, NET_LANE_IP, NET_LANE_IP_NOW_IP, NET_LANE_CTL_EN,
   NET_LANE_STATUS_LINK, NET_LANE_STATUS_ADDR_OK, NET_LANE_FCS_CNT, NET_LANE_FRAG_CNT,
   NET_LANE_FILT_CNT, NET_CC_CFG_PORT, NET_CC_CFG_LANES, NET_CC_OK_CNT,
   NET_CC_FAIL_CNT, NET_WAKE_EN, NET_WAKE_LANE, NET_WAKE_PORT,
   NET_RX_CFG_VALID, NET_TX_CFG_VALID, NET_RX_CFG_GROUP, NET_TX_CFG_GROUP,
   NET_RX_CFG_PATHS, NET_TX_CFG_PATHS, NET_RX_CFG_ENC, NET_TX_CFG_ENC,
   NET_RX_CFG_SPP, NET_TX_CFG_SPP, NET_RX_CFG_CH, NET_TX_CFG_CH,
   NET_RX_CFG_SSRC_CHK, NET_TX_CFG_SSRC_CHK, NET_RX_CFG_PT, NET_TX_CFG_PT,
   NET_RX_CFG_ORND, NET_TX_CFG_ORND, NET_RX_DST_A, NET_TX_DST_A]

def fieldTable8 : List Field :=
  [NET_RX_DST_B, NET_TX_DST_B, NET_RX_SRC_A, NET_TX_SRC_A,
   NET_RX_SRC_B, NET_TX_SRC_B, NET_RX_PORT_PORT_A, NET_TX_PORT_PORT_A,
   NET_RX_PORT_PORT_B, NET_TX_PORT_PORT_B, NET_RX_SSRC, NET_TX_SSRC,
   NET_RX_TS_OFS, NET_TX_TS_OFS, NET_RX_CTL_EN, NET_TX_CTL_EN,
   NET_RX_STATUS_STATE, NET_TX_STATUS_STATE, NET_RX_STATUS_PATH_A, NET_TX_STATUS_PATH_A,
   NET_RX_STATUS_PATH_B, NET_TX_STATUS_PATH_B, NET_RX_LOSS_A_CNT, NET_TX_LOSS_A_CNT,
   NET_RX_LOSS_B_CNT, NET_TX_LOSS_B_CNT, NET_RX_DUP_CNT, NET_TX_DUP_CNT,
   NET_RX_BAD_CNT, NET_TX_BAD_CNT, CLK_CFG_REF_SRC, CLK_CFG_SYS_MODE,
   CLK_CFG_REF_KHZ, CLK_REFMODE_SP0, CLK_REFMODE_SP1, CLK_STATUS_SYS_LOCK,
   CLK_STATUS_SP0_LOCK, CLK_STATUS_SP1_LOCK, CLK_STATUS_SP1_VCO, CLK_STATUS_REF_HOLD,
   CLK_STATUS_REJOINING, CLK_STATUS_MUTING, CLK_FAULT_CAUSE, CLK_REJOIN_MODE,
   CLK_REJOIN_STEP_THR, CLK_REJOIN_JUMP_THR, CLK_ANCHOR, CLK_WCLK_IN_FAM,
   CLK_WCLK_OUT_EN, CLK_WCLK_OUT_SRC, CLK_MPLL_CFG_REF, CLK_MPLL_CFG_PORT,
   CLK_MPLL_CFG_FALLBACK, CLK_MPLL_CFG_SEED_SRC, CLK_MPLL_CFG_BW, CLK_MPLL_SEED,
   CLK_MPLL_LIM_FLIM, CLK_MPLL_LIM_SLIM, CLK_MPLL_STATUS_STATE, CLK_MPLL_STATUS_FAST]

def fieldTable9 : List Field :=
  [CLK_MPLL_RATIO_LO_FRAC, CLK_MPLL_RATIO_HI_INT, CLK_MPLL_PHASE_ERR, CLK_MPLL_RELOCK_CNT,
   CLK_MPLL_HOLD_CNT, CLK_IN_STATUS_STATE, CLK_IN_PERIOD, CLK_IN_GLITCH_CNT,
   CLK_IN_STOP_CNT, LDR_CTL_GO, LDR_SRC_ADDR, LDR_SRC_LEN,
   LDR_STATUS_STATE, LDR_STATUS_RESULT, LDR_STATUS_GO_IGNORED, LDR_STATUS_UNVERIFIED,
   LDR_STATUS_KIND, LDR_STATUS_SKIPPED, LDR_ERR_CODE, LDR_ERR_RECORD,
   LDR_ERR_OFS, LDR_ERR_ARG, LDR_BOOT_SEQ_LO, LDR_BOOT_SEQ_HI,
   LDR_RESTORE_VALID, LDR_RESTORE_SKIP, LDR_GRP_SEQ_LO, LDR_GRP_SEQ_HI,
   SEC_STATUS_UNVERIFIED, SEC_STATUS_DEV, SEC_STATUS_TRIAL, SEC_STATUS_FALLBACK,
   SEC_STATUS_MINVER_LOST, SEC_STATUS_FAST_PATH, SEC_STATUS_ROM_HIDDEN, SEC_STATUS_KEYS_LOCKED,
   SEC_BOOT_SLOT, SEC_BOOT_STATE_A, SEC_BOOT_STATE_B, SEC_BOOT_LAST_FAIL_A,
   SEC_BOOT_LAST_FAIL_B, SEC_SEQ_LO, SEC_SEQ_HI, SEC_VERSION,
   SEC_EPOCH_FUSE, SEC_IMG_EPOCH, SEC_MINVER, SEC_KEYS_PRESENT,
   SEC_KEYS_REVOKED, SEC_KEYS_LOADED, SEC_KEYS_SIGNER, SEC_TRIAL_SECONDS,
   SEC_ATTEMPTS, SEC_CC_KEYS_PRESENT, SEC_CC_KEYS_LOCKED, SEC_RCV_CTL_START,
   SEC_RCV_CTL_DONE, SEC_RCV_CTL_ABORT, SEC_RCV_CTL_SLOT, SEC_RCV_LEN]

def fieldTable10 : List Field :=
  [SEC_RCV_DATA, SEC_RCV_STATUS_STATE, SEC_RCV_STATUS_ERR, HST_STATUS_QSPI_ERR,
   HST_STATUS_I2C_TIMEOUT, HST_STATUS_LATE_WR, HST_QSPI_CRC_CNT, HST_RST_KEY,
   HST_RST_KIND, HST_I2C_ADDR, HST_GPIO_DIR, HST_GPIO_OUT,
   HST_GPIO_IN, HST_GPIO_FUNC, HST_GPIO_INT_EN, HST_GPIO_INT_EDGE,
   HST_GPIO_INT_PEND, HST_GPIO_SEL_EV, HST_GPIO_SEL_GROUP, HST_IRQ_CFG_POL_OD,
   HST_XSPI_STATUS_PROT_HIT, HST_XSPI_STATUS_ECC_ERR, HST_XSPI_STATUS_BUSY, HST_XSPI_STATUS_SUSPENDED,
   MBX_REQ_WORD, MBX_RSP_WORD, MBX_CTL_GO, MBX_STATUS_STATE,
   MBX_STATUS_OVR, MBX_STATUS_READY, MGT_TEMP_T, MGT_TEMP_PEAK,
   MGT_SUP_VALUE, MGT_SUP_LIM_LO, MGT_SUP_LIM_HI, MGT_THERM_CFG_WARN,
   MGT_THERM_CFG_HOT, MGT_THERM_CFG_HOT_ACT, MGT_THERM_STATUS_LEVEL, MGT_THERM_STATUS_TRIPPED,
   MGT_THERM_STATUS_TRIP_SENSOR, MGT_LOG_STATUS_PENDING, MGT_LOG_STATUS_LOST, MGT_LOG_STATUS_PLOG_FAIL,
   MGT_LOG_STATUS_TUN_LOST, PWR_STATUS_STATE, PWR_STATUS_DOMAINS, PWR_STATUS_BO_WARN,
   PWR_STATUS_PL_BUSY, PWR_CFG_PL_DEFAULT, PWR_CFG_RETAIN_ON_PINRST, PWR_CFG_BO_MUTE,
   PWR_CFG_BO_DROP, PWR_CFG_BO_FLASH, PWR_CFG_WAKE_SRC, PWR_PL_REQ_LEVEL,
   PWR_PL_STATUS_CUR, PWR_PL_STATUS_TARGET, PWR_PL_STATUS_REFUSED, PWR_PL_STATUS_REFUSER]

def fieldTable11 : List Field :=
  [PWR_PL_STATUS_SOURCE, PWR_PL_MGT_LEVEL, PWR_PL_MGT_EN, PWR_SLEEP_CTL_STATE,
   PWR_SLEEP_CTL_STOP, PWR_SLEEP_CTL_GO, PWR_SLEEP_CTL_WAKE, PWR_SLEEP_STATUS_RESULT,
   PWR_SLEEP_STATUS_OVR, PWR_REFUSE_CNT, PWR_LAST_REFUSER_CLIENT, PWR_LAST_REFUSER_PHASE,
   PWR_LAST_REFUSER_TARGET, PWR_WAKE_CFG_MODE0, PWR_WAKE_CFG_POL0, PWR_WAKE_CFG_MODE1,
   PWR_WAKE_CFG_POL1, PWR_WAKE_CFG_RESLEEP, PWR_WAKE_CAUSE_ACTIVE, PWR_WAKE_CAUSE_HOST,
   PWR_WAKE_CAUSE_FIRST, PWR_BO_MIN_MV, PWR_BO_CNT, PWR_DEMAND_HOLD,
   PWR_VOTE_DOMAINS, PWR_VOTE_DEEPEST, FLT_CFG_CORE_RETRY, FLT_CFG_CORE_LIM,
   FLT_SUM_MEM_LASTING, FLT_SUM_LINK_LASTING, FLT_SUM_BCE_UE, FLT_SUM_XBAR,
   FLT_SUM_LOCAL_LASTING, FLT_STATUS_RETRYING, FLT_XBAR_RETRY_CNT, FLT_XBAR_FAIL_CNT,
   FLT_CORE_STATUS_CAUSE, FLT_CORE_STATUS_PHASE, FLT_CORE_STATUS_BUNDLE, FLT_CORE_IDX_LO,
   FLT_CORE_IDX_HI, FLT_CORE_LADDR_WORD, FLT_CORE_LADDR_MEM, FLT_CORE_LADDR_HALF,
   FLT_CORE_LADDR_WINCNT, FLT_CORE_RETRY_OK_CNT, FLT_CORE_LCE_CNT, FLT_CORE_LLAST_CNT,
   FLT_CORE_LUE_CNT, GLB_RST_CAUSE_LAST, GLB_RST_HIST_SEEN, GLB_ID_PART,
   GLB_ID_STEP, GLB_GRADE, GLB_STRAP_BOOTSEL, GLB_SCRATCH_DATA,
   GLB_BUS_ERR_UNMAPPED, GLB_BUS_ERR_IFACE, GLB_BUS_ERR_WRITE, GLB_BUS_ADDR]

def fieldTable12 : List Field :=
  [EVT_PEND, EVT_ROUTE, EVT_MASK, EVT_IRQ_STATUS_ASSERTED,
   EVT_IRQ_VEC_EV, EVT_IRQ_VEC_VALID, EVT_FORCE_EV, EVT_FORCE_GO,
   EVT_CNT]

/-- Every register field of the device. -/
def fieldTable : List Field :=
  fieldTable0 ++ fieldTable1 ++ fieldTable2 ++ fieldTable3 ++ fieldTable4 ++ fieldTable5 ++ fieldTable6 ++ fieldTable7 ++ fieldTable8 ++ fieldTable9 ++ fieldTable10 ++ fieldTable11 ++ fieldTable12

end Sys2Proof.Machine
end

