-- ==== Sys2Proof/Machine/State.lean ====
section
/-!
DEFINITION. The state of the AJ1648 as plain data, the reasons a step can stop, and the state after reset.
-/

namespace Sys2Proof.Machine

open Sys2Proof

/-- No command of this machine stops it with a fault: every error the specification describes is an effect on the state
(an event, a counter, a status field). -/
inductive Fault where
  deriving DecidableEq, Repr

/-- Why a command has no meaning. -/
inductive Refusal where
  /-- Raised by an arm of `exec` whose meaning has not been written. Safe. -/
  | notModelled (mnemonic : String)
  deriving DecidableEq, Repr

/-- A sparse table: entries in rising order of their key. -/
abbrev Tab (α : Type) := List (Nat × α)

/-- A memory of bytes in the canonical form of `memWf`: rising addresses, no cell equal to what an unlisted one reads as. -/
abbrev Mem := List Host.Cell

/-! ## Sample cores (02 R45) -/

/-- One address generator of a pointer set (04 R160). -/
structure GenDesc where
  kind : Nat := 0
  tapmode : Nat := 0
  tcf : Nat := 0
  bank0 : Nat := 0
  nbank : Nat := 0
  ptab : Nat := 0
  base : Nat := 0
  len : Nat := 0
  origin : Nat := 0
  step : Nat := 0
  lines : Nat := 0
  ch : Nat := 0
  deriving DecidableEq, Repr

/-- The pointer set of a program page: generators by number and the initial values of K0 to K7 (02 R45, R47). -/
structure PtrSet where
  gens : List GenDesc := []
  kinit : List Half := []
  deriving DecidableEq, Repr

/-- A program page: its bundles (8 bytes each), its length, its pointer set and what the loader found of it
(02 R45, R57, R111; 04 R192; 06 R291). -/
structure ProgPage where
  mem : Mem := []
  len : Nat := 0
  ptr : PtrSet := {}
  stwr : Nat := 0
  taps : Nat := 0
  winmax : Nat := 0
  verified : Bool := false
  deriving DecidableEq, Repr

/-- A result of a sample with the bundle index at which it becomes visible (03 R120). -/
structure Res (α : Type) where
  reg : Nat
  vis : Nat
  val : α
  deriving DecidableEq, Repr

/-- A result for an accumulator: `accum` combines with the value visible before it (03 R122), else it overwrites. -/
structure AccRes where
  reg : Nat
  vis : Nat
  accum : Bool
  p : Acc
  deriving DecidableEq, Repr

/-- Where the data of a shared-memory read go (04 R169, R171, R180). -/
inductive ReadDest where
  /-- One word into a D register. -/
  | word (d : Fin 32)
  /-- Four words into four D registers. -/
  | quad (d : Fin 32)
  /-- Four words into an interpolated tap: accumulator, ACC, NEG, the weights and the shift into Q17.63. -/
  | tap (a : Fin 16) (acc neg : Bool) (weights : List Word) (shift : Nat)
  deriving DecidableEq, Repr

/-- A shared-memory read of a core on its way: its number, the bundle index at which it is due, and the data so far. -/
structure SharedRead where
  id : Nat
  due : Nat
  dest : ReadDest
  data : List (Option Word)
  /-- Its crossbar retry failed (18 R748). -/
  failed : Bool := false
  deriving DecidableEq, Repr

/-- The second program of a sample in a crossfade (06 R271, R272). -/
structure SecondPart where
  page : Fin 2
  cpage : Fin 2
  len : Nat
  deriving DecidableEq, Repr

/-- A sample under way on a core (02 R49 to R59). Bundle indices are counted from the start of the program part that runs;
`off` is what must be added to get the index in the row old program, seam, new program (06 R271). -/
structure Sample where
  n : Nat
  page : Fin 2
  cpage : Fin 2
  len : Nat
  off : Nat := 0
  second : Option SecondPart := none
  /-- Sample number j and exponent m of the crossfade. -/
  xfade : Option (Nat × Nat) := none
  /-- Bundle that issues now, and which of its slots have issued. -/
  pos : Nat := 0
  done : List Slot := []
  stalls : Nat := 0
  d : List (Res Word) := []
  a : List AccRes := []
  p : List (Res Bool) := []
  k : List (Res Half) := []
  gi : List (Res Nat) := []
  gl : List (Res Nat) := []
  reads : List SharedRead := []
  commit : Tab Word := []
  writes : Nat := 0
  /-- Blended stores of the old program: bank and word to value (06 R274). -/
  morph : Tab Word := []
  /-- A conversion or an accumulator saturated just now, not yet shown in SC_SAT. -/
  outSat : Bool := false
  accSat : Bool := false
  /-- Something saturated in this sample (02 R87). -/
  sat : Bool := false
  /-- A check failed: the core issues nothing more in this sample (18 R737). -/
  dead : Bool := false
  /-- A write of this sample waits in a bank queue under this request number and the following ones. -/
  firstReq : Nat := 0
  deriving DecidableEq, Repr

/-! ## Shared memory (chapter 05) -/

/-- A request at a bank's arbiter (05 R196). -/
structure Req where
  who : Nat
  write : Bool
  words : List Nat
  data : Word := 0
  id : Nat := 0
  /-- Memory cycle of arrival. -/
  at_ : Nat := 0
  deriving DecidableEq, Repr

/-- A repair operation due in a bank (05 R218, R219). -/
inductive Repair where
  /-- Write the corrected word (or 0) back. -/
  | writeBack (word : Nat) (value : Word) (uncorrectable : Bool)
  /-- Re-read the word; its result classes the error (`ERROR_RE_READ`). -/
  | reRead (word : Nat) (uncorrectable : Bool)
  deriving DecidableEq, Repr

/-- A row of a way: sparing works on rows (05 R193, R221). -/
structure RowId where
  way : Nat
  row : Nat
  deriving DecidableEq, Repr

/-- A shared bank (05 R193, R221, R223). -/
structure Bank where
  mem : Mem := []
  queue : List Req := []
  repairs : List Repair := []
  /-- Row being copied and rows queued behind it. -/
  copies : List RowId := []
  /-- Rows remapped to a spare row. -/
  remaps : List RowId := []
  /-- A release accepted and not completed (05 R203). -/
  releasing : Bool := false
  deriving DecidableEq, Repr



/-! ## Channels and routes (chapter 09) -/

/-- A channel descriptor (09 R388). -/
structure ChanDesc where
  base : Nat := 0
  bank : BankId := 0
  group : GroupId := 0
  valid : Bool := false
  stampEn : Bool := false
  /-- Code of the block size: 8, 16, 32 or 64 samples. -/
  bs : Fin 4 := 0
  seals : Bool := false
  len : Nat := 0
  sbase : Nat := 0
  reach : Nat := 0
  ag : Nat := 0
  agEn : Bool := false
  naDet : Bool := false
  deriving DecidableEq, Repr

/-- A route (09 R398): kind 0 = IN, 1 = OUT, 2 = BRIDGE, 3 = CULVERT; endpoints as in R394. -/
structure Route where
  kind : Fin 4
  hgEn : Bool := false
  hg : Nat := 0
  nslot : Nat := 0
  seals : Bool := false
  sslot : Nat := 0
  src : Word
  snk : Word
  spos : Nat := 0
  deriving DecidableEq, Repr

/-- What the stream mover keeps for an ingress channel (09 R389 to R423). -/
structure ChanState where
  /-- 0 normal, 1 concealing or silent, 2 ramping, 3 closed (R427). -/
  st : Nat := 0
  naMute : Bool := false
  /-- Last sample of the non-audio span, and the sample whose word is the burst length (R419). -/
  naUntil : Option Nat := none
  naPd : Option Nat := none
  sealFail : Nat := 0
  /-- Words received and accepted, by presentation index (R412). -/
  rx : Tab Word := []
  /-- Blocks that have underrun, and blocks with late samples counted (R414). -/
  under : List Nat := []
  late : List Nat := []
  /-- Last block or span tested, and whether it was presented from received data (R412, R413). -/
  tested : Option Nat := none
  good : Bool := false
  /-- Next step of a fade and the first word it repeats; next step of a recovery ramp (R413, R415). -/
  fade : Option (Nat × Nat) := none
  ramp : Option Nat := none
  /-- Which block an entry of the stamp ring belongs to (R390). -/
  blks : Tab Nat := []
  /-- Last presentation index written. -/
  last : Option Nat := none
  deriving DecidableEq, Repr

/-- A headgate's command: its time, effect index once known, RAMP, and whether it opens (09 R405 to R407). -/
structure Headgate where
  sec : Nat
  ns : Nat
  a : Option Nat := none
  ramp : Bool
  opens : Bool
  since : Nat
  deriving DecidableEq, Repr

/-- Values sent on a route, newest first, with their sample indices (09 R399). -/
abbrev SentList := List (Nat × Word)

/-- CRC of the block under way and seal of the block before, on a route that makes seals (09 R421, R422). -/
structure SealTx where
  words : List Word := []
  prev : BitVec 16 := 0
  deriving DecidableEq, Repr

/-- An entry of the AON log (16 R691). -/
structure LogEntry where
  sec : Nat
  ns : Nat
  coarse : Bool
  kind : Nat
  code : Nat
  arg : Nat
  deriving DecidableEq, Repr

/-! ## Rate groups (02 R61 to R80) and the update chamber (chapter 06) -/

/-- A ramp that runs on a group's output (02 R64, R65): its direction, whether it is the gain ramp of SAFE_PASS (R88, R89), and
the index j of the sample begun at the last tick. -/
structure Ramp where
  down : Bool
  safe : Bool := false
  j : Nat := 1
  deriving DecidableEq, Repr

/-- A serial audio port (chapter 10). -/
structure Port where
  /-- First frame's tick of a master port (R449), and when EN was registered. -/
  a : Option Nat := none
  since : Nat := 0
  /-- Consecutive well-formed frames of a slave port, and whether a frame boundary has come since it opened. -/
  wellFormed : Nat := 0
  bounded : Bool := false
  /-- A close waits for the frame's end (R453). -/
  closing : Bool := false
  /-- MUTE as it took effect at the last tick, and the ramp of its change (R452). -/
  mute : Bool := true
  muteRamp : Option Ramp := none
  /-- Time stamp of the last frame boundary (R445). -/
  stamp : Nat := 0
  /-- Sample to which the last frame was assigned, its words by line and slot, and the sample its last output frame carried (R448). -/
  inAt : Option Nat := none
  inWords : Tab Word := []
  outOf : Option Nat := none
  /-- Output slots of the frame under way, by line and slot; none is high impedance (R438). -/
  out : Tab (Option Nat) := []
  deriving DecidableEq, Repr

/-- The dip of a CUT: direction, index of the sample begun at the last tick, and exponent m (06 R269). -/
structure Dip where
  down : Bool
  j : Nat
  m : Nat
  deriving DecidableEq, Repr

/-- How the stream mover treats the words of one sample of a group (02 R63 to R65; 06 R269; 09 R399): zeroing, pass map,
ramps and dip, fixed at the tick that begins the sample. -/
structure OutMode where
  zero : Bool := true
  safe : Bool := false
  ramp : Option Ramp := none
  gate : Option Ramp := none
  dip : Option Dip := none
  deriving DecidableEq, Repr

/-- The steps of a tick that a command of their own may make before `SAMPLE_TICK` (log entry 14). -/
inductive TickPart where
  | judge | ramp | sluice | glide | headgate
  deriving DecidableEq, Repr

/-- What a rate group carries beside its registers. -/
structure Group where
  /-- A tick has begun since the group was defined, and the index of the last one (02 R109). -/
  begun : Bool := false
  n : Nat := 0
  /-- Time counter and elapsed memory cycles at the last tick. -/
  tickTim : Nat := 0
  tickCycle : Nat := 0
  /-- A first tick has passed since RUN = 1 in OFF (02 R66). -/
  startDue : Bool := false
  stopReq : Bool := false
  muteReq : Bool := false
  unmuteReq : Bool := false
  ramp : Option Ramp := none
  /-- The state that a ramp-down leads to; none where the group stays in its state (02 R78). -/
  target : Option Nat := none
  /-- The output of MUTED after its ramp-down. -/
  silent : Bool := false
  /-- Treatment of the sample begun at the last tick. -/
  out : OutMode := {}
  /-- Steps of the coming tick that are made already, and the cause of a mute that arises at it. -/
  marks : List TickPart := []
  pendMute : Option Nat := none
  /-- A ramp of the media clock's own: rate change, stepping rejoin, relock (13 R573, R579, R583), and its silence. -/
  gate : Option Ramp := none
  gated : Bool := false
  /-- Such a ramp starts at the group's first tick at or after this counter time: down, or up. -/
  gateReq : Option (Bool × Nat) := none
  /-- Word taken in step 2 of R399 for the last sample, by egress channel (02 R75). -/
  held : Tab Word := []
  /-- The ramp-down after a CORE_LOSS sends the held words (18 R743). -/
  holdRamp : Bool := false
  /-- The gain at which a warm reset stopped a SAFE_PASS gain ramp (02 R64). -/
  frozenGain : Option Int := none
  /-- The time counter was stepped since the last tick (12 R515). -/
  stepped : Bool := false
  /-- Cores ran a sample at the last tick. -/
  ran : Bool := false
  /-- The last sample of the group was late, or held for a fault. -/
  heldLast : Bool := false
  /-- A partial load of this group waits for its ramp-down (14 R612). -/
  waitRamp : Bool := false
  /-- AUTORUN and MODE of its RATEGROUP record (14 R605). -/
  autorun : Bool := false
  autoMode : Nat := 0
  deriving DecidableEq, Repr

/-- A sluice that is armed, dipping or crossfading, with the fields taken at arming (06 R247, R255). -/
structure Sluice where
  cores : Nat
  pages : Nat
  morph : Nat
  m : Nat
  mode : Nat
  glides : Bool
  journal : Bool
  id : Nat
  /-- T, once it is known. -/
  at_ : Option (Nat × Nat)
  /-- Memory cycle of acceptance. -/
  since : Nat
  /-- Effect index, once applied, and whether a CUT has swapped its pages. -/
  a : Nat := 0
  swapped : Bool := false
  /-- Spares that took over a named core since the sluice was armed (02 R101; 06 R255). -/
  heirs : Nat := 0
  deriving DecidableEq, Repr

/-- A running glide: step made last, first value, page it acts on, and sample of its start (06 R262, R267). -/
structure GlideRun where
  j : Nat
  w0 : Word
  page : Fin 2
  start : Nat
  deriving DecidableEq, Repr

/-- A glide entry of a core (06 R260). -/
structure Glide where
  word : Half
  target : Word
  k : Nat
  log : Bool
  withSluice : Bool
  since : Nat
  run : Option GlideRun := none
  deriving DecidableEq, Repr

/-- A chamber sync that runs: what it copies, and the group and tick that started it (06 R277, R278). -/
structure SyncRun where
  prog : Bool
  coef : Bool
  group : GroupId
  n : Nat
  deriving DecidableEq, Repr

/-- One word of a bus access (16 R667, R671): interface 0 QSPI, 1 I2C, 2 a remote source's mailbox command, 3 a command of its own. -/
structure BusWord where
  iface : Fin 4 := 3
  write : Bool
  addr : Nat
  data : Word := 0
  deriving DecidableEq, Repr

/-- A QSPI transaction in its wait phase (16 R663): its direction, whether CRC fields are present, words read so far. -/
structure QspiRun where
  write : Bool
  crc : Bool
  words : List Word := []
  deriving DecidableEq, Repr

/-- The device phase of a QSPI transaction (16 R663). -/
structure QspiReply where
  status : Nat
  words : List Word := []
  crc : Option (BitVec 16) := none
  deriving DecidableEq, Repr

/-! ## Block convolution (chapter 07) -/

/-- A slice of the engine (07 R319): forward transform of an input block; multiply of one partition of a filter; inverse transform
of a filter's output block. Classes are 0 to 3 for 64, 256, 1,024 and 4,096 samples. -/
inductive Slice where
  | forward (job cls k : Nat)
  | multiply (job flt cls j p : Nat)
  | inverse (job flt cls j : Nat)
  deriving DecidableEq, Repr

/-- What the block convolution engine carries beside its registers. -/
structure Bce where
  /-- Private memory (07 R315). -/
  priv : Mem := []
  /-- Slice that runs, and slices that are ready (07 R319, R321). -/
  running : Option Slice := none
  ready : List Slice := []
  /-- Sums of the multiply stage by filter and class: real parts of bins 0 and N, then the bins (07 R310). -/
  acc : Tab (List Int) := []
  /-- Effect indices of filters: s_on and s_off (07 R327, R328). -/
  on : Tab Nat := []
  off : Tab Nat := []
  /-- FDL entries written as zero blocks in place of a result: job, class, k (07 R312, R323). -/
  zeroed : List (Nat × Nat × Nat) := []
  /-- DROP bits by filter and tail block (07 R303). -/
  drops : List (Nat × Nat × Nat) := []
  /-- Output blocks whose work is done or dropped: filter, class, j. -/
  closed : List (Nat × Nat × Nat) := []
  /-- Last tail block delivered by group, and s_stop by group while stopping (07 R300, R331). -/
  delivered : Tab Nat := []
  stop : Tab Nat := []
  /-- Last input block released, by job and class. -/
  released : Tab Nat := []
  deriving DecidableEq, Repr

/-! ## Live probe (chapter 08) -/

/-- Sums of one steep of a pair (08 R357 to R359): steep number, first sample, length, sums by tap, reference samples at tap 0. -/
structure SteepSum where
  no : Nat
  start : Nat
  len : Nat
  num : List Int
  den : List Nat
  samples : Nat := 0
  partly : Bool := false
  clipped : Bool := false
  published : Bool := false
  /-- Memory cycle at which its last microphone sample was present. -/
  doneAt : Option Nat := none
  deriving DecidableEq, Repr

/-- What the loop knows of the newest result of a pair (08 R369): steep, its first sample, qualification and SNR. -/
structure ResultNote where
  steep : Nat
  start : Nat
  fine : Bool
  snr : Int
  deriving DecidableEq, Repr

/-- A probe output beside its registers. Gains are in 0.5 dB; none is off. -/
structure ProbeOut where
  shaper : List Int := []
  weir : List Int := []
  power : List Nat := List.replicate 16 0
  oldGain : List (Option Int) := List.replicate 16 none
  gain : List (Option Int) := List.replicate 16 none
  /-- Probe values sent, by sample index, newest last. -/
  sent : Tab Int := []
  steepNo : Nat := 0
  steepStart : Nat := 0
  steepLen : Nat := 0
  /-- The closed loop: gains, coefficient page at its start, last steep used, and the sample after which a steep may start. -/
  loopGain : List Int := List.replicate 16 0
  loopPage : Fin 2 := 0
  loopSteep : Option Nat := none
  loopAfter : Nat := 0
  deriving DecidableEq, Repr

/-- The probe beside its registers. -/
structure Probe where
  /-- s_p, once registered; the probe runs from it (R349). -/
  sp : Option Nat := none
  running : Bool := false
  stopAt : Option Nat := none
  /-- Attack and release exponents in force (R354). -/
  ka : Nat := 4
  kr : Nat := 11
  /-- Last sample processed, and last weir block fixed. -/
  last : Option Nat := none
  block : Option Nat := none
  /-- The condition of R351 failed in this weir block; a clamp fell in it. -/
  disturbed : Bool := false
  clamped : Bool := false
  lfsr : Vector Word 4 := Vector.replicate 4 0
  outs : Tab ProbeOut := []
  pairs : Tab (List SteepSum) := []
  notes : Tab ResultNote := []
  /-- Capture index of the newest microphone sample, by microphone; steeps for which EV54 was raised. -/
  micAt : Tab Nat := []
  exclSteeps : List (Nat × Nat) := []
  /-- Correlation frames waiting for the block convolution engine: output and microphone (R362). -/
  frames : List (Nat × Nat) := []
  deriving DecidableEq, Repr

/-! ## Time and clocks (chapters 12 and 13) -/

/-- An exact fraction in lowest terms, with a positive denominator. -/
structure Ratio where
  num : Int := 0
  den : Nat := 1
  deriving DecidableEq, Repr

/-- A rejoin of the time base (13 R581 to R583): it slews, or steps by `delta` units of the counter at the counter time `due`. -/
inductive Rejoin where
  | slew
  | step (delta : Int) (due : Nat)
  deriving DecidableEq, Repr

/-- What the time base carries beside its registers (12 R519 to R525). -/
structure TimeBase where
  /-- The integral part i and the frequency f of the servo, in ppb, and the slewing difference of a rejoin. -/
  i : Ratio := {}
  f : Ratio := {}
  slew : Ratio := {}
  /-- Source of the last update: 0 none, 1 PTP, 2 link, 3 PPS_IN. -/
  source : Nat := 0
  /-- The step of ACQUIRE has been made; consecutive updates below 100 ns, and above JUMP_THR. -/
  stepped : Bool := false
  close : Nat := 0
  jumps : Nat := 0
  rejoin : Option Rejoin := none
  /-- Memory cycle of the last update, and its interval in ns; cycle at which HOLDOVER began. -/
  lastUpdate : Nat := 0
  interval : Nat := 0
  holdSince : Nat := 0
  /-- Whole second of the last PPS_IN edge. -/
  lastPps : Option Nat := none
  /-- PPS_OUT is high until this cycle. -/
  ppsUntil : Nat := 0
  deriving DecidableEq, Repr

/-- What PTP carries (12 R525, R527): the last Sync and its master's time, path delays of the last 16 exchanges, the
grandmaster followed. -/
structure PtpState where
  syncSeq : Option Nat := none
  syncRx : Nat := 0
  syncCorr : Int := 0
  lastTx : Option Nat := none
  t1 : Nat := 0
  t2 : Nat := 0
  delays : List Int := []
  delay : Option Int := none
  gm : Option Nat := none
  deriving DecidableEq, Repr

/-- A SerDes PLL beside its lock bit (13 R563, R569). -/
structure SerdesPll where
  locking : Bool := false
  since : Nat := 0
  attempts : Nat := 0
  failed : Bool := false
  deriving DecidableEq, Repr

/-- A media PLL beside its registers (13 R565 to R584). -/
structure MediaPll where
  attempts : Nat := 0
  lockSince : Nat := 0
  /-- The dither register, as loaded at the start of the lock (R565). -/
  lfsr : Word := 0
  /-- The outputs were gated, so that the groups ramp up after the lock (R573, R579). -/
  relock : Bool := false
  /-- The lock is a FALLBACK one, on the reference (R579). -/
  fallback : Bool := false
  /-- A rate change ramps the groups down (R579), and when it was seen. -/
  rateRamp : Bool := false
  /-- REANCHOR: the error that has become the target, units of 2^-8 ns (R584). -/
  target : Option Int := none
  /-- The PLL was ungated before; its groups wait for the first edge after lock (R573, R579). -/
  waitEdge : Bool := false
  deriving DecidableEq, Repr

/-- A monitored input beside its registers (13 R574 to R577). -/
structure InMonitor where
  /-- Counter-independent time of the last edge, in memory cycles. -/
  lastEdge : Option Nat := none
  /-- Periods of the running OUT run, newest first, in ns (at most 64). -/
  outRun : List Nat := []
  /-- Consecutive IN periods while RETURNING, FAULTY or after a rate change. -/
  inRun : Nat := 0
  /-- Memory cycles of the glitches of the last second, newest first, and of the last OUT period. -/
  glitches : List Nat := []
  lastOut : Nat := 0
  deriving DecidableEq, Repr

/-! ## Ronzu links (chapter 11) -/

/-- A sluice broadcast in a port's queue: control-field words 10 to 13, copies still to send, and the earliest cycle and link
index of its first frame (11 R505). -/
structure BcEntry where
  words : List Word
  left : Nat := 3
  notBefore : Nat := 0
  fromIdx : Nat := 0
  counted : Bool := false
  deriving DecidableEq, Repr

/-- A tunnel chunk: payload words, and whether it starts or ends a message (11 R470, R503). -/
structure TunChunk where
  words : List Word
  start : Bool
  last : Bool
  deriving DecidableEq, Repr

/-- A received segment as it is used: slot words, header with VALID and CONCEALED, and whether it was used (11 R483, R484). -/
structure RxSeg where
  words : List Word
  header : Word
  used : Bool
  deriving DecidableEq, Repr

/-- What a Ronzu port carries beside its registers. -/
structure LinkPort where
  /-- Frame sent at the last link tick, and the one before (retry source). -/
  tx : Option LinkFrame := none
  txPrev : Option LinkFrame := none
  /-- Own transmit stamps by link index, newest first. -/
  txStamps : List (Nat × Nat) := []
  /-- Received frames of the last link periods, newest first; receive stamp of the last frame and of the one before, by index. -/
  rx : List LinkFrame := []
  rxStamps : List (Nat × Nat) := []
  /-- Segments decided (R483), by link index, newest first. -/
  decided : List (Nat × List RxSeg) := []
  /-- Concealed segments by link index within the last 1,024 frames (R486). -/
  conc : List (Nat × Nat) := []
  /-- Consecutive good frames (R488), and the index the partner says it received last. -/
  good : Nat := 0
  partnerRx : Option Nat := none
  theta : Option Int := none
  delaySeen : Bool := false
  gmHops : Nat := 0xFFF
  gmClass : Nat := 0
  bcQueue : List BcEntry := []
  tunTx : List TunChunk := []
  tunTxSeq : Nat := 0
  tunRx : List Word := []
  tunOpen : Bool := false
  tunRxSeq : Option Nat := none
  /-- A wake request for the next frame: target and ALL (R504); WAKE blocks are sent until this cycle. -/
  wakeReq : Option (Nat × Bool) := none
  wakeUntil : Nat := 0
  /-- Frames with LEAVING still to send (R490). -/
  leaving : Nat := 0
  /-- U sent to the partner (R496). -/
  unwrapSend : Option Nat := none
  eyeLow : Bool := false
  deriving DecidableEq, Repr

/-! ## Network (chapter 12) -/

/-- What a network lane sends (12 R534, R535, R544, R549, R655). -/
inductive NetOut where
  | udp (lane : Fin 2) (dst port : Nat) (payload : List Byte)
  | igmp (lane : Fin 2) (group source : Nat) (join v2 : Bool)
  | arp (lane : Fin 2) (ip asker : Nat)
  | icmp (lane : Fin 2) (dst : Nat) (data : List Byte)
  deriving DecidableEq, Repr

/-- A network lane beside its registers: an IGMPv2 querier is present, the memory cycle at which its link came up. -/
structure NetLane where
  v2 : Bool := false
  upSince : Nat := 0
  deriving DecidableEq, Repr

/-- One path of a receive stream: last sequence number, cycle of its last packet, and whether it is lost (12 R543). -/
structure RxPath where
  seq : Option Nat := none
  at_ : Nat := 0
  lost : Bool := false
  deriving DecidableEq, Repr

/-- A receive stream: its paths, the cycle of its last packet, and the path that wrote a sample, by presentation index and
channel (12 R541). -/
structure RxStream where
  a : RxPath := {}
  b : RxPath := {}
  at_ : Nat := 0
  wrote : Tab Bool := []
  deriving DecidableEq, Repr

/-- A transmit stream: first sample of its first packet once known, next sequence number, and first sample of the last packet
(12 R544, R545). -/
structure TxStream where
  first : Option Nat := none
  seq : Nat := 0
  last : Option Nat := none
  deriving DecidableEq, Repr

/-- The control channel (12 R547 to R550): floors by key slot, messages accepted since the floors were last stored, messages in the
running second, seconds in which EV101 and EV98 were last raised. -/
structure ControlChannel where
  floors : Vector Nat 4 := Vector.replicate 4 0
  accepted : Nat := 0
  second : Nat := 0
  count : Nat := 0
  failRaised : Option Nat := none
  badRaised : Option Nat := none
  deriving DecidableEq, Repr

/-! ## Mailbox (chapter 16) -/

/-- Where a mailbox command came from, and where its reply goes (16 R674): a control message by lane, sender, key and SEQ; a tunnel
message by device ID, and the key and SEQ of the control message in it. -/
inductive MbxSource where
  | host
  | control (lane : Fin 2) (ip port key seq : Nat)
  | tunnel (src key seq : Nat)
  deriving DecidableEq, Repr

/-- A command in the mailbox queue: request words from word 0 (16 R676). -/
structure MbxEntry where
  src : MbxSource
  words : List Word
  deriving DecidableEq, Repr

/-- The mailbox queue, whose front entry runs, and the front entry's reply once its work is done: status and words. `reboot` asks
for a host full reset after the reply (16 R685). -/
structure Mailbox where
  queue : List MbxEntry := []
  reply : Option (Nat × List Word) := none
  reboot : Bool := false
  /-- The words of the front REG_READ or REG_WRITE are on the bus (16 R677). -/
  reading : Bool := false
  deriving DecidableEq, Repr

/-- A tunnel message that waits for its ACK (16 R681). -/
structure TunSent where
  dst : Nat
  seq : Nat
  words : List Word
  tries : Nat
  since : Nat
  /-- It belongs to the TUNNEL_SEND that runs. -/
  command : Bool
  deriving DecidableEq, Repr

/-- The management tunnel (16 R679 to R681): pairs handled, next SEQ, messages that wait for an ACK, replies held. -/
structure Tunnel where
  seen : List (Nat × Nat) := []
  seq : Nat := 0
  sent : List TunSent := []
  replies : List (List Word) := []
  deriving DecidableEq, Repr

/-- An image update under way (16 R682 to R684): owner (0 host, 1 control channel, 2 tunnel), slot, bundle bytes, bytes written,
cycle of the owner's last command. -/
structure Update where
  owner : Nat
  slot : Fin 2
  len : Nat
  written : Nat := 0
  since : Nat
  deriving DecidableEq, Repr

/-! ## Security processor (chapter 15) -/

/-- What SEC is doing: held by a reset; waiting for the SYS PLL (steps 1 and 2 of R642); the loader verifies the bitstream of a slot
(step 4), the slot being tried as trial or as fallback; run; the recovery window is open, or receives (R649, R650). -/
inductive SecPhase where
  | held
  | start
  | verify (slot : Fin 2) (trial fallback : Bool)
  | run
  | window
  | receive (slot : Fin 2) (words : Nat)
  deriving DecidableEq, Repr

/-- A try of R643: a slot, as trial or as fallback. -/
structure Try where
  slot : Fin 2
  trial : Bool := false
  fallback : Bool := false
  deriving DecidableEq, Repr

/-- The security processor beside its registers: phase and tries left, what it knows of the running image, keys held (R637), the
key store (R652), its retained RAM (R656), the events to raise at handover (R661), the flash mode of the boot header (R629), and the
cycle at which it released MGT. -/
structure Sec where
  phase : SecPhase := .start
  tries : List Try := []
  running : Option (Fin 2) := none
  minverRaise : Bool := false
  trialSeconds : Nat := 0
  trialSince : Nat := 0
  pubkeys : Tab (List Byte) := []
  ccKeys : Vector (Option (List Byte)) 4 := Vector.replicate 4 none
  ccLocked : Nat := 0
  /-- Firmware in MGT memory; firmware, digest and slot in the retained RAM. -/
  firmware : List Byte := []
  retained : Option (List Byte × List Byte × Fin 2) := none
  events : List Nat := []
  /-- Cycle at which the recovery window opened, or of the last data write. -/
  since : Nat := 0
  xspiMode : Nat := 0
  runSince : Nat := 0
  deriving DecidableEq, Repr

/-! ## Loader (chapter 14) -/

/-- A record of a bitstream: index, byte offset, type, flags and payload words (14 R601). -/
structure Rec where
  idx : Nat
  ofs : Nat
  typ : Nat
  flags : Nat
  words : List Word
  deriving DecidableEq, Repr

/-- The kinds of load (14 R593). -/
inductive LoadKind where
  | whole
  | part (g : GroupId)
  | chamber (g : GroupId)
  deriving DecidableEq, Repr

/-- What the apply pass still has to do, in the order of R611. -/
inductive LoadStep where
  | record (r : Rec)
  /-- The spectra of a BCE_FILTER record. -/
  | spectra (r : Rec)
  /-- End of the RWS fields: OWNER_NOW, ACTIVE. -/
  | structured
  /-- Zero the banks with ZERO = 1. -/
  | zeroBanks
  /-- Chamber pages take the active pages. -/
  | chamberCopy
  /-- Zero the BCE regions of R318. -/
  | zeroBce
  deriving DecidableEq, Repr

/-- An entry of the restore list (14 R618). -/
structure RestoreEntry where
  group : Option GroupId
  addr : Nat
  len : Nat
  digest : List Byte
  deriving DecidableEq, Repr

/-- What a load compares with when it ends: CFG and SEED of the media PLLs, owners and loads of the banks, rate of the group (06 R241;
13 R810). -/
structure Before where
  plls : List Word := []
  owners : List Nat := []
  loads : List Nat := []
  rate : Nat := 0
  deriving DecidableEq, Repr

/-- A load under way: flash address and length, kind, whether SEC asked for it and whether a restore did, the steps left, whether the
apply pass found damage, whether a warm reset takes AUTORUN from it (14 R616), SEQ, DIGEST, MINPL by group, banks to zero, cores whose
spare takes their place (02 R95), and the state before it. -/
structure Load where
  addr : Nat
  len : Nat
  kind : LoadKind := .whole
  boot : Bool := false
  restore : Bool := false
  steps : List LoadStep := []
  failed : Bool := false
  noAuto : Bool := false
  seq : Nat := 0
  digest : List Byte := []
  minpl : List Nat := []
  zero : List Nat := []
  remap : List (CoreId × CoreId) := []
  before : Before := {}
  deriving DecidableEq, Repr

/-- The loader beside its registers: the load under way, the restore list (14 R618), the entries still to restore, and whether the
journal replay follows the load (06 R285), and the cores whose spare took their place at their load (02 R95). -/
structure Loader where
  load : Option Load := none
  list : List RestoreEntry := []
  todo : List RestoreEntry := []
  skipped : Bool := false
  replay : Bool := false
  remap : List (CoreId × CoreId) := []
  deriving DecidableEq, Repr

/-! ## Power (chapter 17) -/

/-- A sleep entry: target, STOP, the step of R727 that runs (2 to 8; 9 is the entry window), and what its clients were at GO: states
and mute causes of the groups, EN of ports, BCE, probe and streams; the cycle of the last domain's switching. -/
structure SleepEntry where
  target : Nat
  stop : Bool
  step : Nat := 2
  groups : List Nat := []
  causes : List Nat := []
  ports : List Nat := []
  bce : Bool := false
  probe : Bool := false
  txs : List Nat := []
  rxs : List Nat := []
  since : Nat := 0
  deriving DecidableEq, Repr

/-- A device woken through a link: the sleep state it left, its STOP, and the cycle since which its ports are UP (17 R725). -/
structure Resleep where
  target : Nat
  stop : Bool
  since : Option Nat := none
  deriving DecidableEq, Repr

/-- Power management beside its registers: sleep state (0 = S0 to 4 = S4); the entry under way; what S1 must start again; the level of a
running change; cycle of the last access by demanded domain (R720); edge wake events latched in an entry (R731); a warm reset held
back (R760); the watch after a link wake (R725); a reset that is held, by code (R688, R710, R758); the sleep state of the wake under
way; whether a wake frame caused it; a warm reset runs; levels at the wake pins and signal detect, in the bit order of WAKE_SRC. -/
structure Power where
  sleep : Nat := 0
  entry : Option SleepEntry := none
  saved : Option SleepEntry := none
  change : Option Nat := none
  demand : Tab Nat := []
  latched : List Nat := []
  warmHeld : Bool := false
  resleep : Option Resleep := none
  held : Option Nat := none
  waking : Option Nat := none
  frameWake : Bool := false
  warm : Bool := false
  wakePins : Nat := 3
  deriving DecidableEq, Repr

/-- One sample core. -/
structure Core where
  prog : Vector ProgPage 2 := Vector.replicate 2 {}
  coef : Vector Mem 2 := Vector.replicate 2 []
  state : Mem := []
  ppage : Fin 2 := 0
  cpage : Fin 2 := 0
  run : Option Sample := none
  /-- A request the crossbar has not accepted, with its bank (04 R177). -/
  waiting : Option (BankId × Req) := none
  nextReq : Nat := 0
  /-- A spare that is ready (02 R100). -/
  ready : Bool := false
  /-- A takeover asked by TAKEOVER waits for the next tick (`false`), or for the sample after it (`true`) (02 R102). -/
  takeover : Option Bool := none
  /-- Sample indices of first faults within the last 65,536 samples (18 R741). -/
  firstFaults : List Nat := []
  /-- The retry of the next sample is omitted (18 R741). -/
  omitRetry : Bool := false
  /-- The sample begun at the last tick is the retry of a faulted one (18 R740). -/
  retrying : Bool := false
  /-- A crossbar failure of a write of this core waits to be taken as a fault (18 R748). -/
  xbarFail : Bool := false
  /-- Chamber state-initialisation list (06 R246). -/
  chInit : List (Half × Word) := []
  glides : List Glide := []
  sync : Option SyncRun := none
  deriving DecidableEq, Repr

structure State where
  /-- Commands waiting, first in, first out. -/
  pending : List Instr := []
  /-- Elapsed memory cycles of 600 MHz (log entry 1). -/
  cycles : Nat := 0
  /-- The model's own counter of free choices made (log entry 2). -/
  free : Nat := 0
  /-- The register file: fields written since reset, by `Field.key`; a field that is not listed reads its reset value (00 R14). -/
  regs : Tab Nat := []
  cores : Vector Core 16 := Vector.replicate 16 {}
  banks : Vector Bank 16 := Vector.replicate 16 {}
  groups : Vector Group 4 := Vector.replicate 4 {}
  sluices : Vector (Option Sluice) 4 := Vector.replicate 4 none
  /-- Words of bus accesses that wait, oldest first (06 R245; 16 R668, R673), and words of writes that timed out (R668). -/
  hostBus : List BusWord := []
  lateBus : List BusWord := []
  /-- The word that a read command returned. -/
  hostOut : List Word := []
  /-- The QSPI transaction in its wait phase, and the last device phase (16 R663). -/
  qspi : Option QspiRun := none
  qspiReply : Option QspiReply := none
  /-- Words of the last I2C read and of the last REG_READ. -/
  i2cOut : List Word := []
  remoteOut : List Word := []
  /-- Companion fields latched by reads, by interface and field (16 R669). -/
  latches : Tab Nat := []
  /-- The core memories were loaded from the stored bitstream while the journal bank kept its content (06 R285). -/
  replayDue : Bool := false
  /-- A journal clear runs (06 R284). -/
  jnlClearing : Bool := false
  /-- Banks that the coming boot sparges, as a mask (05 R227, R228). -/
  spargeDue : Nat := 0xFFFF
  /-- Accesses of requesters other than cores whose crossbar retry failed: requester, bank, word, write (18 R748). -/
  xbarFails : List (Nat × BankId × Nat × Bool) := []
  /-- Reads of such requesters that found an uncorrectable error: requester, bank, word (18 R750). -/
  memErrs : List (Nat × BankId × Nat) := []
  /-- A read of the BCE or the probe gave 0 under R750 and has not been acted on. -/
  badRead : Bool := false
  /-- The sleep walker's totals, shown at wake (05 R225): words corrected, passes, words lost, words whose row failed again. -/
  walkCe : Nat := 0
  walkPasses : Nat := 0
  walkLost : List (BankId × Nat) := []
  walkLasting : List (BankId × Nat) := []
  /-- Channel descriptors by channel number (09 R381, R388). -/
  ingress : Tab ChanDesc := []
  egress : Tab ChanDesc := []
  routes : Tab Route := []
  chans : Tab ChanState := []
  hgs : Tab Headgate := []
  /-- First open sample of each headgate's last ramped OPEN (09 R407). -/
  hgRamps : Tab Nat := []
  /-- Values sent and seals made, by route. -/
  sent : Tab SentList := []
  sealTx : Tab SealTx := []
  ports : Vector Port 16 := Vector.replicate 16 {}
  links : Vector LinkPort 4 := Vector.replicate 4 {}
  /-- A link tick has begun (11 R466). -/
  linkBegun : Bool := false
  /-- Broadcasts seen, with the link index of the first copy (11 R505), and the next own sequence number. -/
  bcSeen : List (Nat × Nat × Nat) := []
  bcSeq : Nat := 0
  /-- Cycle of the last wake request forwarded, and that one named this device or all (11 R504, 17 R725). -/
  wakeSent : Option Nat := none
  wakeNamed : Bool := false
  /-- Link tick at which wrapping stops (11 R496). -/
  unwrapAt : Option Nat := none
  /-- Whole tunnel messages received, with their ports, oldest first (16 R680). -/
  tunMsgs : List (LinkId × List Word) := []
  /-- Sum and number of the link offsets of the running update (12 R521). -/
  linkTheta : Int := 0
  linkThetas : Nat := 0
  bce : Bce := {}
  probe : Probe := {}
  time : TimeBase := {}
  ptp : PtpState := {}
  plls : Vector MediaPll 2 := Vector.replicate 2 {}
  monitors : Tab InMonitor := []
  sysAttempts : Nat := 0
  sps : Vector SerdesPll 2 := Vector.replicate 2 {}
  /-- Memory cycle at which the reference stopped (13 R572). -/
  refStopped : Option Nat := none
  /-- Class of the PTP grandmaster followed (12 R526). -/
  ptpClass : Nat := 248
  lanes : Vector NetLane 2 := Vector.replicate 2 {}
  rxs : Tab RxStream := []
  txs : Tab TxStream := []
  /-- What the lanes sent, newest first, at most 64 (the model's record of its outputs, log entry 33). -/
  netOut : List NetOut := []
  cc : ControlChannel := {}
  mbx : Mailbox := {}
  tunnel : Tunnel := {}
  update : Option Update := none
  sec : Sec := {}
  /-- Blown EPOCH bits and KEY_REVOKE bits (15 R623). -/
  fuseEpoch : Nat := 0
  fuseRevoke : Nat := 0
  /-- The external flash, erased to 0xFF (15 R627). -/
  flash : Mem := []
  loader : Loader := {}
  power : Power := {}
  /-- Coarse timekeeper at the entry to a sleep state: its seconds, and the memory cycle (12 R531). -/
  coarse : Nat × Nat := (0, 0)
  /-- The time counter in units of 1 / (3 * 2^48) ns (12 R511). -/
  tim : Nat := 0
  /-- The AON log, oldest first, at most 256 entries (16 R691), and how many of the newest have not been copied. -/
  aonLog : List LogEntry := []
  logPending : Nat := 0
  /-- Memory cycle at which each event was last logged (20 R777). -/
  evtLogged : Tab Nat := []
  deriving DecidableEq, Repr

/-- The machine right after a P-class reset, before SEC hands over: every register at its reset value, memories sparged. -/
def State.reset : State := {}

end Sys2Proof.Machine
end

