-- ==== Sys2Proof/Machine/Ops.lean ====
section
/-!
DEFINITION. Named operations over tables, memories, register fields, the time counter, the log and events.
-/

namespace Sys2Proof.Machine

open Sys2Proof

/-! ## Tables -/

/-- The entry at a key. -/
def tabGet? {α : Type} (k : Nat) : Tab α → Option α
  | [] => none
  | (k', v) :: t => if k = k' then some v else if k < k' then none else tabGet? k t

/-- The entry at a key, or a default. -/
def tabGet {α : Type} (t : Tab α) (k : Nat) (dflt : α) : α := (tabGet? k t).getD dflt

/-- Put an entry at a key. -/
def tabSet {α : Type} (k : Nat) (v : α) : Tab α → Tab α
  | [] => [(k, v)]
  | (k', v') :: t => if k = k' then (k, v) :: t else if k < k' then (k, v) :: (k', v') :: t else (k', v') :: tabSet k v t

/-- Take the entry at a key out. -/
def tabErase {α : Type} (k : Nat) : Tab α → Tab α
  | [] => []
  | (k', v') :: t => if k = k' then t else if k < k' then (k', v') :: t else (k', v') :: tabErase k t

/-- Keys strictly rising. -/
def tabWf {α : Type} : Tab α → Bool
  | [] => true
  | [_] => true
  | (a, _) :: (b, w) :: t => a < b && tabWf ((b, w) :: t)

/-! ## Memories: sorted lists of byte cells -/

/-- The byte at an address; `dflt` is what an unlisted address reads as. -/
def memByte (dflt : Byte) (m : Mem) (a : Nat) : Byte := tabGet m a dflt

/-- Write a byte; a byte equal to the default is not listed. -/
def memPut (dflt : Byte) (m : Mem) (a : Nat) (v : Byte) : Mem := if v = dflt then tabErase a m else tabSet a v m

/-- The canonical form: addresses strictly rising and no cell at the default value. -/
def memWf (dflt : Byte) (m : Mem) : Bool := tabWf m && m.all fun c => c.2 != dflt

/-- The 32-bit word at word offset `w`, little-endian (00 "Notation"). -/
def memWordD (dflt : Byte) (m : Mem) (w : Nat) : Word :=
  memByte dflt m (4 * w + 3) ++ memByte dflt m (4 * w + 2) ++ memByte dflt m (4 * w + 1) ++ memByte dflt m (4 * w)

/-- Write the 32-bit word at word offset `w`. -/
def memSetWordD (dflt : Byte) (m : Mem) (w : Nat) (v : Word) : Mem :=
  memPut dflt (memPut dflt (memPut dflt (memPut dflt m (4 * w) (v.extractLsb' 0 8)) (4 * w + 1) (v.extractLsb' 8 8))
    (4 * w + 2) (v.extractLsb' 16 8)) (4 * w + 3) (v.extractLsb' 24 8)

/-- Words of the on-chip memories, which read 0 where nothing is listed (log entry 4). -/
def memWord (m : Mem) (w : Nat) : Word := memWordD 0 m w
def memSetWord (m : Mem) (w : Nat) (v : Word) : Mem := memSetWordD 0 m w v

/-- Write words from a word offset upwards. -/
def memSetWords (m : Mem) (w : Nat) : List Word → Mem
  | [] => m
  | v :: t => memSetWords (memSetWord m w v) (w + 1) t

/-- `n` words from a word offset upwards. -/
def memWords (m : Mem) (w n : Nat) : List Word := (List.range n).map fun i => memWord m (w + i)

/-! ## Register fields -/

/-- The value of element `i` of a register field. -/
def State.reg (s : State) (f : Field) (i : Nat := 0) : Nat := (tabGet? (f.key i) s.regs).getD f.reset

/-- Element `i` of a register field takes a value, cut to its width. -/
def State.put (s : State) (f : Field) (i : Nat) (v : Nat) : State :=
  { s with regs := tabSet (f.key i) (v % 2 ^ f.width) s.regs }

/-- A flag of one bit. -/
def State.flag (s : State) (f : Field) (i : Nat := 0) : Bool := s.reg f i != 0

/-- Set or clear a flag of one bit. -/
def State.putFlag (s : State) (f : Field) (i : Nat) (b : Bool) : State := s.put f i (if b then 1 else 0)

/-- A saturating counter goes up by `n` (00 R15, R106: counters saturate). -/
def State.count (s : State) (f : Field) (i : Nat := 0) (n : Nat := 1) : State :=
  s.put f i (min (s.reg f i + n) (2 ^ f.width - 1))

/-- Bit `b` of a mask field. -/
def State.maskBit (s : State) (f : Field) (b : Nat) (i : Nat := 0) : Bool := (s.reg f i).testBit b

/-- Set or clear bit `b` of a number. -/
def setBitTo (v b : Nat) (on : Bool) : Nat := if v.testBit b then (if on then v else v - 2 ^ b) else (if on then v + 2 ^ b else v)

/-- Set or clear bit `b` of a mask field. -/
def State.putMaskBit (s : State) (f : Field) (b : Nat) (on : Bool) (i : Nat := 0) : State :=
  s.put f i (setBitTo (s.reg f i) b on)

/-- A 64-bit value in two registers. -/
def State.put64 (s : State) (lo hi : Field) (i : Nat) (v : Nat) : State := (s.put lo i (v % 2 ^ 32)).put hi i (v / 2 ^ 32 % 2 ^ 32)

def State.reg64 (s : State) (lo hi : Field) (i : Nat := 0) : Nat := s.reg lo i + 2 ^ 32 * s.reg hi i

/-- A companion field as latched for an interface: 0 = QSPI, 1 = I2C, 2 = mailbox (16 R669). -/
def State.latch (s : State) (iface : Fin 3) (f : Field) (i : Nat := 0) : Nat :=
  tabGet s.latches (iface.val * 2 ^ 40 + f.key i) f.reset

def State.putLatch (s : State) (iface : Fin 3) (f : Field) (i v : Nat) : State :=
  { s with latches := tabSet (iface.val * 2 ^ 40 + f.key i) (v % 2 ^ f.width) s.latches }

/-- The members of a mask of 16 cores, lowest first. -/
def maskCores (m : Nat) : List CoreId := (List.finRange 16).filter fun c => m.testBit c.val

/-! ## The time counter (12 R511) and elapsed time -/

/-- Units of the time counter in one nanosecond. -/
def timPerNs : Nat := 3 * 2 ^ 48

/-- Units of the time counter in one second. -/
def timPerSec : Nat := 1000000000 * timPerNs

def State.timSec (s : State) : Nat := s.tim / timPerSec % 2 ^ 48
def State.timNs (s : State) : Nat := s.tim % timPerSec / timPerNs
/-- Fraction of a nanosecond, 16 bits. -/
def State.timFrac (s : State) : Nat := s.tim % timPerNs * 2 ^ 16 / timPerNs

/-- Memory cycles in a millisecond (01 R35: 600 MHz). -/
def cyclesPerMs : Nat := 600000

/-! ## Free choices (log entry 2) -/

/-- Make a free choice between two outcomes. -/
def State.chooseBool (s : State) : Bool × State := (Config.freeBool s.free, { s with free := s.free + 1 })

/-- Make a free choice of a number below `n`. -/
def State.chooseNat (s : State) (n : Nat) : Nat × State := (Config.freeNat s.free % n, { s with free := s.free + 1 })

/-- Take a fresh unconstrained word. -/
def State.chooseWord (s : State) : Word × State := (Config.freeWord s.free, { s with free := s.free + 1 })

/-! ## Log and events -/

/-- Put an entry at the end of the AON log: 256 entries, the oldest is overwritten (16 R691). -/
def State.logPush (s : State) (kind code arg : Nat) : State :=
  let e : LogEntry := { sec := s.timSec % 2 ^ 32, ns := s.timNs, coarse := s.flag TIM_STATUS_COARSE, kind := kind, code := code, arg := arg }
  { s with aonLog := (if 256 ≤ s.aonLog.length then s.aonLog.drop 1 else s.aonLog) ++ [e], logPending := min 256 (s.logPending + 1) }

/-- The route byte of an event (20 R775). -/
def State.route (s : State) (e : Nat) : Nat := s.reg EVT_ROUTE (e / 4) / 256 ^ (e % 4) % 256

/-- In S2, S3 and S4 no event is raised (20 R780). -/
def State.awake (s : State) : Bool := s.power.sleep < 2

/-- Set an event's pending bit and count it (20 R774). -/
def State.pend (s : State) (e : Nat) : State := (s.putMaskBit EVT_PEND (e % 32) true (e / 32)).count EVT_CNT e

/-- Append to the AON log. An entry overwritten before it was copied is lost: LOST is set and EV122 raised (16 R693). -/
def State.logAppend (s : State) (kind code arg : Nat) : State :=
  let lost := decide (256 ≤ s.logPending)
  let s := s.logPush kind code arg
  if lost then
    let s := (s.putFlag MGT_LOG_STATUS_LOST 0 true).pend 122
    if (s.route 122).testBit 4 then s.logPush 0x01 122 (s.reg EVT_CNT 122 % 2 ^ 31) else s
  else s

/-- An event is logged now (20 R777). -/
def State.noteLogged (s : State) (e : Nat) : State := { s with evtLogged := tabSet e s.cycles s.evtLogged }

/-- Raise event `e`: its pending bit, its counter, and a log entry when it is routed to the mailbox and none was written in
the last millisecond (20 R774, R777). `forced` is bit 31 of the argument (R779). -/
def State.raiseWith (s : State) (e : Nat) (forced : Bool) : State :=
  if s.awake then
    let s := s.pend e
    let recent := match tabGet? e s.evtLogged with
      | some t => decide (s.cycles < t + cyclesPerMs)
      | none => false
    if (s.route e).testBit 4 && !recent then
      let s := s.noteLogged e
      s.logAppend 0x01 e (s.reg EVT_CNT e % 2 ^ 31 + (if forced then 2 ^ 31 else 0))
    else s
  else s

def State.raise (s : State) (e : Nat) : State := s.raiseWith e false

/-! ## Parts of the state -/

def State.core (s : State) (c : CoreId) : Core := s.cores[c]
def State.setCore (s : State) (c : CoreId) (x : Core) : State := { s with cores := s.cores.set c x }
def State.bank (s : State) (b : BankId) : Bank := s.banks[b]
def State.setBank (s : State) (b : BankId) (x : Bank) : State := { s with banks := s.banks.set b x }

def State.group (s : State) (g : GroupId) : Group := s.groups[g]
def State.setGroup (s : State) (g : GroupId) (x : Group) : State := { s with groups := s.groups.set g x }

def State.port (s : State) (p : PortId) : Port := s.ports[p]
def State.setPort (s : State) (p : PortId) (x : Port) : State := { s with ports := s.ports.set p x }
def State.chanSt (s : State) (c : Nat) : ChanState := tabGet s.chans c {}
def State.setChanSt (s : State) (c : Nat) (x : ChanState) : State := { s with chans := tabSet c x s.chans }

/-- A number as an index, when it is in range. -/
def toFin? (n k : Nat) : Option (Fin n) := if h : k < n then some ⟨k, h⟩ else none

end Sys2Proof.Machine
end

