-- ==== Sys2Proof/Machine/Arith.lean ====
section
/-!
DEFINITION. The arithmetic of a sample core on exact integers, narrowed at the end (02 R82 to R87; 03 R138 to R148; 04 R181).
-/

namespace Sys2Proof.Machine

open Sys2Proof

/-- Clamp to `lo..hi`. -/
def clampInt (lo hi x : Int) : Int := if x < lo then lo else if hi < x then hi else x

/-- An exact value as an accumulator, saturated to Q17.63, and whether it was clamped (02 R85). -/
def satAcc (x : Int) : Acc × Bool :=
  let y := clampInt (-(2 ^ 79)) (2 ^ 79 - 1) x
  (BitVec.ofInt 80 y, y != x)

/-- An exact value as a word, saturated to 32 bits, and whether it was clamped (02 R87, 03 R143). -/
def satWord (x : Int) : Word × Bool :=
  let y := clampInt (-(2 ^ 31)) (2 ^ 31 - 1) x
  (BitVec.ofInt 32 y, y != x)

/-- A result that saturates or wraps by SAT. -/
def narrow (sat : Bool) (x : Int) : Word × Bool := if sat then satWord x else (BitVec.ofInt 32 x, false)

/-- `x / 2^32` rounded by a mode of 02 R86. -/
def roundTo32 (rm : Fin 4) (x : Int) : Int :=
  let q := x / 2 ^ 32
  let r := x % 2 ^ 32
  match rm with
  | 0 => q
  | 1 => if 2 ^ 31 ≤ r then q + 1 else q
  | 2 => if 2 ^ 31 < r then q + 1 else if r = 2 ^ 31 then (if q % 2 = 0 then q else q + 1) else q
  | 3 => if x < 0 && r != 0 then q + 1 else q

/-- Saturation to 32 bits, signed. -/
def sat32 (x : Int) : Int := max (-(2 ^ 31)) (min (2 ^ 31 - 1) x)

/-- `x / d` rounded half to even (04 R181). -/
def roundHalfEven (x : Int) (d : Nat) : Int :=
  let q := x / d
  let r := x % d
  if d < 2 * r then q + 1 else if 2 * r = d then (if q % 2 = 0 then q else q + 1) else q

/-- Shift of a Q1.31 product into Q17.63 by the coefficient format: false = Q1.31, true = Q4.28 (02 R84). -/
def alignShift (cf : Bool) : Nat := if cf then 4 else 1

/-- A signed product aligned into Q17.63 (02 R82, R84). -/
def product (cf : Bool) (x c : Word) : Int := x.toInt * c.toInt * 2 ^ alignShift cf

/-- A product as an accumulator, negated by NEG (03 R133). -/
def signed (neg : Bool) (p : Int) : Int := if neg then -p else p

/-- Arithmetic shift of an exact integer: left for a positive amount, floor division for a negative one. -/
def shiftInt (x : Int) (n : Int) : Int := if n < 0 then x / 2 ^ (-n).toNat else x * 2 ^ n.toNat

/-- Logical right shift of a word by the negative of `n`, or a left shift that keeps 32 bits (03 R146). -/
def shiftLogical (x : Word) (n : Int) : Word :=
  if n < 0 then BitVec.ofNat 32 (x.toNat / 2 ^ (-n).toNat) else BitVec.ofInt 32 (x.toInt * 2 ^ n.toNat)

/-- A condition of CMP or PCMPZ on two exact values (03 R150). -/
def condHolds (c : Cond) (x y : Int) : Bool :=
  match c with
  | .eq => x = y
  | .ne => x ≠ y
  | .lt => x < y
  | .ge => y ≤ x
  | .le => x ≤ y
  | .gt => y < x

/-- A condition of PACC (03 R155); one is 2^63. -/
def accCondHolds (c : AccCond) (a : Acc) : Bool :=
  match c with
  | .neg => a.toInt < 0
  | .zero => a.toInt = 0
  | .pos => 0 < a.toInt
  | .ovr => 2 ^ 63 ≤ a.toInt || a.toInt < -(2 ^ 63)

/-- Weights of an interpolated tap in Q4.28 from the fraction `f` of 16 bits, for Lagrange (mode 0) and Hermite (mode 1)
(04 R181). With U = 2^16 the exact weight times 2^28 is the numerator over 6 or 2 times 2^20. -/
def tapWeights (mode : Nat) (f : Nat) : List Word :=
  let m : Int := f
  let u : Int := 65536
  let q (x : Int) (d : Nat) : Word := BitVec.ofInt 32 (roundHalfEven x (d * 2 ^ 20))
  if mode = 0 then
    [q (-(m * (m - u) * (m - 2 * u))) 6, q ((m + u) * (m - u) * (m - 2 * u)) 2,
     q (-((m + u) * m * (m - 2 * u))) 2, q ((m + u) * m * (m - u)) 6]
  else
    [q (-(m ^ 3) + 2 * u * m ^ 2 - u ^ 2 * m) 2, q (3 * m ^ 3 - 5 * u * m ^ 2 + 2 * u ^ 3) 2,
     q (-(3 * m ^ 3) + 4 * u * m ^ 2 + u ^ 2 * m) 2, q (m ^ 3 - u * m ^ 2) 2]

/-- Sum of four aligned tap products (04 R180). -/
def tapSum (shift : Nat) : List Word → List Word → Int
  | x :: xs, w :: ws => x.toInt * w.toInt * 2 ^ shift + tapSum shift xs ws
  | _, _ => 0

/-- One step of a 64-sample ramp: `(x * num) >> sh`, toward minus infinity (02 R65, 06 R269). -/
def rampWord (x : Word) (num : Nat) (sh : Nat) : Word := BitVec.ofInt 32 (x.toInt * num / 2 ^ sh)

end Sys2Proof.Machine
end

