-- ==== Sys2Proof/Machine/Idle.lean ====
section
/-!
DEFINITION. The passing of one memory cycle: time goes on (log entry 1).
-/

namespace Sys2Proof.Machine

open Sys2Proof

/-- The signed rate word of the time counter, units of 2^-48 (12 R511, R554). -/
def State.rateWord (s : State) : Int :=
  let r : Nat := s.reg TIM_RATE_LO + 2 ^ 32 * s.reg TIM_RATE_HI
  if 2 ^ 39 ≤ r then (r : Int) - 2 ^ 40 else (r : Int)

/-- What one memory cycle of 5/3 ns adds to the time counter, in its units (12 R511). -/
def State.timAdvance (s : State) : Nat := (5 * ((2 : Int) ^ 48 + s.rateWord)).toNat

/-- One memory cycle of 600 MHz passes; the time counter stands in S2, S3 and S4 (12 R531). -/
def State.cycle (s : State) : State :=
  { s with cycles := s.cycles + 1, tim := if s.power.sleep < 2 then s.tim + s.timAdvance else s.tim }

end Sys2Proof.Machine
end

