-- ==== Sys2Proof/Machine/Bundle.lean ====
section
/-!
DEFINITION. Bundles of a program page: reading the slots of a 64-bit bundle into operations, and the encoder of each
operation's slot (03 R112 to R115, R129 to R155; 04 R165, R167). An encoding that the specification reserves is `illegal`.
-/

namespace Sys2Proof.Machine

open Sys2Proof

/-- Bits `lo + n - 1` to `lo` of a number. -/
def bitsOf (w lo n : Nat) : Nat := w / 2 ^ lo % 2 ^ n

/-- Bit `lo` of a number. -/
def flagOf (w lo : Nat) : Bool := bitsOf w lo 1 == 1

def fin4Of (w lo : Nat) : Fin 4 := Fin.ofNat 4 (bitsOf w lo 2)
def fin8Of (w lo : Nat) : Fin 8 := Fin.ofNat 8 (bitsOf w lo 3)
def fin16Of (w lo : Nat) : Fin 16 := Fin.ofNat 16 (bitsOf w lo 4)
def fin32Of (w lo : Nat) : Fin 32 := Fin.ofNat 32 (bitsOf w lo 5)

/-- What a slot holds: an encoding the specification reserves, no operation, or an operation. -/
inductive SlotRead where
  | illegal
  | nop
  | op (o : CoreOp)
  deriving DecidableEq, Repr

/-- An operation when its reserved bits are 0, otherwise an illegal slot (03 R128). -/
def slotWhen (ok : Bool) (o : CoreOp) : SlotRead := if ok then .op o else .illegal

/-- Fields of MAC4, MAC2C and MAC2D (R130). -/
def quadMulOf (w : Nat) : QuadMul :=
  { q := fin4Of w 17, d := fin32Of w 12, k := fin8Of w 9, acc := flagOf w 8, neg := flagOf w 7, cf := flagOf w 6, kinc := fin4Of w 4 }

def singleMulOf (w : Nat) : SingleMul :=
  { a := fin16Of w 15, d := fin32Of w 10, k := fin8Of w 7, acc := flagOf w 6, neg := flagOf w 5, cf := flagOf w 4, kinc := fin4Of w 2 }

def dataMulOf (w : Nat) : DataMul :=
  { a := fin16Of w 15, d := fin32Of w 10, s := fin32Of w 5, acc := flagOf w 4, neg := flagOf w 3 }

def convertOf (w : Nat) : Convert :=
  { a := fin16Of w 15, d := fin32Of w 10, rm := fin4Of w 8, sat := flagOf w 7, sh := fin8Of w 4 }

def data3Of (w : Nat) : Data3 := { d := fin32Of w 14, a := fin32Of w 9, b := fin32Of w 4, sat := flagOf w 3 }
def logic3Of (w : Nat) : Logic3 := { d := fin32Of w 14, a := fin32Of w 9, b := fin32Of w 4 }
def data2Of (w : Nat) : Data2 := { d := fin32Of w 14, a := fin32Of w 9, sat := flagOf w 3 }
def accPairOf (w : Nat) : AccPair := { a := fin16Of w 15, b := fin16Of w 11 }

/-- The condition codes of CMP and PCMPZ (R150). -/
def condOf : Nat → Option Cond
  | 0 => some .eq
  | 1 => some .ne
  | 2 => some .lt
  | 3 => some .ge
  | 4 => some .le
  | 5 => some .gt
  | _ => none

/-- The code of a condition (R150). -/
def condCode : Cond → Nat
  | .eq => 0
  | .ne => 1
  | .lt => 2
  | .ge => 3
  | .le => 4
  | .gt => 5

/-- The condition codes of PACC (R155). -/
def accCondOf : Nat → Option AccCond
  | 0 => some .neg
  | 1 => some .zero
  | 2 => some .pos
  | 3 => some .ovr
  | _ => none

def accCondCode : AccCond → Nat
  | .neg => 0
  | .zero => 1
  | .pos => 2
  | .ovr => 3

/-- AOP by its function (R139): bits 7:0 are 0, and B is 0 for CLR and CLRQ. -/
def readAop (w : Nat) : SlotRead :=
  let p := accPairOf w
  match bitsOf w 8 3 with
  | 0 => slotWhen (bitsOf w 0 8 == 0) (.aopMov p)
  | 1 => slotWhen (bitsOf w 0 8 == 0) (.aopAdd p)
  | 2 => slotWhen (bitsOf w 0 8 == 0) (.aopSub p)
  | 3 => slotWhen (bitsOf w 0 8 == 0) (.aopNeg p)
  | 4 => slotWhen (bitsOf w 0 8 == 0) (.aopAbs p)
  | 5 => slotWhen (bitsOf w 0 8 == 0 && bitsOf w 11 4 == 0) (.aopClr p.a)
  | 6 => slotWhen (bitsOf w 0 8 == 0 && bitsOf w 11 4 == 0) (.aopClrq p.a)
  | _ => .illegal

/-- LOG by its function (R144). -/
def readLog (w : Nat) : SlotRead :=
  let f := logic3Of w
  match bitsOf w 0 3 with
  | 0 => slotWhen (!flagOf w 3) (.logAnd f)
  | 1 => slotWhen (!flagOf w 3) (.logOr f)
  | 2 => slotWhen (!flagOf w 3) (.logXor f)
  | 3 => slotWhen (!flagOf w 3) (.logAndn f)
  | 4 => slotWhen (!flagOf w 3 && bitsOf w 4 5 == 0) (.logNot { d := f.d, a := f.a })
  | _ => .illegal

/-- SHV by its function (R145). -/
def readShv (w : Nat) : SlotRead :=
  match bitsOf w 0 3 with
  | 0 => .op (.shvArithmetic (data3Of w))
  | 1 => slotWhen (!flagOf w 3) (.shvLogical (logic3Of w))
  | _ => .illegal

/-- MMX by its function (R147). -/
def readMmx (w : Nat) : SlotRead :=
  match bitsOf w 0 3 with
  | 0 => slotWhen (!flagOf w 3) (.mmxMin (logic3Of w))
  | 1 => slotWhen (!flagOf w 3) (.mmxMax (logic3Of w))
  | 2 => slotWhen (bitsOf w 4 5 == 0) (.mmxAbs (data2Of w))
  | 3 => slotWhen (bitsOf w 4 5 == 0) (.mmxNeg (data2Of w))
  | _ => .illegal

/-- SHI (R145): a logical shift has SAT = 0 and bit 0 is 0. -/
def readShi (w : Nat) : SlotRead :=
  slotWhen (!flagOf w 0 && !(flagOf w 1 && flagOf w 2))
    (.shi { d := fin32Of w 14, a := fin32Of w 9, n := BitVec.ofNat 6 (bitsOf w 3 6), sat := flagOf w 2, logical := flagOf w 1 })

/-- CMP (R150). -/
def readCmp (w : Nat) : SlotRead :=
  match condOf (bitsOf w 3 3) with
  | some c => slotWhen (bitsOf w 0 2 == 0)
      (.cmp { t := fin8Of w 16, a := fin32Of w 11, b := fin32Of w 6, cond := c, uns := flagOf w 2 })
  | none => .illegal

/-- The MAC slot: 24 bits, opcode in bits 23:19 (R129). The value 0 is no operation (R114); MAC2C and MAC2D name an even
register (R128, R130). -/
def readMac (w : Nat) : SlotRead :=
  match bitsOf w 19 5 with
  | 0x00 => if bitsOf w 0 19 == 0 then .nop else .illegal
  | 0x01 => slotWhen (bitsOf w 0 4 == 0) (.mac4 (quadMulOf w))
  | 0x02 => slotWhen (bitsOf w 0 4 == 0 && bitsOf w 12 1 == 0) (.mac2c (quadMulOf w))
  | 0x03 => slotWhen (bitsOf w 0 4 == 0 && bitsOf w 12 1 == 0) (.mac2d (quadMulOf w))
  | 0x04 => slotWhen (bitsOf w 0 2 == 0) (.mac1 (singleMulOf w))
  | 0x05 => slotWhen (bitsOf w 0 3 == 0) (.muld (dataMulOf w))
  | 0x08 => slotWhen (bitsOf w 0 4 == 0) (.aconv (convertOf w))
  | 0x09 => readAop w
  | 0x0A => slotWhen (bitsOf w 0 5 == 0)
      (.ash { a := fin16Of w 15, b := fin16Of w 11, n := BitVec.ofNat 6 (bitsOf w 5 6) })
  | 0x0B => slotWhen (bitsOf w 0 8 == 0)
      (.ald { a := fin16Of w 15, d := fin32Of w 10, acc := flagOf w 9, neg := flagOf w 8 })
  | 0x10 => slotWhen (bitsOf w 0 3 == 0) (.add (data3Of w))
  | 0x11 => slotWhen (bitsOf w 0 3 == 0) (.sub (data3Of w))
  | 0x12 => readLog w
  | 0x13 => readShv w
  | 0x14 => readShi w
  | 0x15 => readMmx w
  | 0x16 => .op (.sel { d := fin32Of w 14, a := fin32Of w 9, b := fin32Of w 4, p := fin8Of w 1, inv := flagOf w 0 })
  | 0x17 => readCmp w
  | 0x18 => slotWhen (bitsOf w 0 3 == 0) (.clip (data3Of w))
  | _ => .illegal

/-- The MEM slot: 20 bits; bit 19 selects a state access (04 R167). -/
def readMem (w : Nat) : SlotRead :=
  if flagOf w 19 then
    let f : StateAccess := { d := fin16Of w 14, addr := BitVec.ofNat 14 (bitsOf w 0 14) }
    .op (if flagOf w 18 then .sts f else .lds f)
  else
    match bitsOf w 15 4 with
    | 0x0 => if bitsOf w 0 15 == 0 then .nop else .illegal
    | 0x1 => slotWhen (bitsOf w 0 5 == 0) (.ldc { d := fin32Of w 10, k := fin8Of w 7, kinc := fin4Of w 5 })
    | 0x2 => .op (.ldg { d := fin32Of w 10, g := fin16Of w 6, off := BitVec.ofNat 6 (bitsOf w 0 6) })
    | 0x3 => .op (.stg { d := fin32Of w 10, g := fin16Of w 6, off := BitVec.ofNat 6 (bitsOf w 0 6) })
    | 0x4 => slotWhen (!flagOf w 0) (.dtap { d := fin32Of w 10, g := fin16Of w 6, dly := fin32Of w 1 })
    | 0x5 => slotWhen (bitsOf w 0 2 == 0) (.ldq { qd := fin8Of w 12, g := fin16Of w 8, off := BitVec.ofNat 6 (bitsOf w 2 6) })
    | 0x6 => .op (.dtapi { a := fin16Of w 11, g := fin16Of w 7, dly := fin32Of w 2, acc := flagOf w 1, neg := flagOf w 0 })
    | _ => .illegal

/-- GADD and GMOV (04 R165). -/
def readGen (w : Nat) : SlotRead :=
  let m : GenMove := { g := fin16Of w 8, d := fin32Of w 3 }
  match bitsOf w 1 2 with
  | 0 => slotWhen (!flagOf w 0) (.gmovIndexSet m)
  | 1 => slotWhen (!flagOf w 0) (.gmovIndexGet m)
  | 2 => slotWhen (!flagOf w 0) (.gmovLineSet m)
  | _ => slotWhen (!flagOf w 0) (.gmovLineGet m)

/-- PLOG by its function (R154). -/
def readPlog (w : Nat) : SlotRead :=
  let f : Pred3 := { t := fin8Of w 9, a := fin8Of w 6, b := fin8Of w 3 }
  match bitsOf w 0 3 with
  | 0 => .op (.plogAnd f)
  | 1 => .op (.plogOr f)
  | 2 => .op (.plogXor f)
  | 3 => .op (.plogAndn f)
  | 4 => slotWhen (bitsOf w 3 3 == 0) (.plogNot { t := f.t, a := f.a })
  | 5 => slotWhen (bitsOf w 3 6 == 0) (.plogSet f.t)
  | 6 => slotWhen (bitsOf w 3 6 == 0) (.plogClr f.t)
  | _ => .illegal

/-- The AUX slot: 16 bits, opcode in bits 15:12 (R151). -/
def readAux (w : Nat) : SlotRead :=
  match bitsOf w 12 4 with
  | 0x0 => if bitsOf w 0 12 == 0 then .nop else .illegal
  | 0x1 =>
    let f : GenAdd := { g := fin16Of w 8, imm := BitVec.ofNat 7 (bitsOf w 0 7) }
    .op (if flagOf w 7 then .gaddLine f else .gaddIndex f)
  | 0x2 => readGen w
  | 0x3 => .op (.kadd { k := fin8Of w 9, imm := BitVec.ofNat 9 (bitsOf w 0 9) })
  | 0x4 =>
    let f : PtrMove := { k := fin8Of w 9, d := fin32Of w 4 }
    slotWhen (bitsOf w 0 3 == 0) (if flagOf w 3 then .kmovToD f else .kmovToK f)
  | 0x5 => slotWhen (bitsOf w 0 2 == 0) (.mov { d := fin32Of w 7, s := fin32Of w 2 })
  | 0x6 => .op (.movi { d := fin32Of w 7, imm := BitVec.ofNat 7 (bitsOf w 0 7) })
  | 0x7 => .op (.cmov { d := fin32Of w 7, s := fin32Of w 2, ps := fin4Of w 0 })
  | 0x8 =>
    match condOf (bitsOf w 1 3) with
    | some c => slotWhen (!flagOf w 0) (.pcmpz { t := fin8Of w 9, a := fin32Of w 4, cond := c })
    | none => .illegal
  | 0x9 => readPlog w
  | 0xA =>
    match accCondOf (bitsOf w 2 3) with
    | some c => slotWhen (bitsOf w 0 2 == 0) (.pacc { t := fin8Of w 9, a := fin16Of w 5, cond := c })
    | none => .illegal
  | _ => .illegal

/-- The immediate fields of an immediate bundle, given as bundle bits 61:18 (R115). -/
def readImm (w : Nat) : SlotRead :=
  match bitsOf w 41 3 with
  | 0 => slotWhen (bitsOf w 0 4 == 0) (.immD { d := fin32Of w 36, imm := BitVec.ofNat 32 (bitsOf w 4 32) })
  | 1 => slotWhen (bitsOf w 0 4 == 0 && bitsOf w 39 2 == 0 && bitsOf w 20 16 == 0)
      (.immK { k := fin8Of w 36, imm := BitVec.ofNat 16 (bitsOf w 4 16) })
  | _ => .illegal

/-- A bundle: its guard and what its slots hold. An immediate stands in the MAC place (R112, R113, R115). -/
structure Bundle where
  guard : Fin 4
  mac : SlotRead
  mem : SlotRead
  aux : SlotRead
  deriving DecidableEq, Repr

/-- Reading a bundle of 64 bits (R112, R113). -/
def readBundle (w : Nat) : Bundle :=
  match bitsOf w 62 2 with
  | 0 => { guard := fin4Of w 0, mac := readMac (bitsOf w 38 24), mem := readMem (bitsOf w 18 20), aux := readAux (bitsOf w 2 16) }
  | 1 => { guard := fin4Of w 0, mac := readImm (bitsOf w 18 44), mem := .nop, aux := readAux (bitsOf w 2 16) }
  | _ => { guard := fin4Of w 0, mac := .illegal, mem := .nop, aux := .nop }

/-- What a slot of a bundle holds. -/
def Bundle.slot (b : Bundle) : Slot → SlotRead
  | .mac => b.mac
  | .mem => b.mem
  | .aux => b.aux

/-- A bundle that the loader accepts: no slot is illegal (R128). -/
def Bundle.legal (b : Bundle) : Bool := b.mac != .illegal && b.mem != .illegal && b.aux != .illegal

def bit (b : Bool) : Nat := if b then 1 else 0

def encQuadMul (opc : Nat) (f : QuadMul) : Nat :=
  opc * 2 ^ 19 + f.q.val * 2 ^ 17 + f.d.val * 2 ^ 12 + f.k.val * 2 ^ 9 + bit f.acc * 2 ^ 8 + bit f.neg * 2 ^ 7 + bit f.cf * 2 ^ 6 + f.kinc.val * 2 ^ 4

def encData3 (opc fn : Nat) (f : Data3) : Nat :=
  opc * 2 ^ 19 + f.d.val * 2 ^ 14 + f.a.val * 2 ^ 9 + f.b.val * 2 ^ 4 + bit f.sat * 2 ^ 3 + fn

def encLogic3 (opc fn : Nat) (f : Logic3) : Nat :=
  opc * 2 ^ 19 + f.d.val * 2 ^ 14 + f.a.val * 2 ^ 9 + f.b.val * 2 ^ 4 + fn

def encAop (fn a b : Nat) : Nat := 0x09 * 2 ^ 19 + a * 2 ^ 15 + b * 2 ^ 11 + fn * 2 ^ 8

def encState (dir : Nat) (f : StateAccess) : Nat := 2 ^ 19 + dir * 2 ^ 18 + f.d.val * 2 ^ 14 + f.addr.toNat

def encShared (opc : Nat) (f : SharedAccess) : Nat := opc * 2 ^ 15 + f.d.val * 2 ^ 10 + f.g.val * 2 ^ 6 + f.off.toNat

def encGadd (tgt : Nat) (f : GenAdd) : Nat := 0x1 * 2 ^ 12 + f.g.val * 2 ^ 8 + tgt * 2 ^ 7 + f.imm.toNat

def encGmov (fn : Nat) (f : GenMove) : Nat := 0x2 * 2 ^ 12 + f.g.val * 2 ^ 8 + f.d.val * 2 ^ 3 + fn * 2

def encKmov (dir : Nat) (f : PtrMove) : Nat := 0x4 * 2 ^ 12 + f.k.val * 2 ^ 9 + f.d.val * 2 ^ 4 + dir * 2 ^ 3

def encPlog (fn t a b : Nat) : Nat := 0x9 * 2 ^ 12 + t * 2 ^ 9 + a * 2 ^ 6 + b * 2 ^ 3 + fn

/-- The slot of an operation and the bits it has there, from the same tables as the readers above. For an immediate the
bits are bundle bits 61:18 (R115). -/
def encodeSlot : CoreOp → Slot × Nat
  | .mac4 f => (.mac, encQuadMul 0x01 f)
  | .mac2c f => (.mac, encQuadMul 0x02 f)
  | .mac2d f => (.mac, encQuadMul 0x03 f)
  | .mac1 f => (.mac, 0x04 * 2 ^ 19 + f.a.val * 2 ^ 15 + f.d.val * 2 ^ 10 + f.k.val * 2 ^ 7 + bit f.acc * 2 ^ 6 + bit f.neg * 2 ^ 5 + bit f.cf * 2 ^ 4 + f.kinc.val * 2 ^ 2)
  | .muld f => (.mac, 0x05 * 2 ^ 19 + f.a.val * 2 ^ 15 + f.d.val * 2 ^ 10 + f.s.val * 2 ^ 5 + bit f.acc * 2 ^ 4 + bit f.neg * 2 ^ 3)
  | .aconv f => (.mac, 0x08 * 2 ^ 19 + f.a.val * 2 ^ 15 + f.d.val * 2 ^ 10 + f.rm.val * 2 ^ 8 + bit f.sat * 2 ^ 7 + f.sh.val * 2 ^ 4)
  | .aopMov f => (.mac, encAop 0 f.a.val f.b.val)
  | .aopAdd f => (.mac, encAop 1 f.a.val f.b.val)
  | .aopSub f => (.mac, encAop 2 f.a.val f.b.val)
  | .aopNeg f => (.mac, encAop 3 f.a.val f.b.val)
  | .aopAbs f => (.mac, encAop 4 f.a.val f.b.val)
  | .aopClr a => (.mac, encAop 5 a.val 0)
  | .aopClrq a => (.mac, encAop 6 a.val 0)
  | .ash f => (.mac, 0x0A * 2 ^ 19 + f.a.val * 2 ^ 15 + f.b.val * 2 ^ 11 + f.n.toNat * 2 ^ 5)
  | .ald f => (.mac, 0x0B * 2 ^ 19 + f.a.val * 2 ^ 15 + f.d.val * 2 ^ 10 + bit f.acc * 2 ^ 9 + bit f.neg * 2 ^ 8)
  | .add f => (.mac, encData3 0x10 0 f)
  | .sub f => (.mac, encData3 0x11 0 f)
  | .logAnd f => (.mac, encLogic3 0x12 0 f)
  | .logOr f => (.mac, encLogic3 0x12 1 f)
  | .logXor f => (.mac, encLogic3 0x12 2 f)
  | .logAndn f => (.mac, encLogic3 0x12 3 f)
  | .logNot f => (.mac, 0x12 * 2 ^ 19 + f.d.val * 2 ^ 14 + f.a.val * 2 ^ 9 + 4)
  | .shvArithmetic f => (.mac, encData3 0x13 0 f)
  | .shvLogical f => (.mac, encLogic3 0x13 1 f)
  | .shi f => (.mac, 0x14 * 2 ^ 19 + f.d.val * 2 ^ 14 + f.a.val * 2 ^ 9 + f.n.toNat * 2 ^ 3 + bit f.sat * 2 ^ 2 + bit f.logical * 2)
  | .mmxMin f => (.mac, encLogic3 0x15 0 f)
  | .mmxMax f => (.mac, encLogic3 0x15 1 f)
  | .mmxAbs f => (.mac, 0x15 * 2 ^ 19 + f.d.val * 2 ^ 14 + f.a.val * 2 ^ 9 + bit f.sat * 2 ^ 3 + 2)
  | .mmxNeg f => (.mac, 0x15 * 2 ^ 19 + f.d.val * 2 ^ 14 + f.a.val * 2 ^ 9 + bit f.sat * 2 ^ 3 + 3)
  | .sel f => (.mac, 0x16 * 2 ^ 19 + f.d.val * 2 ^ 14 + f.a.val * 2 ^ 9 + f.b.val * 2 ^ 4 + f.p.val * 2 + bit f.inv)
  | .cmp f => (.mac, 0x17 * 2 ^ 19 + f.t.val * 2 ^ 16 + f.a.val * 2 ^ 11 + f.b.val * 2 ^ 6 + condCode f.cond * 2 ^ 3 + bit f.uns * 2 ^ 2)
  | .clip f => (.mac, encData3 0x18 0 f)
  | .immD f => (.mac, f.d.val * 2 ^ 36 + f.imm.toNat * 2 ^ 4)
  | .immK f => (.mac, 2 ^ 41 + f.k.val * 2 ^ 36 + f.imm.toNat * 2 ^ 4)
  | .lds f => (.mem, encState 0 f)
  | .sts f => (.mem, encState 1 f)
  | .ldc f => (.mem, 0x1 * 2 ^ 15 + f.d.val * 2 ^ 10 + f.k.val * 2 ^ 7 + f.kinc.val * 2 ^ 5)
  | .ldg f => (.mem, encShared 0x2 f)
  | .stg f => (.mem, encShared 0x3 f)
  | .dtap f => (.mem, 0x4 * 2 ^ 15 + f.d.val * 2 ^ 10 + f.g.val * 2 ^ 6 + f.dly.val * 2)
  | .ldq f => (.mem, 0x5 * 2 ^ 15 + f.qd.val * 2 ^ 12 + f.g.val * 2 ^ 8 + f.off.toNat * 2 ^ 2)
  | .dtapi f => (.mem, 0x6 * 2 ^ 15 + f.a.val * 2 ^ 11 + f.g.val * 2 ^ 7 + f.dly.val * 2 ^ 2 + bit f.acc * 2 + bit f.neg)
  | .gaddIndex f => (.aux, encGadd 0 f)
  | .gaddLine f => (.aux, encGadd 1 f)
  | .gmovIndexSet f => (.aux, encGmov 0 f)
  | .gmovIndexGet f => (.aux, encGmov 1 f)
  | .gmovLineSet f => (.aux, encGmov 2 f)
  | .gmovLineGet f => (.aux, encGmov 3 f)
  | .kadd f => (.aux, 0x3 * 2 ^ 12 + f.k.val * 2 ^ 9 + f.imm.toNat)
  | .kmovToK f => (.aux, encKmov 0 f)
  | .kmovToD f => (.aux, encKmov 1 f)
  | .mov f => (.aux, 0x5 * 2 ^ 12 + f.d.val * 2 ^ 7 + f.s.val * 2 ^ 2)
  | .movi f => (.aux, 0x6 * 2 ^ 12 + f.d.val * 2 ^ 7 + f.imm.toNat)
  | .cmov f => (.aux, 0x7 * 2 ^ 12 + f.d.val * 2 ^ 7 + f.s.val * 2 ^ 2 + f.ps.val)
  | .pcmpz f => (.aux, 0x8 * 2 ^ 12 + f.t.val * 2 ^ 9 + f.a.val * 2 ^ 4 + condCode f.cond * 2)
  | .plogAnd f => (.aux, encPlog 0 f.t.val f.a.val f.b.val)
  | .plogOr f => (.aux, encPlog 1 f.t.val f.a.val f.b.val)
  | .plogXor f => (.aux, encPlog 2 f.t.val f.a.val f.b.val)
  | .plogAndn f => (.aux, encPlog 3 f.t.val f.a.val f.b.val)
  | .plogNot f => (.aux, encPlog 4 f.t.val f.a.val 0)
  | .plogSet t => (.aux, encPlog 5 t.val 0 0)
  | .plogClr t => (.aux, encPlog 6 t.val 0 0)
  | .pacc f => (.aux, 0xA * 2 ^ 12 + f.t.val * 2 ^ 9 + f.a.val * 2 ^ 5 + accCondCode f.cond * 2 ^ 2)

/-- True of an immediate (its bundle has FORMAT 0b01). -/
def isImmediate : CoreOp → Bool
  | .immD _ => true
  | .immK _ => true
  | _ => false

/-- A bundle of 64 bits that holds the one operation and no other (R112, R113). -/
def encodeBundle (guard : Fin 4) (o : CoreOp) : Nat :=
  let (sl, w) := encodeSlot o
  match sl with
  | .mac => if isImmediate o then 2 ^ 62 + w * 2 ^ 18 + guard.val else w * 2 ^ 38 + guard.val
  | .mem => w * 2 ^ 18 + guard.val
  | .aux => w * 2 ^ 2 + guard.val

/-- The operations an encoding can hold: MAC2C and MAC2D on an even register, a logical SHI without SAT (R128, R130, R145). -/
def encodable : CoreOp → Bool
  | .mac2c f => f.d.val % 2 == 0
  | .mac2d f => f.d.val % 2 == 0
  | .shi f => !(f.logical && f.sat)
  | _ => true

end Sys2Proof.Machine
end

