-- ==== Sys2Proof/Machine/Operands.lean ====
section
/-!
DEFINITION. What the operands of a core's operation read, and how its results become visible (02 R47; 03 R120 to R125;
04 R160 to R164), over the sample under way.
-/

namespace Sys2Proof.Machine

open Sys2Proof

/-! ## Results and reads by visibility index -/

/-- The result for register `r` with the highest visibility index not above `j`, with that index (03 R120, R124). -/
def latest? {α : Type} (r j : Nat) : List (Res α) → Option (Nat × α)
  | [] => none
  | x :: t =>
    let rest := latest? r j t
    if x.reg = r ∧ x.vis ≤ j then
      match rest with
      | some (v, y) => if x.vis ≤ v then some (v, y) else some (x.vis, x.val)
      | none => some (x.vis, x.val)
    else rest

/-- What a read of register `r` by bundle `j` returns; `start` is its value at the start of the sample. -/
def readAt {α : Type} (l : List (Res α)) (r j : Nat) (start : α) : α :=
  match latest? r j l with
  | some (_, v) => v
  | none => start

/-- A result issued with latency `lam` by the bundle under way; it is discarded when due at or after the end (03 R120, R125). -/
def addRes {α : Type} (x : Sample) (l : List (Res α)) (r lam : Nat) (v : α) : List (Res α) :=
  if x.pos + lam < x.len then l ++ [{ reg := r, vis := x.pos + lam, val := v }] else l

/-- Put an accumulator result in the order of visibility, behind those of the same index. -/
def insertAcc (e : AccRes) : List AccRes → List AccRes
  | [] => [e]
  | x :: t => if e.vis < x.vis then e :: x :: t else x :: insertAcc e t

/-- One result applied to an accumulator: its new value and whether it saturated (03 R122, R133). -/
def accStep (v : Acc) (e : AccRes) : Acc × Bool :=
  if e.accum then satAcc (v.toInt + e.p.toInt) else (e.p, false)

/-- Accumulator `a` as a read by bundle `j` returns it: its results visible by then, in order (03 R120, R122). -/
def accFold (a j : Nat) : Acc → List AccRes → Acc
  | v, [] => v
  | v, e :: t => if e.reg = a ∧ e.vis ≤ j then accFold a j (accStep v e).1 t else accFold a j v t

/-- Whether a result for accumulator `a` that becomes visible after index `lo` and not after `hi` saturates. -/
def accSatBetween (a lo hi : Nat) : Acc → List AccRes → Bool
  | _, [] => false
  | v, e :: t =>
    if e.reg = a ∧ e.vis ≤ hi then
      ((accStep v e).2 && decide (lo < e.vis)) || accSatBetween a lo hi (accStep v e).1 t
    else accSatBetween a lo hi v t

/-- A D register as read by the bundle under way (02 R47: 0 at the start of the sample). -/
def dAt (x : Sample) (r : Fin 32) : Word := readAt x.d r.val x.pos 0

/-- A predicate; P0 reads 1 (02 R47). -/
def pAt (x : Sample) (r : Fin 8) : Bool := if r = 0 then true else readAt x.p r.val x.pos false

/-- An accumulator at issue (03 R122). -/
def aAt (x : Sample) (r : Fin 16) : Acc := accFold r.val x.pos 0 x.a

/-- Write a D register with latency `lam`. -/
def putD (x : Sample) (r : Fin 32) (lam : Nat) (v : Word) : Sample := { x with d := addRes x x.d r.val lam v }

/-- Write a predicate with latency `lam`; a write of P0 is ignored (02 R47). -/
def putP (x : Sample) (r : Fin 8) (lam : Nat) (v : Bool) : Sample :=
  if r = 0 then x else { x with p := addRes x x.p r.val lam v }

/-- Give accumulator `r` a result due `lam` bundles on (03 R121, R122, R125). -/
def putA (x : Sample) (r : Fin 16) (lam : Nat) (accum : Bool) (v : Acc) : Sample :=
  if x.pos + lam < x.len then { x with a := insertAcc { reg := r.val, vis := x.pos + lam, accum := accum, p := v } x.a } else x

/-! ## Pointer set: coefficient pointers and generators -/

/-- The pointer set of the program that runs. -/
def ptrOf (core : Core) (x : Sample) : PtrSet := core.prog[x.page].ptr

def genOf (core : Core) (x : Sample) (g : Fin 16) : GenDesc := (ptrOf core x).gens.getD g.val {}

/-- A coefficient pointer as read by the bundle under way. -/
def kAt (core : Core) (x : Sample) (k : Fin 8) : Half := readAt x.k k.val x.pos ((ptrOf core x).kinit.getD k.val 0)

/-- Write a coefficient pointer with latency 1 (03 R121). -/
def putK (x : Sample) (k : Fin 8) (v : Half) : Sample := { x with k := addRes x x.k k.val 1 v }

/-- Steps of KINC (03 R130). -/
def kincStep : Fin 4 → Nat
  | 0 => 0
  | 1 => 1
  | 2 => 2
  | 3 => 4

/-- The pointer advance of a multiply or LDC; KINC 0b00 writes nothing (03 R126, R135). -/
def advanceK (core : Core) (x : Sample) (k : Fin 8) (kinc : Fin 4) : Sample :=
  if kinc = 0 then x else putK x k (kAt core x k + BitVec.ofNat 16 (kincStep kinc))

/-- The coefficient word at pointer `k` plus `j`, modulo 65,536, in the page the program uses (03 R135, 06 R272). -/
def coefAt (core : Core) (x : Sample) (k : Fin 8) (j : Nat) : Word :=
  memWord core.coef[x.cpage] ((kAt core x k + BitVec.ofNat 16 j).toNat)

/-- Index of a generator at the start of sample `n` (04 R163). -/
def genStart (g : GenDesc) (n : Nat) : Nat := if g.kind = 1 ∨ g.len = 0 then 0 else (g.origin + g.step * n) % g.len

def giAt (core : Core) (x : Sample) (g : Fin 16) : Nat := readAt x.gi g.val x.pos (genStart (genOf core x g) x.n)
def glAt (x : Sample) (g : Fin 16) : Nat := readAt x.gl g.val x.pos 0

def putGi (x : Sample) (g : Fin 16) (v : Nat) : Sample := { x with gi := addRes x x.gi g.val 1 v }
def putGl (x : Sample) (g : Fin 16) (v : Nat) : Sample := { x with gl := addRes x x.gl g.val 1 v }

/-- The modulus of a generator's index: its length, or 2^20 for a channel array (04 R165). -/
def indexMod (g : GenDesc) : Nat := if g.kind = 1 then 2 ^ 20 else g.len

/-- A table of channel descriptors by the direction of the access: loads reach ingress, stores egress (09 R385). -/
def State.chan (s : State) (store : Bool) (ch : Nat) : ChanDesc := tabGet (if store then s.egress else s.ingress) ch {}

/-- Length of the current line of a generator (04 R161, R162; log entry 8). -/
def lineLen (s : State) (g : GenDesc) (store : Bool) (line : Nat) : Nat :=
  if g.kind = 1 then (s.chan store (g.ch + line)).len else g.len

/-- Bank and word offset that delay `k` addresses through a generator (04 R161, R162, R164; 09 R383, R385). -/
def genWord (s : State) (g : GenDesc) (store : Bool) (n idx line : Nat) (k : Nat) : BankId × Nat :=
  if g.kind = 1 then
    let ch := s.chan store (g.ch + line)
    (ch.bank, ch.base + (((n : Int) - k + idx) % (ch.len : Int)).toNat)
  else
    (Fin.ofNat 16 (g.bank0 + line % g.nbank), g.base + line / g.nbank * g.len + (((idx : Int) - k) % (g.len : Int)).toNat)

/-! ## Bundles of the program that runs -/

/-- Bundle `j` of a program page. -/
def pageBundle (pg : ProgPage) (j : Nat) : Bundle :=
  readBundle ((memWord pg.mem (2 * j)).toNat + 2 ^ 32 * (memWord pg.mem (2 * j + 1)).toNat)

/-- A bundle without an operation. -/
def Bundle.empty (b : Bundle) : Bool := b.mac == .nop && b.mem == .nop && b.aux == .nop

/-- Every slot of the bundle that holds an operation is in `done`. -/
def Bundle.finished (b : Bundle) (done : List Slot) : Bool :=
  (b.mac == .nop || done.contains .mac) && (b.mem == .nop || done.contains .mem) && (b.aux == .nop || done.contains .aux)

/-- Bundles `i` to `i + n - 1` of a page hold no operation. -/
def allEmpty (pg : ProgPage) (i n : Nat) : Bool := (List.range n).all fun t => (pageBundle pg (i + t)).empty

/-- The part under way has issued every operation of its bundles below `len` (02 R50). -/
def partDone (core : Core) (x : Sample) : Bool :=
  x.len ≤ x.pos || ((pageBundle core.prog[x.page] x.pos).finished x.done && allEmpty core.prog[x.page] (x.pos + 1) (x.len - x.pos - 1))

/-- Some accumulator result that becomes visible after bundle `lo` and not after `hi` saturates. -/
def anyAccSat (x : Sample) (lo hi : Nat) : Bool := (List.range 16).any fun a => accSatBetween a lo hi 0 x.a

/-- Bundle `j` issues: results due by then become visible (03 R123), which shows the saturations of the accumulating ones. -/
def moveTo (x : Sample) (j : Nat) : Sample :=
  if x.pos < j then { x with pos := j, done := [], accSat := x.accSat || anyAccSat x x.pos j } else x

/-- Seam of a crossfade: the second program starts with fresh registers and its own pointer set; results and reads of the
first are discarded (06 R271). -/
def seam (x : Sample) : Sample :=
  match x.second with
  | none => x
  | some p =>
    let x := moveTo x (x.len - 1)
    { x with page := p.page, cpage := p.cpage, off := x.off + x.len + 32, len := p.len, second := none, pos := 0, done := [],
             d := [], a := [], p := [], k := [], gi := [], gl := [], reads := [] }

/-- Slot `sl` of bundle `j` may issue now: the bundles before it are finished, it holds what is asked, the guard field
is the one given, no shared read due by then is missing, and nothing waits at the crossbar (02 R50; 04 R176, R177). -/
def mayIssue (core : Core) (x : Sample) (j : Nat) (guard : Fin 4) (sl : Slot) (want : SlotRead) : Bool :=
  let pg := core.prog[x.page]
  let b := pageBundle pg j
  !x.dead && core.waiting.isNone && decide (j < x.len) && b.slot sl == want && b.guard == guard
    && (if j = x.pos then !x.done.contains sl
        else decide (x.pos < j) && (pageBundle pg x.pos).finished x.done && allEmpty pg (x.pos + 1) (j - x.pos - 1))
    && x.reads.all fun r => decide (j < r.due)

/-- The sample after slot `sl` of bundle `i.bundle` issues, or nothing when it cannot issue now. The index counts through a
crossfade's seam (06 R271). -/
def issue? (core : Core) (i : Issue) (sl : Slot) (want : SlotRead) : Option Sample :=
  match core.run with
  | none => none
  | some x =>
    let x := if x.second.isSome && decide (x.off + x.len + 32 ≤ i.bundle) && partDone core x then seam x else x
    let j := i.bundle - x.off
    if decide (x.off ≤ i.bundle) && mayIssue core x j i.guard sl want then
      let y := moveTo x j
      some { y with done := sl :: y.done }
    else none

/-- The guard of an issued bundle reads 1 (03 R116). -/
def enabled (x : Sample) (guard : Fin 4) : Bool := pAt x (guard.castLE (by decide))

end Sys2Proof.Machine
end

