-- ==== Sys2Proof/Machine/Flags.lean ====
section
/-!
DEFINITION. The sticky saturation flags of a core (02 R85, R87; 03 R156), and what a failed check does (18 R736 to R741).
-/

namespace Sys2Proof.Machine

open Sys2Proof

/-- Put a core's sample back and show what saturated in SC_SAT (02 R85, R87). -/
def State.putSample (s : State) (c : CoreId) (x : Sample) : State :=
  let s := if x.outSat then s.putFlag SC_SAT_OUT_SAT c.val true else s
  let s := if x.accSat then s.putFlag SC_SAT_ACC_SAT c.val true else s
  s.setCore c { s.core c with run := some { x with outSat := false, accSat := false, sat := x.sat || x.outSat || x.accSat } }

/-- A result of 32 bits for a D register, with its saturation flag; neither counts when it is discarded (03 R156). -/
def putSat (x : Sample) (r : Fin 32) (lam : Nat) (v : Word × Bool) : Sample :=
  let y := putD x r lam v.1
  if v.2 && decide (x.pos + lam < x.len) then { y with outSat := true } else y

/-- An accumulator result read and saturated at issue (AOP, ASH; 03 R139, R140). -/
def putAccSat (x : Sample) (r : Fin 16) (lam : Nat) (v : Acc × Bool) : Sample :=
  let y := putA x r lam false v.1
  if v.2 && decide (x.pos + lam < x.len) then { y with accSat := true } else y

/-- The group a core acts for: the one whose ACTIVE mask has it, else its loaded group (02 R101, R111; 05 R196). -/
def State.groupOf (s : State) (c : CoreId) : GroupId :=
  ((List.finRange 4).find? fun g => s.maskBit SE_RG_STATUS_ACTIVE c.val g.val).getD (Fin.ofNat 4 (s.reg SC_CFG_GROUP c.val))

/-- A core is a member of some group now. -/
def State.isActive (s : State) (c : CoreId) : Bool := (List.finRange 4).any fun g => s.maskBit SE_RG_STATUS_ACTIVE c.val g.val

/-- The spare of a member core, as long as it is one (02 R96, R97, R105). -/
def State.spareOf (s : State) (c : CoreId) : Option CoreId :=
  if s.isActive c then
    (List.finRange 16).find? fun t =>
      s.reg SC_CFG_ROLE t.val == 2 && s.reg SC_CFG_PRIMARY t.val == c.val && !s.isActive t && !s.maskBit SE_QUAR t.val
  else none

/-- CAUSE code of a failed check (18 R756). -/
def causeCode : CheckFail → Nat
  | .multiplier => 0x1
  | .dataUnit => 0x2
  | .accParity => 0x3
  | .fileParity => 0x4
  | .memory .prog _ _ => 0x5
  | .memory .coef _ _ => 0x6
  | .memory .state _ _ => 0x7
  | .crossbar => 0x8
  | .safePath => 0x9

/-- MEM code of a local memory (18 R756). -/
def coreMemCode : CoreMem → Nat
  | .prog => 0
  | .coef => 1
  | .state => 2

/-- FLT_CORE_LADDR takes the word of a lasting or uncorrectable local error (18 R738, R739). -/
def State.captureLocal (s : State) (c : CoreId) (m : CoreMem) (word : Half) (half : Bool) : State :=
  ((s.put FLT_CORE_LADDR_WORD c.val word.toNat).put FLT_CORE_LADDR_MEM c.val (coreMemCode m)).putFlag FLT_CORE_LADDR_HALF c.val
    (half && m == .prog)

/-- An uncorrectable local word is counted and captured; a state word is written with 0, in the spare too (18 R739). -/
def State.localUncorrectable (s : State) (c : CoreId) (m : CoreMem) (word : Half) (half : Bool) : State :=
  let s := (s.count FLT_CORE_LUE_CNT c.val).captureLocal c m word half
  match m with
  | .state =>
    let zero (s : State) (c : CoreId) : State := s.setCore c { s.core c with state := memSetWord (s.core c).state word.toNat 0 }
    match s.spareOf c with
    | some t => zero (zero s c) t
    | none => zero s c
  | _ => s

/-- Whether the retry after a first fault is omitted (18 R741). -/
def State.retryOmitted (s : State) (f : CheckFail) (faults : Nat) : Bool :=
  !s.flag FLT_CFG_CORE_RETRY
    || (match f with
        | .memory .prog _ _ => true
        | .memory .coef _ _ => true
        | _ => false)
    || (s.reg FLT_CFG_CORE_LIM != 0 && decide (s.reg FLT_CFG_CORE_LIM ≤ faults))

/-- A core fault in the sample under way, in the cycle of bundle `bundle`: the core issues nothing more, EVc is raised and
the fault registers are written; a first fault opens the RETRYING interval (18 R737, R740, R741, R747). -/
def State.coreFault (s : State) (c : CoreId) (f : CheckFail) (bundle : Nat) : State :=
  match (s.core c).run with
  | none => s
  | some x =>
    let s := match f with
      | .memory m w h => s.localUncorrectable c m w h
      | _ => s
    let s := (s.put FLT_CORE_STATUS_CAUSE c.val (causeCode f)).put FLT_CORE_STATUS_BUNDLE c.val bundle
    let s := s.put64 FLT_CORE_IDX_LO FLT_CORE_IDX_HI c.val x.n
    let s := s.setCore c { s.core c with run := some { x with dead := true }, takeover := none, xbarFail := false }
    let s :=
      if s.reg FLT_CORE_STATUS_PHASE c.val = 1 then s
      else
        let faults := ((s.core c).firstFaults.filter fun m => decide (x.n < m + 65536)) ++ [x.n]
        let s := s.setCore c { s.core c with firstFaults := faults, omitRetry := s.retryOmitted f faults.length }
        ((s.put FLT_CORE_STATUS_PHASE c.val 1).put FLT_CORE_LADDR_WINCNT c.val (min 255 faults.length)).putMaskBit
          FLT_STATUS_RETRYING c.val true
    s.raise c.val

/-- Issue an operation: nothing happens when it cannot issue now; a failed check, or a write of the core that failed its crossbar
retry (18 R748), ends the sample's issuing and its memory
access; a bundle whose guard reads 0 changes nothing (03 R116, R117; 18 R737). `f` acts on the sample, `g` on the rest. -/
def issueOp (i : Issue) (sl : Slot) (want : SlotRead) (act : Core → Sample → State → State) (s : State) : State :=
  match issue? (s.core i.core) i sl want with
  | none => s
  | some x =>
    match (if (s.core i.core).xbarFail then some .crossbar else i.fail) with
    | some f => (s.putSample i.core x).coreFault i.core f (i.bundle - x.off)
    | none => if enabled x i.guard then act (s.core i.core) x s else s.putSample i.core x

/-- Issue an operation that acts on the registers of its sample alone. -/
def issueReg (i : Issue) (o : CoreOp) (f : Core → Sample → Sample) (s : State) : State :=
  issueOp i (encodeSlot o).1 (.op o) (fun core x s => s.putSample i.core (f core x)) s

end Sys2Proof.Machine
end

