-- ==== Sys2Proof/Machine/CoreMac.lean ====
section
/-!
DEFINITION. Multiplies and accumulator operations of the MAC slot (02 R81 to R87; 03 R129 to R141).
-/

namespace Sys2Proof.Machine

open Sys2Proof

/-- The outcome of a command that always goes on. -/
abbrev Out := Host.Outcome State Fault Refusal

/-- A product as the result of a multiply: latency 3, combined or not by ACC, negated by NEG (03 R121, R133). -/
def putProduct (x : Sample) (a : Fin 16) (acc neg : Bool) (p : Int) : Sample :=
  putA x a 3 acc (BitVec.ofInt 80 (signed neg p))

/-- Accumulator `i` of a quad (02 R47). -/
def quadAcc (q : Fin 4) (i : Nat) : Fin 16 := Fin.ofNat 16 (4 * q.val + i)

/-- The register after an even one (03 R130). -/
def oddOf (d : Fin 32) : Fin 32 := Fin.ofNat 32 (d.val + 1)

/-- MAC4: one register by four coefficient words into a quad (02 R81; 03 R133, R135). -/
def mac4 (f : QuadMul) (core : Core) (x : Sample) : Sample :=
  let p (i : Nat) : Int := product f.cf (dAt x f.d) (coefAt core x f.k i)
  let y := [0, 1, 2, 3].foldl (fun y i => putProduct y (quadAcc f.q i) f.acc f.neg (p i)) x
  advanceK core y f.k f.kinc

/-- MAC2C: a complex product into two accumulators (02 R81; 03 R134). -/
def mac2c (f : QuadMul) (core : Core) (x : Sample) : Sample :=
  let dr := dAt x f.d
  let di := dAt x (oddOf f.d)
  let cr := coefAt core x f.k 0
  let ci := coefAt core x f.k 1
  let y := putProduct x (quadAcc f.q 0) f.acc f.neg (product f.cf dr cr - product f.cf di ci)
  let y := putProduct y (quadAcc f.q 1) f.acc f.neg (product f.cf dr ci + product f.cf di cr)
  advanceK core y f.k f.kinc

/-- MAC2D: two independent products (02 R81; 03 R134). -/
def mac2d (f : QuadMul) (core : Core) (x : Sample) : Sample :=
  let y := putProduct x (quadAcc f.q 0) f.acc f.neg (product f.cf (dAt x f.d) (coefAt core x f.k 0))
  let y := putProduct y (quadAcc f.q 1) f.acc f.neg (product f.cf (dAt x (oddOf f.d)) (coefAt core x f.k 1))
  advanceK core y f.k f.kinc

/-- MAC1 (02 R81; 03 R131, R133). -/
def mac1 (f : SingleMul) (core : Core) (x : Sample) : Sample :=
  advanceK core (putProduct x f.a f.acc f.neg (product f.cf (dAt x f.d) (coefAt core x f.k 0))) f.k f.kinc

/-- MULD: two data registers, aligned as Q1.31 by Q1.31 (03 R136). -/
def muld (f : DataMul) (_ : Core) (x : Sample) : Sample :=
  putProduct x f.a f.acc f.neg (product false (dAt x f.d) (dAt x f.s))

/-- The conversion of ACONV (03 R138). -/
def convert (f : Convert) (a : Acc) : Word × Bool := narrow f.sat (roundTo32 f.rm (a.toInt * 2 ^ f.sh.val))

def aconv (f : Convert) (_ : Core) (x : Sample) : Sample := putSat x f.d 2 (convert f (aAt x f.a))

/-- AOP with one result: it reads its accumulators at issue and saturates (03 R139). -/
def aop (a : Fin 16) (v : Int) (x : Sample) : Sample := putAccSat x a 3 (satAcc v)

/-- ASH (03 R140). -/
def ash (f : AccShift) (_ : Core) (x : Sample) : Sample := putAccSat x f.a 3 (satAcc (shiftInt (aAt x f.b).toInt f.n.toInt))

/-- ALD: Dd times 2^32 under ACC and NEG (03 R141). -/
def ald (f : AccLoad) (_ : Core) (x : Sample) : Sample :=
  putA x f.a 3 f.acc (BitVec.ofInt 80 (signed f.neg ((dAt x f.d).toInt * 2 ^ 32)))

/-- MAC4 (02 R81). -/
def execMac4 (i : Issue) (f : QuadMul) (s : State) : Out := .next (issueReg i (.mac4 f) (mac4 f) s)

/-- MAC2C (03 R134). -/
def execMac2c (i : Issue) (f : QuadMul) (s : State) : Out := .next (issueReg i (.mac2c f) (mac2c f) s)

/-- MAC2D (03 R134). -/
def execMac2d (i : Issue) (f : QuadMul) (s : State) : Out := .next (issueReg i (.mac2d f) (mac2d f) s)

/-- MAC1 (03 R131). -/
def execMac1 (i : Issue) (f : SingleMul) (s : State) : Out := .next (issueReg i (.mac1 f) (mac1 f) s)

/-- MULD (03 R136). -/
def execMuld (i : Issue) (f : DataMul) (s : State) : Out := .next (issueReg i (.muld f) (muld f) s)

/-- ACONV (03 R138). -/
def execAconv (i : Issue) (f : Convert) (s : State) : Out := .next (issueReg i (.aconv f) (aconv f) s)

/-- AOP MOV (03 R139). -/
def execAopMov (i : Issue) (f : AccPair) (s : State) : Out :=
  .next (issueReg i (.aopMov f) (fun _ x => aop f.a (aAt x f.b).toInt x) s)

/-- AOP ADD (03 R139). -/
def execAopAdd (i : Issue) (f : AccPair) (s : State) : Out :=
  .next (issueReg i (.aopAdd f) (fun _ x => aop f.a ((aAt x f.a).toInt + (aAt x f.b).toInt) x) s)

/-- AOP SUB (03 R139). -/
def execAopSub (i : Issue) (f : AccPair) (s : State) : Out :=
  .next (issueReg i (.aopSub f) (fun _ x => aop f.a ((aAt x f.a).toInt - (aAt x f.b).toInt) x) s)

/-- AOP NEG (03 R139). -/
def execAopNeg (i : Issue) (f : AccPair) (s : State) : Out :=
  .next (issueReg i (.aopNeg f) (fun _ x => aop f.a (-(aAt x f.b).toInt) x) s)

/-- AOP ABS (03 R139). -/
def execAopAbs (i : Issue) (f : AccPair) (s : State) : Out :=
  .next (issueReg i (.aopAbs f) (fun _ x => aop f.a (aAt x f.b).toInt.natAbs x) s)

/-- AOP CLR (03 R139). -/
def execAopClr (i : Issue) (a : Fin 16) (s : State) : Out := .next (issueReg i (.aopClr a) (fun _ x => aop a 0 x) s)

/-- AOP CLRQ: every accumulator of the quad that holds Aa (03 R139). -/
def execAopClrq (i : Issue) (a : Fin 16) (s : State) : Out :=
  .next (issueReg i (.aopClrq a) (fun _ x =>
    [0, 1, 2, 3].foldl (fun y j => aop (Fin.ofNat 16 (4 * (a.val / 4) + j)) 0 y) x) s)

/-- ASH (03 R140). -/
def execAsh (i : Issue) (f : AccShift) (s : State) : Out := .next (issueReg i (.ash f) (ash f) s)

/-- ALD (03 R141). -/
def execAld (i : Issue) (f : AccLoad) (s : State) : Out := .next (issueReg i (.ald f) (ald f) s)

end Sys2Proof.Machine
end

