-- ==== Sys2Proof/Machine/CoreData.lean ====
section
/-!
DEFINITION. Data operations of the MAC slot and the immediate bundles (03 R115, R142 to R150).
-/

namespace Sys2Proof.Machine

open Sys2Proof

/-- A shift by `n`: logical, or arithmetic with SAT (03 R146). -/
def shift (logical sat : Bool) (v : Word) (n : Int) : Word × Bool :=
  if logical then (shiftLogical v n, false)
  else if n < 0 then (BitVec.ofInt 32 (shiftInt v.toInt n), false)
  else narrow sat (shiftInt v.toInt n)

/-- The shift amount of SHV: bits 5:0 of Db, signed (03 R145). -/
def shiftAmount (b : Word) : Int := (b.extractLsb' 0 6).toInt

/-- CLIP (03 R148). -/
def clipWord (a b : Word) : Word :=
  let m := clampInt 0 (2 ^ 31 - 1) b.toInt.natAbs
  BitVec.ofInt 32 (clampInt (-m) m a.toInt)

/-- The comparison of CMP (03 R150). -/
def compareWords (f : Compare) (a b : Word) : Bool :=
  if f.uns then condHolds f.cond a.toNat b.toNat else condHolds f.cond a.toInt b.toInt

/-- A bitwise operation: latency 1 (03 R144). -/
def logic3 (f : Logic3) (op : Word → Word → Word) (x : Sample) : Sample := putD x f.d 1 (op (dAt x f.a) (dAt x f.b))

/-- ADD (03 R143). -/
def execAdd (i : Issue) (f : Data3) (s : State) : Out :=
  .next (issueReg i (.add f) (fun _ x => putSat x f.d 1 (narrow f.sat ((dAt x f.a).toInt + (dAt x f.b).toInt))) s)

/-- SUB (03 R143). -/
def execSub (i : Issue) (f : Data3) (s : State) : Out :=
  .next (issueReg i (.sub f) (fun _ x => putSat x f.d 1 (narrow f.sat ((dAt x f.a).toInt - (dAt x f.b).toInt))) s)

/-- LOG AND (03 R144). -/
def execLogAnd (i : Issue) (f : Logic3) (s : State) : Out :=
  .next (issueReg i (.logAnd f) (fun _ x => logic3 f (fun a b => a &&& b) x) s)

/-- LOG OR (03 R144). -/
def execLogOr (i : Issue) (f : Logic3) (s : State) : Out :=
  .next (issueReg i (.logOr f) (fun _ x => logic3 f (fun a b => a ||| b) x) s)

/-- LOG XOR (03 R144). -/
def execLogXor (i : Issue) (f : Logic3) (s : State) : Out :=
  .next (issueReg i (.logXor f) (fun _ x => logic3 f (fun a b => a ^^^ b) x) s)

/-- LOG ANDN (03 R144). -/
def execLogAndn (i : Issue) (f : Logic3) (s : State) : Out :=
  .next (issueReg i (.logAndn f) (fun _ x => logic3 f (fun a b => a &&& ~~~b) x) s)

/-- LOG NOT (03 R144). -/
def execLogNot (i : Issue) (f : Logic2) (s : State) : Out :=
  .next (issueReg i (.logNot f) (fun _ x => putD x f.d 1 (~~~(dAt x f.a))) s)

/-- SHV arithmetic (03 R145, R146). -/
def execShvArithmetic (i : Issue) (f : Data3) (s : State) : Out :=
  .next (issueReg i (.shvArithmetic f) (fun _ x => putSat x f.d 1 (shift false f.sat (dAt x f.a) (shiftAmount (dAt x f.b)))) s)

/-- SHV logical (03 R145, R146). -/
def execShvLogical (i : Issue) (f : Logic3) (s : State) : Out :=
  .next (issueReg i (.shvLogical f) (fun _ x => putD x f.d 1 (shiftLogical (dAt x f.a) (shiftAmount (dAt x f.b)))) s)

/-- SHI (03 R145, R146). -/
def execShi (i : Issue) (f : ShiftImm) (s : State) : Out :=
  .next (issueReg i (.shi f) (fun _ x => putSat x f.d 1 (shift f.logical f.sat (dAt x f.a) f.n.toInt)) s)

/-- MMX MIN (03 R147). -/
def execMmxMin (i : Issue) (f : Logic3) (s : State) : Out :=
  .next (issueReg i (.mmxMin f) (fun _ x => logic3 f (fun a b => if b.toInt < a.toInt then b else a) x) s)

/-- MMX MAX (03 R147). -/
def execMmxMax (i : Issue) (f : Logic3) (s : State) : Out :=
  .next (issueReg i (.mmxMax f) (fun _ x => logic3 f (fun a b => if a.toInt < b.toInt then b else a) x) s)

/-- MMX ABS (03 R147). -/
def execMmxAbs (i : Issue) (f : Data2) (s : State) : Out :=
  .next (issueReg i (.mmxAbs f) (fun _ x => putSat x f.d 1 (narrow f.sat (dAt x f.a).toInt.natAbs)) s)

/-- MMX NEG (03 R147). -/
def execMmxNeg (i : Issue) (f : Data2) (s : State) : Out :=
  .next (issueReg i (.mmxNeg f) (fun _ x => putSat x f.d 1 (narrow f.sat (-(dAt x f.a).toInt))) s)

/-- SEL (03 R149). -/
def execSel (i : Issue) (f : Select) (s : State) : Out :=
  .next (issueReg i (.sel f) (fun _ x => putD x f.d 1 (if xor (pAt x f.p) f.inv then dAt x f.a else dAt x f.b)) s)

/-- CMP: latency 2 (03 R121, R150). -/
def execCmp (i : Issue) (f : Compare) (s : State) : Out :=
  .next (issueReg i (.cmp f) (fun _ x => putP x f.t 2 (compareWords f (dAt x f.a) (dAt x f.b))) s)

/-- CLIP (03 R148). -/
def execClip (i : Issue) (f : Data3) (s : State) : Out :=
  .next (issueReg i (.clip f) (fun _ x => putD x f.d 1 (clipWord (dAt x f.a) (dAt x f.b))) s)

/-- An immediate bundle loads a D register (03 R115). -/
def execImmediateLoadD (i : Issue) (f : ImmD) (s : State) : Out :=
  .next (issueReg i (.immD f) (fun _ x => putD x f.d 1 f.imm) s)

/-- An immediate bundle loads a coefficient pointer (03 R115). -/
def execImmediateLoadK (i : Issue) (f : ImmK) (s : State) : Out :=
  .next (issueReg i (.immK f) (fun _ x => putK x f.k f.imm) s)

end Sys2Proof.Machine
end

