-- ==== Sys2Proof/Machine/CoreAux.lean ====
section
/-!
DEFINITION. AUX-slot operations and the empty slot (03 R114, R151 to R155; 04 R165).
-/

namespace Sys2Proof.Machine

open Sys2Proof

/-- A slot that holds 0 performs no operation; its bundle takes its cycle (03 R114, R117). -/
def execNop (i : Issue) (slot : Slot) (s : State) : Out :=
  .next (issueOp i slot .nop (fun _ x s => s.putSample i.core x) s)

/-- `v + imm` modulo `m`; nothing to reduce by when `m` is 0 (an unused generator, which no accepted program names, 04 R170). -/
def addMod (v : Nat) (imm : Int) (m : Nat) : Nat := ((v + imm) % (m : Int)).toNat

/-- GADD on the index (04 R165). -/
def execGaddIndex (i : Issue) (f : GenAdd) (s : State) : Out :=
  .next (issueReg i (.gaddIndex f) (fun core x =>
    putGi x f.g (addMod (giAt core x f.g) f.imm.toInt (indexMod (genOf core x f.g)))) s)

/-- GADD on the line (04 R165). -/
def execGaddLine (i : Issue) (f : GenAdd) (s : State) : Out :=
  .next (issueReg i (.gaddLine f) (fun core x => putGl x f.g (addMod (glAt x f.g) f.imm.toInt (genOf core x f.g).lines)) s)

/-- GMOV to the index (04 R165). -/
def execGmovIndexSet (i : Issue) (f : GenMove) (s : State) : Out :=
  .next (issueReg i (.gmovIndexSet f) (fun core x => putGi x f.g ((dAt x f.d).toNat % indexMod (genOf core x f.g))) s)

/-- GMOV from the index (04 R165). -/
def execGmovIndexGet (i : Issue) (f : GenMove) (s : State) : Out :=
  .next (issueReg i (.gmovIndexGet f) (fun core x => putD x f.d 1 (BitVec.ofNat 32 (giAt core x f.g))) s)

/-- GMOV to the line (04 R165). -/
def execGmovLineSet (i : Issue) (f : GenMove) (s : State) : Out :=
  .next (issueReg i (.gmovLineSet f) (fun core x => putGl x f.g ((dAt x f.d).toNat % (genOf core x f.g).lines)) s)

/-- GMOV from the line (04 R165). -/
def execGmovLineGet (i : Issue) (f : GenMove) (s : State) : Out :=
  .next (issueReg i (.gmovLineGet f) (fun _ x => putD x f.d 1 (BitVec.ofNat 32 (glAt x f.g))) s)

/-- KADD (03 R152). -/
def execKadd (i : Issue) (f : PtrAdd) (s : State) : Out :=
  .next (issueReg i (.kadd f) (fun core x => putK x f.k (kAt core x f.k + f.imm.signExtend 16)) s)

/-- KMOV to a pointer: bits 15:0 of Dd (03 R151). -/
def execKmovToK (i : Issue) (f : PtrMove) (s : State) : Out :=
  .next (issueReg i (.kmovToK f) (fun _ x => putK x f.k ((dAt x f.d).setWidth 16)) s)

/-- KMOV to a data register, zero-extended (03 R151). -/
def execKmovToD (i : Issue) (f : PtrMove) (s : State) : Out :=
  .next (issueReg i (.kmovToD f) (fun core x => putD x f.d 1 ((kAt core x f.k).setWidth 32)) s)

/-- MOV (03 R153). -/
def execMov (i : Issue) (f : Move) (s : State) : Out := .next (issueReg i (.mov f) (fun _ x => putD x f.d 1 (dAt x f.s)) s)

/-- MOVI (03 R153). -/
def execMovi (i : Issue) (f : MoveImm) (s : State) : Out :=
  .next (issueReg i (.movi f) (fun _ x => putD x f.d 1 (f.imm.signExtend 32)) s)

/-- CMOV: no write when P(4 + PS) reads 0 (03 R153). -/
def execCmov (i : Issue) (f : CondMove) (s : State) : Out :=
  .next (issueReg i (.cmov f) (fun _ x => if pAt x (Fin.ofNat 8 (4 + f.ps.val)) then putD x f.d 1 (dAt x f.s) else x) s)

/-- PCMPZ (03 R154). -/
def execPcmpz (i : Issue) (f : PredCompare) (s : State) : Out :=
  .next (issueReg i (.pcmpz f) (fun _ x => putP x f.t 1 (condHolds f.cond (dAt x f.a).toInt 0)) s)

/-- PLOG AND (03 R154). -/
def execPlogAnd (i : Issue) (f : Pred3) (s : State) : Out :=
  .next (issueReg i (.plogAnd f) (fun _ x => putP x f.t 1 (pAt x f.a && pAt x f.b)) s)

/-- PLOG OR (03 R154). -/
def execPlogOr (i : Issue) (f : Pred3) (s : State) : Out :=
  .next (issueReg i (.plogOr f) (fun _ x => putP x f.t 1 (pAt x f.a || pAt x f.b)) s)

/-- PLOG XOR (03 R154). -/
def execPlogXor (i : Issue) (f : Pred3) (s : State) : Out :=
  .next (issueReg i (.plogXor f) (fun _ x => putP x f.t 1 (xor (pAt x f.a) (pAt x f.b))) s)

/-- PLOG ANDN (03 R154). -/
def execPlogAndn (i : Issue) (f : Pred3) (s : State) : Out :=
  .next (issueReg i (.plogAndn f) (fun _ x => putP x f.t 1 (pAt x f.a && !pAt x f.b)) s)

/-- PLOG NOT (03 R154). -/
def execPlogNot (i : Issue) (f : Pred2) (s : State) : Out :=
  .next (issueReg i (.plogNot f) (fun _ x => putP x f.t 1 (!pAt x f.a)) s)

/-- PLOG SET (03 R154). -/
def execPlogSet (i : Issue) (t : Fin 8) (s : State) : Out := .next (issueReg i (.plogSet t) (fun _ x => putP x t 1 true) s)

/-- PLOG CLR (03 R154). -/
def execPlogClr (i : Issue) (t : Fin 8) (s : State) : Out := .next (issueReg i (.plogClr t) (fun _ x => putP x t 1 false) s)

/-- PACC (03 R155). -/
def execPacc (i : Issue) (f : PredAcc) (s : State) : Out :=
  .next (issueReg i (.pacc f) (fun _ x => putP x f.t 1 (accCondHolds f.cond (aAt x f.a))) s)

end Sys2Proof.Machine
end

