-- ==== Sys2Proof/Machine/SharedMem.lean ====
section
/-!
DEFINITION. Shared memory: ownership and publication, the arbiter of a bank, collisions, error correction, sparing,
handover, sparge and the sleep walker (chapter 05).
-/

namespace Sys2Proof.Machine

open Sys2Proof

/-- Words of a bank (05 R193). -/
def bankWords : Nat := 786432

/-- Owner class a requester acts for (05 R196, R197). -/
def State.classOf (s : State) (who : Nat) : Nat :=
  match toFin? 16 who with
  | some c => 1 + (s.groupOf c).val
  | none => if who = 16 then 0x7 else if who = 17 then 0x5 else if who = 18 then 0x6 else if who = 19 then 0x8 else 0

/-- Bit of an owner class in a publication mask (05 R197). -/
def classBit (cls : Nat) : Nat :=
  if 1 ≤ cls ∧ cls ≤ 4 then cls - 1 else if cls = 5 then 4 else if cls = 6 then 5 else if cls = 7 then 6 else 7

/-- A write of this requester is permitted (05 R198, R203). -/
def State.mayWrite (s : State) (b : BankId) (who : Nat) : Bool :=
  s.classOf who != 0 && s.reg MEM_BANK_STATUS_OWNER_NOW b.val == s.classOf who && !(s.bank b).releasing

/-- A read of this requester is permitted (05 R199). -/
def State.mayRead (s : State) (b : BankId) (who : Nat) : Bool :=
  s.classOf who != 0
    && (s.reg MEM_BANK_STATUS_OWNER_NOW b.val == s.classOf who
        || (s.reg MEM_BANK_CFG_PUB b.val).testBit (classBit (s.classOf who)))

/-- The first event since VALID was cleared is captured (05 R235). -/
def State.capture (s : State) (kind : Nat) (b : BankId) (word who : Nat) : State :=
  if s.flag MEM_CAP1_VALID then s
  else ((((s.put MEM_CAP0_KIND 0 kind).put MEM_CAP0_BANK 0 b.val).put MEM_CAP0_WORD 0 word).put MEM_CAP0_REQ 0 who).putFlag
    MEM_CAP1_VALID 0 true

/-- A write that is not permitted (05 R200). -/
def State.nonOwnerWrite (s : State) (b : BankId) (word who : Nat) : State :=
  ((s.count MEM_BANK_NONOWNER_CNT b.val).capture 1 b word who).raise 40

/-- A read that is not permitted (05 R201). -/
def State.unpublishedRead (s : State) (b : BankId) (word who : Nat) : State :=
  ((s.count MEM_BANK_UNPUB_CNT b.val).capture 2 b word who).raise 41

/-- A permitted write that lost a collision (05 R214). -/
def State.writeLost (s : State) (b : BankId) (word who : Nat) : State :=
  ((s.count MEM_BANK_WLOST_CNT b.val).capture 3 b word who).raise 42

/-- A word of a bank. -/
def State.bankWord (s : State) (b : BankId) (w : Nat) : Word := memWord (s.bank b).mem w

/-- A bank's word takes a value. -/
def State.setBankWord (s : State) (b : BankId) (w : Nat) (v : Word) : State :=
  s.setBank b { s.bank b with mem := memSetWord (s.bank b).mem w v }

/-- Write of a requester other than a core, made within the command that needs it: ownership applies (05 R198, R200), and a write
whose crossbar retry failed is discarded (18 R748). -/
def State.writeAs (s : State) (who : Nat) (b : BankId) (w : Nat) (v : Word) : State :=
  if s.xbarFails.contains (who, b, w, true) then { s with xbarFails := s.xbarFails.erase (who, b, w, true) }
  else if s.mayWrite b who then s.setBankWord b w v
  else s.nonOwnerWrite b w who

/-- A read of the BCE or the probe gave 0 (18 R750). -/
def State.markBad (s : State) (who : Nat) : State := { s with badRead := s.badRead || who == 17 || who == 18 }

/-- Whether the BCE or the probe has read a word that gave 0; the mark is taken away. -/
def State.takeBad (s : State) : Bool × State := (s.badRead, { s with badRead := false })

/-- Read of a requester other than a core's program: publication applies (05 R199, R201), and a read whose crossbar retry failed,
or that found an uncorrectable error, returns 0 (05 R219; 18 R748, R750). -/
def State.readAs (s : State) (who : Nat) (b : BankId) (w : Nat) : Word × State :=
  if s.xbarFails.contains (who, b, w, false) then
    (0, { s with xbarFails := s.xbarFails.erase (who, b, w, false) }.markBad who)
  else if s.memErrs.contains (who, b, w) then (0, { s with memErrs := s.memErrs.erase (who, b, w) }.markBad who)
  else if s.mayRead b who then (s.bankWord b w, s)
  else (0, s.unpublishedRead b w who)

/-- Data for a shared read of a core reach it and wait for its due bundle (04 R176). -/
def State.deliverData (s : State) (who id : Nat) (vals : List Word) : State :=
  match toFin? 16 who with
  | none => s
  | some c =>
    match (s.core c).run with
    | none => s
    | some x =>
      let reads := x.reads.map fun r => if r.id = id then { r with data := vals.map some } else r
      s.setCore c { s.core c with run := some { x with reads := reads } }

/-- A request reaches the arbiter of a bank: what is not permitted is discarded there (05 R200, R201), the rest waits. -/
def State.submit (s : State) (b : BankId) (r : Req) : State :=
  if r.write then
    if s.mayWrite b r.who then s.setBank b { s.bank b with queue := (s.bank b).queue ++ [{ r with at_ := s.cycles }] }
    else s.nonOwnerWrite b (r.words.headD 0) r.who
  else if s.mayRead b r.who then s.setBank b { s.bank b with queue := (s.bank b).queue ++ [{ r with at_ := s.cycles }] }
  else (s.deliverData r.who r.id (r.words.map fun _ => 0)).unpublishedRead b (r.words.headD 0) r.who

/-- Room for a core's request in a bank's queue of 40 (04 R177); the stream mover's own queue is counted apart (09 R401). -/
def Bank.room (x : Bank) : Bool := decide ((x.queue.filter fun r => decide (r.who < 16)).length < 40)

/-- Older request first; among requests of equal age the lower requester number (05 R208). -/
def older (r t : Req) : Bool := decide (r.at_ < t.at_) || (r.at_ == t.at_ && decide (r.who < t.who))

/-- The oldest request of a list. -/
def oldest? : List Req → Option Req
  | [] => none
  | r :: t =>
    match oldest? t with
    | none => some r
    | some u => if older u r then some u else some r

/-- Two requests of one collision group: same cycle of arrival and a common word (05 R213). -/
def collide (r t : Req) : Bool := r.at_ == t.at_ && r.words.any fun w => t.words.contains w

/-- The arbiter's choice among waiting requests (05 R208, R212): a non-core request after 40 cycles, the oldest core
request, the oldest non-core request. The flag tells a start made by the guard of item 2. -/
def chooseReq (now : Nat) (q : List Req) : Option (Req × Bool) :=
  match oldest? (q.filter fun r => decide (16 ≤ r.who) && decide (r.at_ + 40 ≤ now)) with
  | some r => some (r, true)
  | none =>
    match oldest? (q.filter fun r => decide (r.who < 16)) with
    | some r => some (r, false)
    | none => (oldest? q).map fun r => (r, false)

/-- The writes of a collision group are served before its reads (05 R215). -/
def servedFirst (q : List Req) (r : Req) : Req :=
  if r.write then r else (oldest? (q.filter fun t => t.write && collide r t)).getD r

/-- A write lands: the lowest requester of its collision group; the group's other writes are lost (05 R214). -/
def State.serveWrite (s : State) (b : BankId) (r : Req) : State :=
  let q := (s.bank b).queue
  let grp := q.filter fun t => t.write && collide r t
  let win := (oldest? grp).getD r
  let s := s.setBank b { s.bank b with queue := q.filter fun t => !(t.write && collide r t) && t != r }
  let s := s.setBankWord b (win.words.headD 0) win.data
  (grp.filter fun t => t != win).foldl (fun s t => s.writeLost b (t.words.headD 0) t.who) s

/-- A read is served: a correctable error gives the corrected word, an uncorrectable one gives 0; either is repaired in the
next cycles (05 R218, R219). -/
def State.serveRead (s : State) (b : BankId) (r : Req) (err : MemErr) : State :=
  let s := s.setBank b { s.bank b with queue := (s.bank b).queue.filter fun t => t != r }
  let vals := r.words.map fun w => s.bankWord b w
  match err with
  | .clean => s.deliverData r.who r.id vals
  | .correctable k =>
    match r.words[k.val]? with
    | none => s.deliverData r.who r.id vals
    | some w =>
      let s := s.setBank b { s.bank b with repairs := (s.bank b).repairs ++ [.writeBack w (s.bankWord b w) false] }
      s.deliverData r.who r.id vals
  | .uncorrectable k =>
    match r.words[k.val]? with
    | none => s.deliverData r.who r.id vals
    | some w =>
      let s := s.setBank b { s.bank b with repairs := (s.bank b).repairs ++ [.writeBack w 0 true] }
      s.deliverData r.who r.id (vals.set k.val 0)

/-- Longest wait of a core request and forced non-core starts (05 R212). -/
def State.noteWait (s : State) (b : BankId) (r : Req) (forced : Bool) : State :=
  if decide (r.who < 16) then
    let w := min 255 (s.cycles - r.at_)
    if s.reg MEM_BANK_QWAIT_PEAK b.val < w then s.put MEM_BANK_QWAIT_PEAK b.val w else s
  else if forced then s.count MEM_BANK_QWAIT_GUARD_CNT b.val
  else s

/-- A background scrub read of one word (05 R226). -/
def State.scrubRead (s : State) (b : BankId) (w : Nat) (err : MemErr) : State :=
  match err with
  | .clean => s
  | .correctable _ => s.setBank b { s.bank b with repairs := (s.bank b).repairs ++ [.writeBack w (s.bankWord b w) false] }
  | .uncorrectable _ => s.setBank b { s.bank b with repairs := (s.bank b).repairs ++ [.writeBack w 0 true] }

/-- The check of a read that another requester's own command makes: the corrected word reaches it, an uncorrectable one reads as 0
there, and the repair engine acts on either (05 R218, R219; 18 R750; log entry 10). -/
def State.otherRead (s : State) (b : BankId) (r : OtherRead) (err : MemErr) : State :=
  if !s.mayRead b (16 + r.who.val) then s
  else match err with
    | .clean => s
    | .correctable _ =>
      s.setBank b { s.bank b with repairs := (s.bank b).repairs ++ [.writeBack r.word (s.bankWord b r.word) false] }
    | .uncorrectable _ =>
      let s := s.setBank b { s.bank b with repairs := (s.bank b).repairs ++ [.writeBack r.word 0 true] }
      { s with memErrs := s.memErrs ++ [(16 + r.who.val, b, r.word)] }

/-- The arbiter of a bank starts one operation (05 R208). A due re-read takes the cycle and completes as `ERROR_RE_READ`. `other`
names a read of a requester other than a core, which its own command makes. -/
def State.memOperation (s : State) (b : BankId) (err : MemErr) (scrub : Nat) (other : Option OtherRead) : State :=
  if s.flag MEM_BANK_STATUS_SPARGING b.val then s
  else
    match (s.bank b).repairs with
    | .reRead _ _ :: _ => s
    | .writeBack w v unc :: t =>
      (s.setBankWord b w v).setBank b { (s.setBankWord b w v).bank b with repairs := .reRead w unc :: t }
    | [] =>
      match other with
      | some r => s.otherRead b r err
      | none =>
      match chooseReq s.cycles (s.bank b).queue with
      | some (r, forced) =>
        let r := servedFirst (s.bank b).queue r
        let s := s.noteWait b r forced
        if r.write then s.serveWrite b r else s.serveRead b r err
      | none => if s.flag MEM_SCRUB_RUN_EN then s.scrubRead b (scrub % bankWords) err else s

/-- The row of a word (05 R193). -/
def rowOf (w : Nat) : RowId := { way := w % 4, row := w / 1024 }

/-- Spare rows left in a way: 8, less the rows remapped and being copied (05 R193, R221). -/
def Bank.spares (x : Bank) (way : Nat) : Nat :=
  8 - ((x.remaps ++ x.copies).filter fun r => r.way == way).length

/-- SPARES_MIN counts completed remaps (05 R223, R237), SPARE_Q the rows queued or being copied. -/
def State.showSpares (s : State) (b : BankId) : State :=
  let x := s.bank b
  let used (way : Nat) : Nat := (x.remaps.filter fun r => r.way == way).length
  (s.put MEM_BANK_STATUS_SPARES_MIN b.val (min (min (8 - used 0) (8 - used 1)) (min (8 - used 2) (8 - used 3)))).put
    MEM_BANK_STATUS_SPARE_Q b.val x.copies.length

/-- Sparing of a row begins: one row is copied at a time with at most 4 more in the queue; a way without a spare row leaves
the row in service (05 R221, R222). -/
def State.startSparing (s : State) (b : BankId) (r : RowId) : State :=
  let x := s.bank b
  if x.copies.contains r || decide (5 ≤ x.copies.length) then s
  else if x.spares r.way = 0 then (s.putMaskBit MEM_STATUS_SPARE_EXH b.val true).raise 46
  else (s.setBank b { x with copies := x.copies ++ [r] }).showSpares b

/-- A lasting error: counted, captured, summed up and its row spared (05 R218; 18 R752). -/
def State.lastingError (s : State) (b : BankId) (w : Nat) : State :=
  let s := ((s.count MEM_BANK_LASTING_CNT b.val).capture 5 b w 0).putMaskBit FLT_SUM_MEM_LASTING b.val true
  (s.startSparing b (rowOf w)).raise 44

/-- The re-read after a write-back completes and classes the error (05 R218, R219). -/
def State.errorReRead (s : State) (b : BankId) (again : Bool) : State :=
  match (s.bank b).repairs with
  | .reRead w unc :: t =>
    let s := s.setBank b { s.bank b with repairs := t }
    if unc then
      let s := ((s.count MEM_BANK_UE_CNT b.val).capture 6 b w 0).raise 45
      if again then s.lastingError b w else s
    else if again then s.lastingError b w
    else ((s.count MEM_BANK_CE_CNT b.val).capture 4 b w 0).raise 43
  | _ => s

/-- A row copy completes: the row is remapped to its spare row, the next queued row follows; the firmware logs it
(05 R221, R223; 16 R691 KIND 0x05). -/
def State.sparingComplete (s : State) (b : BankId) : State :=
  match (s.bank b).copies with
  | [] => s
  | r :: t =>
    let s := s.setBank b { s.bank b with copies := t, remaps := (s.bank b).remaps ++ [r] }
    (s.showSpares b).logAppend 0x05 (b.val * 4 + r.way) r.row

/-- The owner class is idle with respect to a bank (05 R202): a group that is OFF or LOADING, MGT always, the BCE without an
enabled filter or job, the probe while off; STR never. `bceBusy` is what chapter 07 says of the bank. -/
def State.ownerIdle (s : State) (bceBusy : Bool) (cls : Nat) : Bool :=
  if 1 ≤ cls ∧ cls ≤ 4 then
    let st := s.reg SE_RG_STATUS_STATE (cls - 1)
    st == 0 || st == 5
  else if cls = 5 then !bceBusy
  else if cls = 6 then !s.flag PRB_STATUS_RUN
  else cls == 8

/-- Some filter that is not OFF or some job that is waiting or running has a buffer in this bank (05 R202; 07 R317, R335). -/
def State.bceUses (s : State) (b : BankId) : Bool :=
  (List.range 128).any fun k =>
    (s.reg BCE_JOB_STATUS_STATE k != 0 && s.reg BCE_JOB_FDL_LOC k == b.val)
      || (s.reg BCE_FLT_STATUS_STATE k != 0
          && (s.reg BCE_FLT_SPEC_LOC k == b.val || s.reg BCE_FLT_TAIL_TBANK k == b.val || s.reg BCE_FLT_STAMP_SBANK k == b.val))

def State.handoverErr (s : State) (b : BankId) : State := s.putFlag MEM_BANK_STATUS_HANDOVER_ERR b.val true

/-- A release is accepted from an idle owner of a bank whose handover the bitstream allows (05 R202, R203, R205). -/
def State.releaseOk (s : State) (b : BankId) : Bool :=
  s.flag MEM_BANK_CFG_HANDOVER b.val && !s.flag MEM_BANK_STATUS_RELEASED b.val && !(s.bank b).releasing
    && s.ownerIdle (s.bceUses b) (s.reg MEM_BANK_STATUS_OWNER_NOW b.val)

/-- A release (05 R203). -/
def State.bankRelease (s : State) (b : BankId) : State :=
  if s.releaseOk b then s.setBank b { s.bank b with releasing := true } else s.handoverErr b

/-- The release completes once the writes accepted before it have landed (05 R203). -/
def State.bankReleaseComplete (s : State) (b : BankId) : State :=
  if (s.bank b).releasing && (s.bank b).queue.all fun r => !r.write then
    let s := s.setBank b { s.bank b with releasing := false }
    ((s.put MEM_BANK_STATUS_OWNER_NOW b.val 0).putFlag MEM_BANK_STATUS_RELEASED b.val true).raise 47
  else s

/-- A grant is accepted of a released bank, to an allowed class (05 R204, R205). -/
def State.grantOk (s : State) (b : BankId) (cls : Nat) : Bool :=
  s.flag MEM_BANK_CFG_HANDOVER b.val && s.flag MEM_BANK_STATUS_RELEASED b.val && decide (1 ≤ cls) && decide (cls ≤ 8)
    && (s.reg MEM_BANK_CFG_ALLOWED b.val).testBit (classBit cls)

/-- A grant (05 R204). -/
def State.bankGrant (s : State) (b : BankId) (cls : Nat) : State :=
  if s.grantOk b cls then
    ((s.put MEM_BANK_STATUS_OWNER_NOW b.val cls).putFlag MEM_BANK_STATUS_RELEASED b.val false).raise 47
  else s.handoverErr b

/-- A write of MEM_BANK_CTL: one that R205 lists is ignored as a whole and sets HANDOVER_ERR. -/
def State.bankCtl (s : State) (b : BankId) (release grant : Bool) (cls : Nat) : State :=
  if !s.flag MEM_BANK_CFG_HANDOVER b.val || (release && grant) || (release && !s.releaseOk b) || (grant && !s.grantOk b cls) then
    s.handoverErr b
  else
    let s := s.put MEM_BANK_CTL_GRANT_TO b.val cls
    if release then s.bankRelease b else if grant then s.bankGrant b cls else s

/-- The banks whose sparge runs read clean 0; a stuck row is spared at once with a zeroed spare row (05 R227). -/
def State.spargeComplete (s : State) (stuck : List (BankId × Nat)) : State :=
  let running := (List.finRange 16).filter fun b => s.flag MEM_BANK_STATUS_SPARGING b.val
  let s := stuck.foldl (fun s (b, w) =>
    if running.contains b && !(s.bank b).remaps.contains (rowOf w) then
      if (s.bank b).spares (rowOf w).way = 0 then (s.putMaskBit MEM_STATUS_SPARE_EXH b.val true).raise 46
      else (s.setBank b { s.bank b with remaps := (s.bank b).remaps ++ [rowOf w] }).showSpares b
    else s) s
  running.foldl (fun s b =>
    (s.setBank b { s.bank b with mem := [] }).putFlag MEM_BANK_STATUS_SPARGING b.val false |>.putMaskBit MEM_STATUS_SPARGING b.val false) s

/-- One pass of the sleep walker over the retained banks in S2 or S3 (05 R225): corrected words keep their value,
uncorrectable words are written 0 and listed, words that fail again have their row queued for sparing at wake. -/
def State.scrubPass (s : State) (corrected : Nat) (lost lasting : List (BankId × Nat)) : State :=
  let st := s.power.sleep
  if s.flag MEM_SCRUB_SLEEP_EN && (st == 2 || st == 3) then
    let kept (b : BankId) : Bool := (s.reg MEM_RET_MASK).testBit b.val
    let lost := lost.filter fun p => kept p.1 && decide (p.2 < bankWords)
    let s := lost.foldl (fun s (b, w) => s.setBankWord b w 0) s
    { s with walkCe := s.walkCe + corrected, walkPasses := s.walkPasses + 1, walkLost := s.walkLost ++ lost,
             walkLasting := s.walkLasting ++ (lasting.filter fun p => kept p.1) }
  else s

/-- MEM_OPERATION (05 R208). -/
def execMemOperation (b : BankId) (err : MemErr) (scrub : Nat) (other : Option OtherRead) (s : State) : Out :=
  .next (s.memOperation b err scrub other)

/-- ERROR_RE_READ (05 R218). -/
def execErrorReRead (b : BankId) (again : Bool) (s : State) : Out := .next (s.errorReRead b again)

/-- SPARING_COMPLETE (05 R221). -/
def execSparingComplete (b : BankId) (s : State) : Out := .next (s.sparingComplete b)

/-- BANK_RELEASE (05 R203). -/
def execBankRelease (b : BankId) (s : State) : Out := .next (s.bankRelease b)

/-- BANK_RELEASE_COMPLETE (05 R203). -/
def execBankReleaseComplete (b : BankId) (s : State) : Out := .next (s.bankReleaseComplete b)

/-- BANK_GRANT (05 R204). -/
def execBankGrant (b : BankId) (cls : Fin 16) (s : State) : Out := .next (s.bankGrant b cls.val)

/-- A write of 1 to MEM_BANK_QCLR (05 R237). -/
def State.qwaitClear (s : State) (b : BankId) : State := (s.put MEM_BANK_QWAIT_PEAK b.val 0).put MEM_BANK_QWAIT_GUARD_CNT b.val 0

/-- QWAIT_CLEAR (05 R237). -/
def execQwaitClear (b : BankId) (s : State) : Out := .next (s.qwaitClear b)

/-- SPARGE_COMPLETE (05 R227). -/
def execSpargeComplete (stuck : List (BankId × Nat)) (s : State) : Out := .next (s.spargeComplete stuck)

/-- SCRUB_PASS (05 R225). -/
def execScrubPass (corrected : Nat) (lost lasting : List (BankId × Nat)) (s : State) : Out :=
  .next (s.scrubPass corrected lost lasting)

end Sys2Proof.Machine
end

