-- ==== Sys2Proof/Machine/CoreMem.lean ====
section
/-!
DEFINITION. MEM-slot operations: state memory, coefficient loads, shared memory and interpolated taps, and the arrival of
shared data (02 R55 to R60; 04 R167 to R183; 06 R273, R274).
-/

namespace Sys2Proof.Machine

open Sys2Proof

/-- A register of the MEM slot's state access: one of D0 to D15 (04 R167). -/
def lowReg (d : Fin 16) : Fin 32 := d.castLE (by decide)

/-- A state word as this sample sees it: its own latest write, else the committed value (02 R55). -/
def stateWord (core : Core) (x : Sample) (a : Nat) : Word := tabGet x.commit a (memWord core.state a)

/-- LDS: latency 2 (04 R168). -/
def lds (f : StateAccess) (core : Core) (x : Sample) : Sample := putD x (lowReg f.d) 2 (stateWord core x f.addr.toNat)

/-- STS: the write goes to the commit buffer (02 R55, R56). -/
def sts (f : StateAccess) (_ : Core) (x : Sample) : Sample :=
  { x with commit := tabSet f.addr.toNat (dAt x (lowReg f.d)) x.commit, writes := x.writes + 1 }

/-- LDC: the word at Kk, which then advances (04 R168). -/
def ldc (f : CoefLoad) (core : Core) (x : Sample) : Sample :=
  advanceK core (putD x f.d 2 (coefAt core x f.k 0)) f.k f.kinc

/-- The core's request goes to its bank, or waits when the bank's queue is full (04 R177). -/
def State.sendReq (s : State) (c : CoreId) (b : BankId) (r : Req) : State :=
  if (s.bank b).room then s.submit b r else s.setCore c { s.core c with waiting := some (b, r) }

/-- A read through a generator: it is due 64 bundles on and asks its words of one bank. A read due at or after the end
is issued all the same and its data are discarded (03 R125, 04 R176). -/
def issueRead (i : Issue) (dest : ReadDest) (b : BankId) (words : List Nat) (x : Sample) (s : State) : State :=
  let core := s.core i.core
  let id := core.nextReq
  let r : SharedRead := { id := id, due := x.pos + 64, dest := dest, data := words.map fun _ => none }
  let x := if x.pos + 64 < x.len then { x with reads := x.reads ++ [r] } else x
  let s := s.putSample i.core x
  let s := s.setCore i.core { s.core i.core with nextReq := id + 1 }
  s.sendReq i.core b { who := i.core.val, write := false, words := words, id := id }

/-- The words at delays `k` to `k + n - 1` through a generator. -/
def lineWords (s : State) (core : Core) (x : Sample) (g : Fin 16) (store : Bool) (k n : Nat) : BankId × List Nat :=
  let d := genOf core x g
  let at_ (j : Nat) : BankId × Nat := genWord s d store x.n (giAt core x g) (glAt x g) (k + j)
  ((at_ 0).1, (List.range n).map fun j => (at_ j).2)

/-- LDG (04 R169). -/
def ldg (i : Issue) (f : SharedAccess) (core : Core) (x : Sample) (s : State) : State :=
  let p := lineWords s core x f.g false f.off.toNat 1
  issueRead i (.word f.d) p.1 p.2 x s

/-- LDQ: four adjacent words as one quad fetch (04 R169). -/
def ldq (i : Issue) (f : QuadLoad) (core : Core) (x : Sample) (s : State) : State :=
  let p := lineWords s core x f.g false f.off.toNat 4
  issueRead i (.quad (Fin.ofNat 32 (4 * f.qd.val))) p.1 p.2 x s

/-- DTAP: the delay is bits 31:16 of Ds, limited to the line (04 R171). -/
def dtap (i : Issue) (f : DelayTap) (core : Core) (x : Sample) (s : State) : State :=
  let len := lineLen s (genOf core x f.g) false (glAt x f.g)
  let k := (dAt x f.dly).toNat / 2 ^ 16
  let s := if len - 1 < k then s.putFlag SE_ADDR_DLY_CLAMP i.core.val true else s
  let p := lineWords s core x f.g false (min k (len - 1)) 1
  issueRead i (.word f.d) p.1 p.2 x s

/-- Delay and fraction of an interpolated tap after its limits, and whether a limit acted (04 R179). -/
def tapDelay (len : Nat) (ds : Word) : Nat × Nat × Bool :=
  let d := ds.toNat / 2 ^ 16
  let f := ds.toNat % 2 ^ 16
  if d < 1 then (1, 0, true) else if len - 3 < d then (len - 3, 0, true) else (d, f, false)

/-- Weights and alignment shift of a tap by its TAPMODE (04 R180 to R182). -/
def tapLaw (core : Core) (x : Sample) (g : GenDesc) (f : Nat) : List Word × Nat :=
  if g.tapmode = 2 then
    ((List.range 4).map fun j => memWord core.coef[x.cpage] (g.ptab + 4 * (f / 64) + j), alignShift (g.tcf == 1))
  else (tapWeights g.tapmode f, alignShift true)

/-- DTAPI: four words around a fractional delay as one quad fetch (04 R179). -/
def dtapi (i : Issue) (f : InterpTap) (core : Core) (x : Sample) (s : State) : State :=
  let g := genOf core x f.g
  let (d, fr, lim) := tapDelay (lineLen s g false (glAt x f.g)) (dAt x f.dly)
  let s := if lim then s.putFlag SE_ADDR_TAP_CLAMP i.core.val true else s
  let p := lineWords s core x f.g false (d - 1) 4
  let law := tapLaw core x g fr
  issueRead i (.tap f.a f.acc f.neg law.1 law.2) p.1 p.2 x s

/-- The value a store through a channel array writes in a crossfade, and the sample with its morph buffer (06 R274). -/
def blend (x : Sample) (key : Nat) (v : Word) : Word × Sample :=
  match x.xfade with
  | none => (v, x)
  | some (j, m) =>
    if x.second.isSome then
      let u := rampWord v (2 ^ m - j) m
      (u, { x with morph := tabSet key u x.morph })
    else
      let w := rampWord v j m
      match tabGet? key x.morph with
      | some u => ((satWord (u.toInt + w.toInt)).1, x)
      | none => (w, x)

/-- STG: the word at delay OFF takes Dd; a store through a channel array is blended in a crossfade (04 R169, 06 R274). -/
def stg (i : Issue) (f : SharedAccess) (core : Core) (x : Sample) (s : State) : State :=
  let g := genOf core x f.g
  let p := lineWords s core x f.g true f.off.toNat 1
  let v := dAt x f.d
  let r := if g.kind = 1 then blend x (p.1.val * 2 ^ 20 + p.2.headD 0) v else (v, x)
  let s := s.putSample i.core r.2
  s.sendReq i.core p.1 { who := i.core.val, write := true, words := p.2, data := r.1 }

/-- The result of a read that has all its data, put at its due bundle `v` (04 R169, R171, R180). -/
def deliver (x : Sample) (r : SharedRead) : Sample :=
  let vals := r.data.map fun v => v.getD 0
  let put (x : Sample) (d : Fin 32) (v : Word) : Sample :=
    if r.due < x.len then { x with d := x.d ++ [{ reg := d.val, vis := r.due, val := v }] } else x
  match r.dest with
  | .word d => put x d (vals.headD 0)
  | .quad d => (List.range 4).foldl (fun y j => put y (Fin.ofNat 32 (d.val + j)) (vals.getD j 0)) x
  | .tap a acc neg ws sh =>
    if r.due + 4 < x.len then
      { x with a := insertAcc { reg := a.val, vis := r.due + 4, accum := acc, p := BitVec.ofInt 80 (signed neg (tapSum sh vals ws)) } x.a }
    else x

/-- Stall cycles are added to the sample (02 R54). -/
def addStalls (x : Sample) (n : Nat) : Sample := { x with stalls := x.stalls + n }

/-- The shared data due at bundle `v` are there: their reads are delivered (04 R176). -/
def State.arrive (s : State) (c : CoreId) (v stalls : Nat) : State :=
  match (s.core c).run with
  | none => s
  | some x =>
    let due := x.reads.filter fun r => r.due + x.off == v && (r.failed || r.data.all Option.isSome)
    if due.isEmpty || x.dead then s
    else if due.any fun r => r.failed then s.coreFault c .crossbar (v - x.off)
    else
      let y := due.foldl deliver { x with reads := x.reads.filter fun r => !due.contains r }
      s.setCore c { s.core c with run := some (addStalls y stalls) }

/-- The crossbar accepts a request that waited for room (04 R177). -/
def State.crossbarAccept (s : State) (c : CoreId) (stalls : Nat) : State :=
  match (s.core c).waiting with
  | none => s
  | some (b, r) =>
    if (s.bank b).room then
      let core := s.core c
      let s := s.setCore c { core with waiting := none, run := core.run.map fun x => addStalls x stalls }
      s.submit b r
    else s

/-- LDS (02 R55). -/
def execLds (i : Issue) (f : StateAccess) (s : State) : Out := .next (issueReg i (.lds f) (lds f) s)

/-- STS (02 R55). -/
def execSts (i : Issue) (f : StateAccess) (s : State) : Out := .next (issueReg i (.sts f) (sts f) s)

/-- LDC (04 R168). -/
def execLdc (i : Issue) (f : CoefLoad) (s : State) : Out := .next (issueReg i (.ldc f) (ldc f) s)

/-- LDG (04 R169). -/
def execLdg (i : Issue) (f : SharedAccess) (s : State) : Out := .next (issueOp i .mem (.op (.ldg f)) (ldg i f) s)

/-- STG (04 R169). -/
def execStg (i : Issue) (f : SharedAccess) (s : State) : Out := .next (issueOp i .mem (.op (.stg f)) (stg i f) s)

/-- DTAP (04 R171). -/
def execDtap (i : Issue) (f : DelayTap) (s : State) : Out := .next (issueOp i .mem (.op (.dtap f)) (dtap i f) s)

/-- LDQ (04 R169). -/
def execLdq (i : Issue) (f : QuadLoad) (s : State) : Out := .next (issueOp i .mem (.op (.ldq f)) (ldq i f) s)

/-- DTAPI (04 R180). -/
def execDtapi (i : Issue) (f : InterpTap) (s : State) : Out := .next (issueOp i .mem (.op (.dtapi f)) (dtapi i f) s)

/-- SHARED_READ_ARRIVAL (04 R176). -/
def execSharedReadArrival (c : CoreId) (v stalls : Nat) (s : State) : Out := .next (s.arrive c v stalls)

/-- CROSSBAR_ACCEPT (04 R177). -/
def execCrossbarAccept (c : CoreId) (stalls : Nat) (s : State) : Out := .next (s.crossbarAccept c stalls)

end Sys2Proof.Machine
end

