-- ==== Sys2Proof/Machine/Static.lean ====
section
/-!
DEFINITION. Budgets and the checks of a program that do not depend on data: result conflicts, tap spacing, shared-memory
density and bank load (01 R28 to R31; 02 R57, R92; 03 R126 to R128; 04 R161, R162, R166, R170, R172, R182 to R187, R809).
-/

namespace Sys2Proof.Machine

open Sys2Proof

/-! ## Budgets -/

/-- Core clock of a performance level in Hz (01 R35). -/
def plHz : Nat → Nat
  | 0 => 1200000000
  | 1 => 800000000
  | 2 => 600000000
  | 3 => 400000000
  | 4 => 300000000
  | _ => 200000000

/-- Sample rate of a RATE code in Hz; 0 when unused or reserved (02 R108). -/
def rateHz : Nat → Nat
  | 1 => 44100
  | 2 => 88200
  | 3 => 176400
  | 4 => 352800
  | 5 => 48000
  | 6 => 96000
  | 7 => 192000
  | 8 => 384000
  | _ => 0

/-- Budget of a rate code at a performance level (01 R28). -/
def budgetOf (rate pl : Nat) : Nat := if rateHz rate = 0 then 0 else plHz pl / rateHz rate

/-- Rate-tolerance reserve: the budget over 4,000, rounded up (01 R30). -/
def reserveOf (budget : Nat) : Nat := (budget + 3999) / 4000

/-- Declared minimum of a program of `len` bundles (01 R31). -/
def declMin (len rate pl : Nat) : Nat := len + 64 + reserveOf (budgetOf rate pl)

/-- Crossfade minimum (06 R276). -/
def xfadeMin (lenOld lenNew rate pl : Nat) : Nat := lenOld + lenNew + 96 + reserveOf (budgetOf rate pl)

/-! ## What each operation writes -/

/-- The register files a result can go to (03 R126). -/
inductive FileId where
  | d | a | p | k | gi | gl
  deriving DecidableEq, Repr

/-- A register, and the latency of a write of it (03 R121). -/
structure WriteAt where
  file : FileId
  reg : Nat
  lat : Nat
  deriving DecidableEq, Repr

/-- The pointer write of a multiply or LDC: none with KINC 0b00 (03 R126). -/
def kincWrite (k : Fin 8) (kinc : Fin 4) : List WriteAt := if kinc = 0 then [] else [{ file := .k, reg := k.val, lat := 1 }]

/-- Four registers in a row of one file. -/
def quadWrites (f : FileId) (base lat : Nat) : List WriteAt := (List.range 4).map fun j => { file := f, reg := base + j, lat := lat }

/-- Every register write that an operation can make, with its latency (03 R121, R126). -/
def opWrites : CoreOp → List WriteAt
  | .mac4 f => quadWrites .a (4 * f.q.val) 3 ++ kincWrite f.k f.kinc
  | .mac2c f | .mac2d f =>
    [{ file := .a, reg := 4 * f.q.val, lat := 3 }, { file := .a, reg := 4 * f.q.val + 1, lat := 3 }] ++ kincWrite f.k f.kinc
  | .mac1 f => { file := .a, reg := f.a.val, lat := 3 } :: kincWrite f.k f.kinc
  | .muld f => [{ file := .a, reg := f.a.val, lat := 3 }]
  | .aconv f => [{ file := .d, reg := f.d.val, lat := 2 }]
  | .aopMov f | .aopAdd f | .aopSub f | .aopNeg f | .aopAbs f => [{ file := .a, reg := f.a.val, lat := 3 }]
  | .aopClr a => [{ file := .a, reg := a.val, lat := 3 }]
  | .aopClrq a => quadWrites .a (a.val / 4 * 4) 3
  | .ash f => [{ file := .a, reg := f.a.val, lat := 3 }]
  | .ald f => [{ file := .a, reg := f.a.val, lat := 3 }]
  | .add f | .sub f | .shvArithmetic f | .clip f => [{ file := .d, reg := f.d.val, lat := 1 }]
  | .logAnd f | .logOr f | .logXor f | .logAndn f | .shvLogical f | .mmxMin f | .mmxMax f =>
    [{ file := .d, reg := f.d.val, lat := 1 }]
  | .logNot f => [{ file := .d, reg := f.d.val, lat := 1 }]
  | .mmxAbs f | .mmxNeg f => [{ file := .d, reg := f.d.val, lat := 1 }]
  | .shi f => [{ file := .d, reg := f.d.val, lat := 1 }]
  | .sel f => [{ file := .d, reg := f.d.val, lat := 1 }]
  | .cmp f => [{ file := .p, reg := f.t.val, lat := 2 }]
  | .immD f => [{ file := .d, reg := f.d.val, lat := 1 }]
  | .immK f => [{ file := .k, reg := f.k.val, lat := 1 }]
  | .lds f => [{ file := .d, reg := f.d.val, lat := 2 }]
  | .sts _ | .stg _ => []
  | .ldc f => { file := .d, reg := f.d.val, lat := 2 } :: kincWrite f.k f.kinc
  | .ldg f => [{ file := .d, reg := f.d.val, lat := 64 }]
  | .dtap f => [{ file := .d, reg := f.d.val, lat := 64 }]
  | .ldq f => quadWrites .d (4 * f.qd.val) 64
  | .dtapi f => [{ file := .a, reg := f.a.val, lat := 68 }]
  | .gaddIndex f => [{ file := .gi, reg := f.g.val, lat := 1 }]
  | .gaddLine f => [{ file := .gl, reg := f.g.val, lat := 1 }]
  | .gmovIndexSet f => [{ file := .gi, reg := f.g.val, lat := 1 }]
  | .gmovLineSet f => [{ file := .gl, reg := f.g.val, lat := 1 }]
  | .gmovIndexGet f | .gmovLineGet f => [{ file := .d, reg := f.d.val, lat := 1 }]
  | .kadd f => [{ file := .k, reg := f.k.val, lat := 1 }]
  | .kmovToK f => [{ file := .k, reg := f.k.val, lat := 1 }]
  | .kmovToD f => [{ file := .d, reg := f.d.val, lat := 1 }]
  | .mov f => [{ file := .d, reg := f.d.val, lat := 1 }]
  | .movi f => [{ file := .d, reg := f.d.val, lat := 1 }]
  | .cmov f => [{ file := .d, reg := f.d.val, lat := 1 }]
  | .pcmpz f => [{ file := .p, reg := f.t.val, lat := 1 }]
  | .plogAnd f | .plogOr f | .plogXor f | .plogAndn f => [{ file := .p, reg := f.t.val, lat := 1 }]
  | .plogNot f => [{ file := .p, reg := f.t.val, lat := 1 }]
  | .plogSet t | .plogClr t => [{ file := .p, reg := t.val, lat := 1 }]
  | .pacc f => [{ file := .p, reg := f.t.val, lat := 1 }]

/-- The operations a slot holds: one or none. -/
def slotOps : SlotRead → List CoreOp
  | .op o => [o]
  | _ => []

/-- The operations of a bundle. -/
def bundleOps (b : Bundle) : List CoreOp := slotOps b.mac ++ slotOps b.mem ++ slotOps b.aux

/-- The bundles of a program page, in order. -/
def pageBundles (pg : ProgPage) : List Bundle := (List.range pg.len).map (pageBundle pg)

/-- Where the writes of one bundle become visible. -/
def visWrites (j : Nat) (b : Bundle) : List (FileId × Nat × Nat) :=
  (bundleOps b).flatMap fun o => (opWrites o).map fun w => (w.file, w.reg, j + w.lat)

/-- No two elements alike. -/
def allDistinct {α : Type} [DecidableEq α] : List α → Bool
  | [] => true
  | x :: t => !t.contains x && allDistinct t

/-- No two results become visible in one register at one index (03 R126). Latencies do not exceed 68, so a conflict lies within
69 bundles. `j` is the index of the first bundle. -/
def noResultConflict (j : Nat) : List Bundle → Bool
  | [] => true
  | b :: t =>
    let here := visWrites j b
    let near := ((t.take 68).zipIdx (j + 1)).flatMap fun (c, i) => visWrites i c
    allDistinct here && here.all (fun w => !near.contains w) && noResultConflict (j + 1) t

/-- Operations that use the four multipliers (03 R127, R129). -/
def isMultiply : CoreOp → Bool
  | .mac4 _ | .mac2c _ | .mac2d _ | .mac1 _ | .muld _ => true
  | _ => false

/-- The generator, the kind of access and the offsets of a shared-memory operation (04 R167). -/
structure SharedUse where
  g : Fin 16
  store : Bool
  /-- Highest fixed offset that the operation names. -/
  top : Nat
  /-- Needs quad-aligned lines (04 R172). -/
  quad : Bool
  tap : Bool
  deriving DecidableEq, Repr

/-- The shared-memory operation of a bundle. -/
def sharedUse : CoreOp → Option SharedUse
  | .ldg f => some { g := f.g, store := false, top := f.off.toNat, quad := false, tap := false }
  | .stg f => some { g := f.g, store := true, top := f.off.toNat, quad := false, tap := false }
  | .dtap f => some { g := f.g, store := false, top := 0, quad := false, tap := false }
  | .ldq f => some { g := f.g, store := false, top := f.off.toNat + 3, quad := true, tap := false }
  | .dtapi f => some { g := f.g, store := false, top := 0, quad := true, tap := true }
  | _ => none

/-- The shared-memory operation of a bundle, if it holds one. -/
def bundleShared (b : Bundle) : Option SharedUse := (bundleOps b).findSome? sharedUse

/-- The multipliers are free for a tap: bundle i + 64 of a tap at bundle i holds no multiply (03 R127). -/
def tapSpacing : List Bundle → Bool
  | [] => true
  | b :: t =>
    (match bundleShared b with
      | some u => !u.tap || (match t[63]? with
          | some c => !(bundleOps c).any isMultiply
          | none => true)
      | none => true) && tapSpacing t

/-- The density rule: shared operations at least 2 bundles apart, taps at least 4 (04 R184). -/
def densityOk : List Bundle → Bool
  | [] => true
  | b :: t =>
    (match bundleShared b with
      | none => true
      | some u =>
        (t.take 1).all (fun c => (bundleShared c).isNone)
          && (!u.tap || (t.take 3).all fun c => match bundleShared c with
              | some v => !v.tap
              | none => true)) && densityOk t

/-- Bundles whose MEM slot writes state memory, whatever their guard (02 R57). -/
def stateWrites (bs : List Bundle) : Nat :=
  (bs.filter fun b => (bundleOps b).any fun o => match o with
    | .sts _ => true
    | _ => false).length

/-- Tap bundles (04 R192). -/
def tapCount (bs : List Bundle) : Nat := (bs.filter fun b => match bundleShared b with
  | some u => u.tap
  | none => false).length

/-- Largest number of marks in a window of 64 in a row (04 R186, R192). -/
def windowMax (marks : List Nat) : Nat :=
  let rec go (fuel : Nat) (l : List Nat) (best : Nat) : Nat :=
    match fuel with
    | 0 => best
    | n + 1 => go n (l.drop 1) (max best ((l.take 64).foldl (· + ·) 0))
  go marks.length marks 0

/-- Largest number of shared-memory operations in a 64-bundle window (04 R192). -/
def windowOps (bs : List Bundle) : Nat := windowMax (bs.map fun b => if (bundleShared b).isSome then 1 else 0)

/-! ## Pointer sets -/

def GenDesc.used (g : GenDesc) : Bool := g.nbank != 0

/-- Every other field of an unused generator is 0, and the ranges of one in use hold (04 R161, R162, R182, R809). `buffered`
says whether a channel has a buffer in this device in both uses. -/
def GenDesc.ok (g : GenDesc) (buffered : Nat → Bool) : Bool :=
  if g.nbank = 0 then g == {}
  else if g.kind = 1 then
    g.nbank == 1 && g.len == 0 && decide (1 ≤ g.lines) && decide (g.ch + g.lines ≤ 8192)
      && (List.range g.lines).all (fun l => buffered (g.ch + l)) && decide (g.ptab % 4 = 0)
  else
    decide (g.nbank ≤ 16) && decide (1 ≤ g.len) && decide (g.len ≤ 786432) && decide (1 ≤ g.lines) && decide (g.lines ≤ 8192)
      && decide (g.bank0 + g.nbank ≤ 16) && decide (g.base + (g.lines + g.nbank - 1) / g.nbank * g.len ≤ 786432)
      && decide (g.origin < g.len) && decide (g.step < g.len) && decide (g.ptab % 4 = 0)

/-- Channel descriptors that a generator's lines name, for loads or stores (09 R385). -/
def State.genChans (s : State) (g : GenDesc) (store : Bool) : List ChanDesc :=
  (List.range g.lines).map fun l => s.chan store (g.ch + l)

/-- The length that the checks of a shared-memory operation use: the shortest buffer of a channel array (04 R170). -/
def State.genLen (s : State) (g : GenDesc) (store : Bool) : Nat :=
  if g.kind = 1 then ((s.genChans g store).map fun c => c.len).foldl min 786432 else g.len

/-- Every line starts at a multiple of 4 and has a length that is one (04 R172). -/
def State.genQuad (s : State) (g : GenDesc) (store : Bool) : Bool :=
  if g.kind = 1 then (s.genChans g store).all fun c => c.base % 4 == 0 && c.len % 4 == 0
  else g.base % 4 == 0 && g.len % 4 == 0

/-- A shared-memory operation is legal for the pointer set (04 R170, R172). -/
def State.useOk (s : State) (p : PtrSet) (u : SharedUse) : Bool :=
  let g := p.gens.getD u.g.val {}
  g.used && decide (u.top < s.genLen g u.store) && (!u.tap || decide (4 ≤ s.genLen g u.store)) && (!u.quad || s.genQuad g u.store)

/-- The banks a line, or all lines, of a generator reach, as a mask. -/
def State.lineBank (s : State) (g : GenDesc) (store : Bool) (l : Nat) : Nat :=
  if g.kind = 1 then (s.chan store (g.ch + l)).bank.val else g.bank0 + l % g.nbank

def orBits (l : List Nat) : Nat := l.foldl (fun m b => if m.testBit b then m else m + 2 ^ b) 0

def State.genBanks (s : State) (g : GenDesc) (store : Bool) : Nat := orBits ((List.range g.lines).map (s.lineBank g store))

/-! ## Bank load -/

/-- Known lines of the generators at a bundle: `none` where unknown (04 R166). -/
abbrev KnownLines := List (Option Nat)

/-- Known lines after a bundle's writes, which fall due one bundle on (04 R165, R166). -/
def knownAfter (p : PtrSet) (b : Bundle) (k : KnownLines) : KnownLines :=
  (bundleOps b).foldl (fun k o => match o with
    | .gaddLine f =>
      k.set f.g.val (if b.guard = 0 then (k.getD f.g.val none).map fun l => addMod l f.imm.toInt (p.gens.getD f.g.val {}).lines else none)
    | .gmovLineSet f => k.set f.g.val none
    | _ => k) k

/-- The mask of banks that each bundle of a program is charged to (04 R185). -/
def State.chargesFrom (s : State) (p : PtrSet) (k : KnownLines) : List Bundle → List Nat
  | [] => []
  | b :: t =>
    let here := match bundleShared b with
      | none => 0
      | some u =>
        let g := p.gens.getD u.g.val {}
        match k.getD u.g.val none with
        | some l => 2 ^ s.lineBank g u.store l
        | none => s.genBanks g u.store
    here :: s.chargesFrom p (knownAfter p b k) t

def State.charges (s : State) (pg : ProgPage) : List Nat :=
  s.chargesFrom pg.ptr (List.replicate 16 (some 0)) (pageBundles pg)

/-- Charges of the concatenation old program, seam of 32 bundles, new program (06 R276). -/
def State.xfadeCharges (s : State) (old new : ProgPage) : List Nat := s.charges old ++ List.replicate 32 0 ++ s.charges new

/-- Charges of the ROM pass-through program: reads at bundle 4i, writes at 4i + 66 (02 R92). -/
def State.safeCharges (s : State) (g : GroupId) : List Nat :=
  let n := s.reg SE_RG_SAFEMAP_CNT g.val
  if n = 0 then [0]
  else (List.range (4 * n + 63)).map fun j =>
    if j % 4 = 0 ∧ j / 4 < n then 2 ^ (s.chan false (s.reg SE_SAFEMAP_IN_CH (64 * g.val + j / 4))).bank.val
    else if j % 4 = 2 ∧ 66 ≤ j ∧ (j - 66) / 4 < n then
      2 ^ (s.chan true (s.reg SE_SAFEMAP_OUT_CH (64 * g.val + (j - 66) / 4))).bank.val
    else 0

/-- Sum of lists element by element, as long as the longest. -/
def addLists : List Nat → List Nat → List Nat
  | [], l => l
  | l, [] => l
  | a :: t, b :: u => (a + b) :: addLists t u

/-- M_h(b): worst window of the group's programs or of its safe program, whichever is larger (04 R186, R187). `progs` are the
charge lists of the group's cores. -/
def State.groupLoad (s : State) (g : GroupId) (progs : List (List Nat)) (b : BankId) : Nat :=
  let mark (l : List Nat) : List Nat := l.map fun m => if m.testBit b.val then 1 else 0
  max (windowMax ((progs.map mark).foldl addLists [])) (windowMax (mark (s.safeCharges g)))

/-- Charge lists of the programs of a group's members. -/
def State.groupProgs (s : State) (g : GroupId) : List (List Nat) :=
  (maskCores (s.reg SE_RG_STATUS_ACTIVE g.val)).map fun c => s.charges ((s.core c).prog[(s.core c).ppage])

/-- The load of a bank by all groups; `alt` replaces the programs of one group (04 R186). -/
def State.bankLoad (s : State) (b : BankId) (alt : GroupId → Option (List (List Nat))) : Nat :=
  ((List.finRange 4).map fun g =>
    if s.reg SE_RG_CFG_RATE g.val = 0 then 0 else s.groupLoad g ((alt g).getD (s.groupProgs g)) b).foldl (· + ·) 0

/-- The loads of all banks lie within 24 (04 R186). -/
def State.bankLoadsOk (s : State) (alt : GroupId → Option (List (List Nat))) : Bool :=
  (List.finRange 16).all fun b => decide (s.bankLoad b alt ≤ 24)

/-! ## One program page -/

/-- The program page breaks none of R128, R170, R172, R182, R809 (code PROGRAM). -/
def State.programOk (s : State) (pg : ProgPage) : Bool :=
  let bs := pageBundles pg
  decide (1 ≤ pg.len) && decide (pg.len ≤ 32768) && bs.all Bundle.legal && noResultConflict 0 bs
    && pg.ptr.gens.all (fun g => g.ok fun ch => (s.chan false ch).valid || (s.chan true ch).valid)
    && bs.all fun b => match bundleShared b with
      | some u => s.useOk pg.ptr u
      | none => true

/-- Density of a program (04 R184; 03 R127). -/
def programDense (pg : ProgPage) : Bool := densityOk (pageBundles pg) && tapSpacing (pageBundles pg)

/-- Density across the joint of a crossfade (06 R276). -/
def xfadeDense (old new : ProgPage) : Bool :=
  let empty : Bundle := readBundle 0
  let bs := pageBundles old ++ List.replicate 32 empty ++ pageBundles new
  densityOk bs && tapSpacing bs

/-- Blended-store bundles of a program: STG through a channel array (06 R274, R276). -/
def blendedStores (pg : ProgPage) : Nat :=
  ((pageBundles pg).filter fun b => match bundleShared b with
    | some u => u.store && (pg.ptr.gens.getD u.g.val {}).kind == 1
    | none => false).length

end Sys2Proof.Machine
end

