-- ==== Sys2Proof/Machine/Groups.lean ====
section
/-!
DEFINITION. Rate groups: which tick is due, the states and their ramps, mutes, and the figures shown for a core and a group
(01 R25 to R33; 02 R61 to R72, R108, R808; 13 R564, R573).
-/

namespace Sys2Proof.Machine

open Sys2Proof

/-! ## Ticks -/

/-- The media PLL of a group's family: MC0 for 44.1 kHz rates, MC1 for 48 kHz rates (01 R24). -/
def State.pllOf (s : State) (g : GroupId) : Nat := if s.reg SE_RG_CFG_RATE g.val ≤ 4 then 0 else 1

def State.fs (s : State) (g : GroupId) : Nat := rateHz (s.reg SE_RG_CFG_RATE g.val)

/-- The group ticks by the time counter (R26), not by an external clock (R27). -/
def State.tickFromTime (s : State) (g : GroupId) : Bool := s.reg CLK_MPLL_CFG_REF (s.pllOf g) == 0

/-- The group's media PLL gives ticks: it tracks, holds, rejoins or runs on the reference (13 R569, R578 to R582). -/
def State.ticking (s : State) (g : GroupId) : Bool :=
  let st := s.reg CLK_MPLL_STATUS_STATE (s.pllOf g)
  s.fs g != 0 && s.power.sleep == 0 && (st == 2 || st == 3 || st == 4 || st == 6)
    && !(s.plls.toList.getD (s.pllOf g) {}).waitEdge

/-- The index of the ideal tick nearest to the present counter time (01 R26; 02 R109; log entry 12). -/
def State.nearestTick (s : State) (g : GroupId) : Nat := (s.tim * s.fs g + timPerSec / 2) / timPerSec % 2 ^ 64

/-- The index of the tick that a tick command begins now; none when no tick of the group is due (01 R26, R27; 02 R109).
After a step of the counter a whole period passes first (13 R585). -/
def State.dueTick (s : State) (g : GroupId) : Option Nat :=
  let x := s.group g
  if !s.ticking g then none
  else if s.tickFromTime g && s.reg CLK_MPLL_STATUS_STATE (s.pllOf g) != 6 then
    let early := x.stepped && decide ((s.cycles + 1 - x.tickCycle) * s.fs g < 600000000)
    if x.begun && (s.nearestTick g == x.n || early) then none else some (s.nearestTick g)
  else some (if x.begun then (x.n + 1) % 2 ^ 64 else 0)

/-! ## Figures shown -/

/-- The present performance level. -/
def State.pl (s : State) : Nat := s.reg PWR_PL_STATUS_CUR

/-- The page that is not active. -/
def other (p : Fin 2) : Fin 2 := 1 - p

def Core.active (x : Core) : ProgPage := x.prog[x.ppage]
def Core.chamber (x : Core) : ProgPage := x.prog[other x.ppage]

/-- Length of the program that a sluice makes active in a core (06 R251). -/
def Core.lenAfter (x : Core) (pages : Nat) : Nat := if pages.testBit 1 then x.chamber.len else x.active.len

/-- Declared minimum of a core with a sluice accepted for it, at a level (01 R31; 06 R251). -/
def Core.declWith (x : Core) (sl : Option Sluice) (c : CoreId) (rate pl : Nat) : Nat :=
  let base := if x.active.len = 0 then 0 else declMin x.active.len rate pl
  match sl with
  | some u =>
    if u.cores.testBit c.val then
      max base (if u.morph = 2 then xfadeMin x.active.len x.chamber.len rate pl
        else if x.lenAfter u.pages = 0 then 0 else declMin (x.lenAfter u.pages) rate pl)
    else base
  | none => base

/-- Declared minimum of a core at a level under the sluice its group holds (06 R251). -/
def State.coreDecl (s : State) (c : CoreId) (pl : Nat) : Nat :=
  let g := s.groupOf c
  (s.core c).declWith s.sluices[g] c (s.reg SE_RG_CFG_RATE g.val) pl

/-- Declared minimum of a group at a level (02 R62). -/
def State.groupDecl (s : State) (g : GroupId) (pl : Nat) : Nat :=
  ((maskCores (s.reg SE_RG_STATUS_ACTIVE g.val)).map fun c => s.coreDecl c pl).foldl max 0

/-- The groups accept a level when its budget covers their declared minimum (01 R33; 06 R251). -/
def State.groupAccepts (s : State) (g : GroupId) (pl : Nat) : Bool :=
  s.reg SE_RG_CFG_RATE g.val == 0 || decide (s.groupDecl g pl ≤ budgetOf (s.reg SE_RG_CFG_RATE g.val) pl)

/-- Show the declared minima and budgets at the present level (02 R108, R111; 06 R291). -/
def State.showBudgets (s : State) : State :=
  let s := (List.finRange 16).foldl (fun (s : State) c =>
    let x := s.core c
    let rate := s.reg SE_RG_CFG_RATE (s.groupOf c).val
    let s := s.put SC_PROG_LEN_DECL_MIN c.val (min 65535 (s.coreDecl c s.pl))
    s.put UC_CORE_XF_XF_MIN c.val
      (if x.active.len = 0 ∨ x.chamber.len = 0 then 0 else min 65535 (xfadeMin x.active.len x.chamber.len rate s.pl))) s
  (List.finRange 4).foldl (fun (s : State) g =>
    (s.put SE_RG_DECL_MIN g.val (min 65535 (s.groupDecl g s.pl))).put SE_RG_DECL_MIN_BUDGET g.val
      (budgetOf (s.reg SE_RG_CFG_RATE g.val) s.pl)) s

/-- Show a generator of the active pointer set (04 R190, R191). -/
def State.showGen (s : State) (i : Nat) (g : GenDesc) : State :=
  let s := ((s.put SE_GEN_CFG_KIND i g.kind).put SE_GEN_CFG_TAPMODE i g.tapmode).put SE_GEN_CFG_TCF i g.tcf
  let s := ((s.put SE_GEN_CFG_BANK0 i g.bank0).put SE_GEN_CFG_NBANK i g.nbank).put SE_GEN_CFG_PTAB i g.ptab
  let s := ((s.put SE_GEN_BASE i g.base).put SE_GEN_LEN i g.len).put SE_GEN_ORIGIN i g.origin
  ((s.put SE_GEN_STEP i g.step).put SE_GEN_LINES i g.lines).put SE_GEN_LINES_CH i g.ch

/-- Show a core's pages: the active ones, what the loader found of them, and the chamber (02 R111; 04 R191, R192; 06 R291). -/
def State.showCore (s : State) (c : CoreId) : State :=
  let x := s.core c
  let s := (s.put SC_STATUS_PPAGE c.val x.ppage.val).put SC_STATUS_CPAGE c.val x.cpage.val
  let s := (s.put SC_PROG_LEN c.val x.active.len).put SC_STWR_DECL c.val x.active.stwr
  let s := (s.put SE_LOAD_TAPS c.val x.active.taps).put SE_LOAD_WINMAX c.val x.active.winmax
  let s := (s.putFlag UC_CORE_STATUS_CH_VERIFIED c.val x.chamber.verified).put UC_CORE_STATUS_CH_LEN c.val x.chamber.len
  let s := s.put UC_CORE_XF_XF_STWR c.val (if x.chamber.len = 0 then 0 else min 8191 (x.active.stwr + x.chamber.stwr))
  (List.range 16).foldl (fun s i => s.showGen (16 * c.val + i) (x.active.ptr.gens.getD i {})) s

/-! ## States of a group -/

def State.rgState (s : State) (g : GroupId) : Nat := s.reg SE_RG_STATUS_STATE g.val

/-- The state that MODE selects (02 R66, R68, R108). -/
def State.modeState (s : State) (g : GroupId) : Nat :=
  match s.reg SE_RG_CTL_MODE g.val with
  | 0 => 1
  | 1 => 2
  | _ => 3

/-- Length of a ramp: 64 samples, or 2^k of the SAFE_PASS gain ramp (02 R64, R88, R89). -/
def State.rampLen (s : State) (g : GroupId) (r : Ramp) : Nat := if r.safe then 2 ^ s.reg SE_RG_CTL_SAFE_RAMP g.val else 64

/-- The lowest-numbered member, which runs the pass-through program (02 R63; 18 R745). -/
def State.safeCore (s : State) (g : GroupId) : Option CoreId := (maskCores (s.reg SE_RG_STATUS_ACTIVE g.val)).head?

/-- SC_STATUS.STATE of a group's members (02 R63, R111). -/
def State.showMembers (s : State) (g : GroupId) : State :=
  let st := s.rgState g
  (maskCores (s.reg SE_RG_STATUS_ACTIVE g.val)).foldl (fun s c =>
    s.put SC_STATUS_STATE c.val
      (if st = 1 ∨ st = 4 then 1 else if st = 3 ∧ s.safeCore g = some c then 2 else 0)) s

/-- SE_RG_STATUS.RAMPING (02 R64). -/
def State.showRamp (s : State) (g : GroupId) : State := s.putFlag SE_RG_STATUS_RAMPING g.val (s.group g).ramp.isSome

/-- MUTE_CAUSE stays while the group is MUTED, and CORE_LOSS stays in OFF (02 R108, R808). -/
def causeAfter (st cause : Nat) : Nat := if st = 4 ∨ (st = 0 ∧ cause = 2) then cause else 0

/-- The group enters a state: the new output ramps up, where there is one (02 R63, R64). -/
def State.enterState (s : State) (g : GroupId) (st : Nat) : State :=
  let old := s.rgState g
  let s := (s.put SE_RG_STATUS_STATE g.val st).putMaskBit SE_STATUS_RG_ON g.val (st != 0)
  let s := s.put SE_RG_STATUS_MUTE_CAUSE g.val (causeAfter st (s.reg SE_RG_STATUS_MUTE_CAUSE g.val))
  let up : Option Ramp := if st = 1 then some { down := false } else if st = 3 then some { down := false, safe := true } else none
  let s := s.setGroup g { s.group g with ramp := up, target := none, silent := st == 4, holdRamp := false, frozenGain := none,
                                         startDue := st == 0 && s.flag SE_RG_CTL_RUN g.val }
  let s := (s.showMembers g).showRamp g
  if old = st then s else s.raise (20 + g.val)

/-- The factor index from which a ramp that has sent index `j` turns (02 R69, R70). -/
def turned (len j : Nat) : Nat := len + 1 - j

/-- The group's output starts to ramp down, from where a ramp-up stands (02 R67, R69). -/
def Group.rampDown (x : Group) (len : Nat) (safe : Bool) (target : Option Nat) : Group :=
  match x.ramp with
  | some r =>
    if r.down then { x with target := target }
    else { x with ramp := some { down := true, safe := r.safe, j := turned len r.j }, target := target }
  | none => { x with ramp := some { down := true, safe := safe }, target := target }

/-- The group enters MUTED with its ramp-down running from this tick (02 R72, R78, R108). -/
def State.muteNow (s : State) (g : GroupId) (cause : Nat) (x : Group) : State :=
  let s := (s.put SE_RG_STATUS_STATE g.val 4).put SE_RG_STATUS_MUTE_CAUSE g.val cause
  let s := s.setGroup g { x with target := none, silent := false, holdRamp := cause == 2 }
  ((s.showMembers g).showRamp g).raise (20 + g.val)

/-- The state of a group goes through one tick: ramps advance, turn and end, and the writes and mutes since the last tick take
effect (02 R64 to R72, R78, R89, R808; 14 R612). A mute out of SAFE_PASS follows its gain ramp (log entry 15). -/
def State.rampGo (s : State) (g : GroupId) : State :=
  let x := s.group g
  let st := s.rgState g
  let run := s.flag SE_RG_CTL_RUN g.val
  let want := s.modeState g
  let stop := x.stopReq
  let mute := x.pendMute.or (if x.muteReq then some 3 else none)
  let unmute := x.unmuteReq && s.reg SE_RG_STATUS_MUTE_CAUSE g.val != 2 && mute.isNone
  let clear (y : Group) : Group := { y with stopReq := false, muteReq := false, unmuteReq := false, pendMute := none }
  let setCause (s : State) (c : Nat) : State := s.put SE_RG_STATUS_MUTE_CAUSE g.val c
  let x := clear x
  match x.ramp with
  | some r =>
    let len := s.rampLen g r
    if r.down then
      let target := match x.target with
        | some 5 => some 5
        | some t => if stop || t == 0 then some 0 else if t == 4 then some 4 else some want
        | none => if stop then some 0 else none
      -- a mute during a ramp-down
      let toOff := target == some 0 || target == some 5
      let s := match mute with
        | some c =>
          if toOff then (if c = 2 then setCause s 2 else s)
          else if target == none || target == some 4 then (if c = 2 then setCause s 2 else s)
          else setCause s c
        | none => s
      let entersMuted := mute.isSome && !toOff && target != none && target != some 4
      if unmute && (target == none || target == some 4) then
        let s := (setCause s 0).put SE_RG_STATUS_CONSEC_LATE g.val 0
        if target == some 4 then
          (s.setGroup g { x with ramp := some { r with down := false, j := turned len r.j }, target := none }).showRamp g
        else
          let s := (s.setGroup g x).enterState g 1
          (s.setGroup g { s.group g with ramp := some { r with down := false, j := turned len r.j } }).showRamp g
      else if entersMuted && st == 2 then (s.setGroup g x).enterState g 4
      else if entersMuted && st == 1 then
        let y := if len ≤ r.j then { x with ramp := none } else { x with ramp := some { r with j := r.j + 1 } }
        let s := s.muteNow g (mute.getD 0) y
        if len ≤ r.j then s.setGroup g { s.group g with silent := true } else s
      else
        let target := if entersMuted then some 4 else target
        if len ≤ r.j then
          match target with
          | some t => (s.setGroup g { x with ramp := none }).enterState g t
          | none => (s.setGroup g { x with ramp := none, silent := true, holdRamp := false }).showRamp g
        else s.setGroup g { x with ramp := some { r with j := r.j + 1 }, target := target }
    else if stop then (s.setGroup g (x.rampDown len r.safe (some 0))).showRamp g
    else match mute with
      | some c =>
        if st == 1 then s.muteNow g c (x.rampDown len r.safe none)
        else (setCause s c).setGroup g (x.rampDown len r.safe (some 4))
      | none =>
        if run && want != st then s.setGroup g (x.rampDown len r.safe (some want))
        else if len ≤ r.j then (s.setGroup g { x with ramp := none }).showRamp g
        else s.setGroup g { x with ramp := some { r with j := r.j + 1 } }
  | none =>
    if st == 0 then
      let s := if mute == some 2 then setCause s 2 else s
      if run then
        if x.startDue then (s.setGroup g x).enterState g (if s.reg SE_RG_STATUS_MUTE_CAUSE g.val == 2 then 4 else want)
        else s.setGroup g { x with startDue := true }
      else s.setGroup g { x with startDue := false }
    else if st == 5 then
      if run then (if x.startDue then (s.setGroup g x).enterState g want else s.setGroup g { x with startDue := true }) else s.setGroup g x
    else if stop then
      let s := if mute == some 2 then setCause s 2 else s
      (s.setGroup g (x.rampDown 64 (st == 3) (some 0))).showRamp g
    else match mute with
      | some c =>
        if st == 4 then (if c = 2 then setCause s 2 else s).setGroup g x
        else if st == 2 then (setCause s c |>.setGroup g x).enterState g 4
        else if st == 3 then ((setCause s c).setGroup g (x.rampDown 64 true (some 4))).showRamp g
        else s.muteNow g c (x.rampDown 64 false none)
      | none =>
        if st == 4 then
          if unmute then
            ((setCause s 0).put SE_RG_STATUS_CONSEC_LATE g.val 0 |>.setGroup g x).enterState g 1
          else s.setGroup g x
        else if run && want != st then (s.setGroup g (x.rampDown 64 (st == 3) (some want))).showRamp g
        else s.setGroup g x

/-- G: the signed Q1.23 value of SE_RG_SAFE_GAIN (02 R88, R108). -/
def State.safeG (s : State) (g : GroupId) : Int := (BitVec.ofNat 24 (s.reg SE_RG_SAFE_GAIN g.val)).toInt

/-- The gain of SAFE_PASS for the sample begun at the last tick (02 R88, R89, R64). -/
def State.safeGain (s : State) (g : GroupId) : Int :=
  let k := s.reg SE_RG_CTL_SAFE_RAMP g.val
  match (s.group g).frozenGain, (s.group g).ramp with
  | some v, _ => v
  | none, some r => if r.safe then s.safeG g * (if r.down then 2 ^ k - r.j else min r.j (2 ^ k) : Nat) / 2 ^ k else s.safeG g
  | none, none => s.safeG g

/-- At a tick of a group for which a partial load waits: the output ramps down towards LOADING, which OFF enters at once (14 R612). -/
def State.waitTick (s : State) (g : GroupId) : State :=
  let x := { s.group g with stopReq := false, muteReq := false, unmuteReq := false, pendMute := none }
  let st := s.rgState g
  if st == 0 then (s.setGroup g { x with ramp := none }).enterState g 5
  else match x.ramp with
    | some r =>
      if r.down then (s.setGroup g { x with target := some 5 }).rampGo g
      else (s.setGroup g (x.rampDown (s.rampLen g r) r.safe (some 5))).showRamp g
    | none => (s.setGroup g (x.rampDown 64 (st == 3) (some 5))).showRamp g

/-- At a tick of a group under a warm reset: the egress ramps down over 64 samples to OFF; a gain ramp of SAFE_PASS stops at its
present gain (19 R762; 02 R64). -/
def State.warmTick (s : State) (g : GroupId) : State :=
  let x := { s.group g with stopReq := false, muteReq := false, unmuteReq := false, pendMute := none }
  let st := s.rgState g
  let freeze : Group := { x with frozenGain := some (s.safeGain g), ramp := some { down := true }, target := some 0 }
  match x.ramp with
  | some r =>
    if r.safe then (s.setGroup g freeze).showRamp g
    else if r.down then (s.setGroup g { x with target := some 0 }).rampGo g
    else (s.setGroup g (x.rampDown 64 false (some 0))).showRamp g
  | none => (s.setGroup g (if st == 3 then freeze else x.rampDown 64 false (some 0))).showRamp g

/-- The state of a group goes through one tick; a group that is OFF stays so during a warm reset and a sleep entry (17 R727;
19 R762). -/
def State.rampTick (s : State) (g : GroupId) : State :=
  let st := s.rgState g
  if (s.group g).waitRamp && st != 5 then s.waitTick g
  else if s.power.warm && st != 5 then (if st = 0 then s else s.warmTick g)
  else if s.power.entry.isSome && st == 0 then s
  else s.rampGo g

/-- A ramp of the media clock starts, goes through one tick, or ends (13 R573, R579, R583). -/
def State.gateTick (s : State) (g : GroupId) : State :=
  let x := s.group g
  match x.gateReq with
  | some (down, t) =>
    if t ≤ s.tim then s.setGroup g { x with gate := some { down := down }, gated := false, gateReq := none } else s
  | none =>
    match x.gate with
    | none => s
    | some r =>
      if 64 ≤ r.j then s.setGroup g { x with gate := none, gated := r.down }
      else s.setGroup g { x with gate := some { r with j := r.j + 1 } }

/-- A step of the coming tick is made already. -/
def State.marked (s : State) (g : GroupId) (p : TickPart) : Bool := (s.group g).marks.contains p

def State.mark (s : State) (g : GroupId) (p : TickPart) : State :=
  s.setGroup g { s.group g with marks := p :: (s.group g).marks }

/-- Make one step of the coming tick, once. -/
def State.part (s : State) (g : GroupId) (p : TickPart) (f : State → State) : State := if s.marked g p then s else (f s).mark g p

/-- The group sends 0 on every egress channel, ramps apart (02 R63, R93). -/
def State.sendsZero (s : State) (g : GroupId) : Bool :=
  let st := s.rgState g
  st == 0 || st == 2 || st == 5 || (s.group g).silent || (s.group g).gated

/-- A value after a 64-sample ramp (02 R65). -/
def ramp64 (r : Option Ramp) (x : Word) : Word :=
  match r with
  | some r => if r.safe then x else rampWord x (if r.down then 64 - r.j else r.j) 6
  | none => x

/-- A value after the dip of a CUT (06 R269). -/
def dipWord (d : Option Dip) (x : Word) : Word :=
  match d with
  | some d => rampWord x (if d.down then 2 ^ (d.m - 1) - d.j else d.j) (d.m - 1)
  | none => x

/-- The value of an egress word after zeroing and ramps; `mapped` says that the channel is in the pass map. The dip of a CUT
comes first, then the ramp of R65 (02 R63 to R65; 06 R270; 09 R399 steps 3 and 4). -/
def OutMode.apply (o : OutMode) (mapped : Bool) (x : Word) : Word :=
  if o.zero || (o.safe && !mapped) then 0 else ramp64 o.gate (ramp64 o.ramp (dipWord o.dip x))

/-- One output of SAFE_PASS and whether it was clamped (02 R88). -/
def safeOut (x : Word) (g : Int) : Word × Bool :=
  let y := (x.toInt / 256 * g + 2 ^ 22) / 2 ^ 23
  let c := if 2 ^ 23 - 1 < y then 2 ^ 23 - 1 else if y < -(2 ^ 23) then -(2 ^ 23) else y
  (BitVec.ofInt 32 (c * 256), y != c)

end Sys2Proof.Machine
end

