-- ==== Sys2Proof/Machine/Levels.lean ====
section
/-!
DEFINITION. The performance level: its request, the vote on it, and a change (17 R712 to R716).
-/

namespace Sys2Proof.Machine

open Sys2Proof

/-- Every group's vote accepts a level (01 R33). -/
def State.levelOk (s : State) (pl : Nat) : Bool := (List.finRange 4).all fun g => s.groupAccepts g pl

/-- The slowest level that every vote accepts; the present one where none is slower (17 R714). -/
def State.slowest (s : State) : Nat :=
  ([5, 4, 3, 2, 1, 0].find? fun pl => decide (s.pl < pl) && s.levelOk pl).getD s.pl

/-- The requested level and its source: 0 host, 1 MGT, 2 brownout (17 R713). -/
def State.plWanted (s : State) : Nat × Nat :=
  if s.flag PWR_STATUS_BO_WARN && s.flag PWR_CFG_BO_DROP then (s.slowest, 2)
  else if s.flag PWR_PL_MGT_EN then (s.reg PWR_PL_MGT_LEVEL, 1)
  else (s.reg PWR_PL_REQ_LEVEL, 0)

/-- The request is voted on: a change starts, or it is refused (17 R712, R713, R715). -/
def State.plEval (s : State) : State :=
  let (t, src) := s.plWanted
  let s := (s.put PWR_PL_STATUS_TARGET 0 t).put PWR_PL_STATUS_SOURCE 0 src
  if s.flag PWR_STATUS_PL_BUSY || t == s.pl || s.power.entry.isSome then s
  else match (List.finRange 4).find? fun g => !s.groupAccepts g t with
    | some g =>
      let s := (s.putFlag PWR_PL_STATUS_REFUSED 0 true).put PWR_PL_STATUS_REFUSER 0 (2 + g.val)
      (s.count PWR_REFUSE_CNT).raise 115
    | none => { s.putFlag PWR_STATUS_PL_BUSY 0 true with power := { s.power with change := some t } }

/-- A refused request is tried again when the declared minimum of a group has fallen since `old` (17 R715). -/
def State.plRetry (s : State) (old : State) : State :=
  if (List.finRange 4).any fun g => decide (s.groupDecl g s.pl < old.groupDecl g s.pl) then s.plEval else s

/-- A change of level ends (17 R712, R715); a request that came meanwhile is taken up. -/
def State.plComplete (s : State) : State :=
  match s.power.change with
  | none => s
  | some t =>
    let s : State := { s with power := { s.power with change := none } }
    let s := (s.putFlag PWR_STATUS_PL_BUSY 0 false).put PWR_PL_STATUS_CUR 0 t
    (s.showBudgets.raise 115).plEval

end Sys2Proof.Machine
end

