-- ==== Sys2Proof/Machine/Chamber.lean ====
section
/-!
DEFINITION. The update chamber: chamber writes, sluices, glides, morphs, chamber sync and the commit journal (chapter 06).
-/

namespace Sys2Proof.Machine

open Sys2Proof

/-- A core and its spare, which receives everything its primary does (02 R97). -/
def State.withSpare (s : State) (c : CoreId) : List CoreId :=
  match s.spareOf c with
  | some t => [c, t]
  | none => [c]

/-- A word of a coefficient page of a core. -/
def Core.setCoef (x : Core) (page : Fin 2) (w : Half) (v : Word) : Core :=
  { x with coef := x.coef.set page (memSetWord x.coef[page] w.toNat v) }

/-! ## Commit journal (06 R282 to R287) -/

/-- Entries that the journal region holds at most (06 R282, R283). -/
def State.jnlCap (s : State) : Nat := 128 * s.reg UC_JNL_CFG_SIZE

def State.jnlBank (s : State) : BankId := Fin.ofNat 16 (s.reg UC_JNL_CFG_BANK)

/-- Append an entry: word 1 before word 0; the entry that fills the journal sets FULL (06 R283, R284; log entry 16). -/
def State.jnlAppend (s : State) (type low : Nat) (word1 : Nat) : State :=
  let n := s.reg UC_JNL_STATUS_ENTRIES
  if !s.flag UC_CTL_JNL_EN || s.jnlClearing || decide (s.jnlCap ≤ n) then s
  else
    let w := s.reg UC_JNL_BASE + 2 * n
    let s := s.writeAs 19 s.jnlBank (w + 1) (BitVec.ofNat 32 word1)
    let s := s.writeAs 19 s.jnlBank w (BitVec.ofNat 32 (type * 2 ^ 28 + low % 2 ^ 28))
    let s := s.put UC_JNL_STATUS_ENTRIES 0 (n + 1)
    if n + 1 = s.jnlCap then (s.putFlag UC_JNL_STATUS_FULL 0 true).raise 30 else s

/-- A write of CLEAR starts to zero the journal region (06 R284). -/
def State.journalClear (s : State) : State := { s with jnlClearing := s.jnlClearing || s.reg UC_JNL_CFG_SIZE != 0 }

/-- Zero the first `n` words of the journal region (06 R284, R287). -/
def State.jnlZero (s : State) (n : Nat) : State :=
  (List.range n).foldl (fun s i => s.writeAs 19 s.jnlBank (s.reg UC_JNL_BASE + i) 0) s

/-- The clear completes (06 R284). -/
def State.journalClearComplete (s : State) : State :=
  if s.jnlClearing then
    let s := { s.jnlZero (256 * s.reg UC_JNL_CFG_SIZE) with jnlClearing := false }
    (s.put UC_JNL_STATUS_ENTRIES 0 0).putFlag UC_JNL_STATUS_FULL 0 false
  else s

/-- The entries of the journal, up to the first whose TYPE is 0 (06 R285); words that MGT may not read are 0. -/
def State.jnlRead (s : State) : Nat → Nat → List (Nat × Nat × Word)
  | 0, _ => []
  | fuel + 1, i =>
    let w0 := (s.readAs 19 s.jnlBank (s.reg UC_JNL_BASE + 2 * i)).1.toNat
    let w1 := (s.readAs 19 s.jnlBank (s.reg UC_JNL_BASE + 2 * i + 1)).1
    if w0 / 2 ^ 28 = 0 then [] else (w0 / 2 ^ 28, w0 % 2 ^ 28, w1) :: s.jnlRead fuel (i + 1)

/-- Replay of one core's entries: the core and its pending words (06 R285). -/
def replayCore (c : CoreId) (x : Core) (pend : List (Half × Word)) : List (Nat × Nat × Word) → Core × List (Half × Word)
  | [] => (x, pend)
  | (ty, low, v) :: t =>
    if ty = 1 ∧ low / 2 ^ 24 % 16 = c.val then replayCore c x (pend ++ [(BitVec.ofNat 16 low, v)]) t
    else if ty = 2 ∧ low.testBit c.val then
      replayCore c (pend.foldl (fun x p => x.setCoef x.cpage p.1 p.2) x) [] t
    else if ty = 3 ∧ low / 2 ^ 24 % 16 = c.val then replayCore c (x.setCoef x.cpage (BitVec.ofNat 16 low) v) pend t
    else replayCore c x pend t

/-- At the end the chamber page equals the active page and takes the words still pending (06 R285). -/
def replayEnd (r : Core × List (Half × Word)) : Core :=
  let x := r.1
  r.2.foldl (fun x p => x.setCoef (other x.cpage) p.1 p.2) { x with coef := x.coef.set (other x.cpage) x.coef[x.cpage] }

/-- The replay, after a load of the core memories from the stored bitstream with the journal bank kept (06 R285, R286). -/
def State.journalReplay (s : State) : State :=
  if !s.replayDue then s
  else
    let es := s.jnlRead s.jnlCap 0
    let skip := (es.filter fun e => e.1 = 4 ∨ e.1 = 5).foldl (fun m e => m ||| (e.2.1 % 65536)) 0
    let s := (List.finRange 16).foldl (fun (s : State) c =>
      if skip.testBit c.val then s
      else
        let y := replayEnd (replayCore c (s.core c) [] es)
        if es.any (fun e => (e.1 = 2 ∧ e.2.1.testBit c.val) ∨ ((e.1 = 1 ∨ e.1 = 3) ∧ e.2.1 / 2 ^ 24 % 16 = c.val)) then
          (s.withSpare c).foldl (fun s t => s.setCore t { s.core t with coef := y.coef }) s
        else s) s
    let s := (s.put UC_JNL_STATUS_ENTRIES 0 es.length).put UC_JNL_STATUS_SKIP 0 skip
    let s := s.putFlag UC_JNL_STATUS_FULL 0 (es.length == s.jnlCap && s.jnlCap != 0)
    { (if skip = 0 then s else s.raise 30) with replayDue := false }

/-! ## Chamber access (06 R242 to R246) -/

/-- The group's morph is a crossfade under way (06 R271). -/
def State.crossfading (s : State) (g : GroupId) : Bool := s.reg UC_SL_STATUS_STATE g.val == 3

/-- A core is named by a crossfade under way. -/
def State.inCrossfade (s : State) (c : CoreId) : Bool :=
  (List.finRange 4).any fun g => s.crossfading g && (match s.sluices[g] with
    | some u => (u.cores ||| u.heirs).testBit c.val
    | none => false)

/-- INDEX advances after an access (06 R244). -/
def State.autoInc (s : State) : State :=
  if s.flag UC_CW_ADDR_AUTOINC then s.put UC_CW_ADDR_INDEX 0 ((s.reg UC_CW_ADDR_INDEX + 1) % 65536) else s

/-- A chamber write that does not wait (06 R242, R243, R283). -/
def State.chamberWriteNow (s : State) (v : Word) : State :=
  let cores := s.reg UC_CW_SEL_CORES
  let w := BitVec.ofNat 16 (s.reg UC_CW_ADDR_INDEX)
  let bad := s.flag UC_CW_SEL_PAGE || (maskCores cores).any s.inCrossfade
  let s := if cores = 0 then s.putFlag UC_CW_STATUS_NO_CORE 0 true else s
  let s :=
    if bad then (s.putFlag UC_CW_STATUS_DISCARD 0 true).raise 31
    else
      (maskCores cores).foldl (fun (s : State) c =>
        let s := (s.withSpare c).foldl (fun (s : State) t => s.setCore t ((s.core t).setCoef (other (s.core t).cpage) w v)) s
        s.jnlAppend 0x1 (c.val * 2 ^ 24 + w.toNat) v.toNat) s
  s.autoInc

/-- An access waits while the chamber sync of a named core runs (06 R245). -/
def State.chamberBusy (s : State) (cores : Nat) : Bool := (maskCores cores).any fun c => (s.core c).sync.isSome

/-- Host byte address of UC_CW_DATA (06 R289). -/
def cwDataAddr : Nat := 0x040018

/-- A write to UC_CW_DATA (06 R242, R245). -/
def State.chamberWrite (s : State) (v : Word) : State :=
  if !s.flag UC_CW_SEL_PAGE && s.chamberBusy (s.reg UC_CW_SEL_CORES) then
    { s with hostBus := s.hostBus ++ [{ write := true, addr := cwDataAddr, data := v }] }
  else s.chamberWriteNow v

/-- The word that a read of UC_CW_DATA returns; with no core selected the specification names none (06 R244; log entry 17). -/
def State.chamberReadNow (s : State) : Word × State :=
  match (maskCores (s.reg UC_CW_SEL_CORES)).head? with
  | some c =>
    let x := s.core c
    (memWord x.coef[if s.flag UC_CW_SEL_PAGE then x.cpage else other x.cpage] (s.reg UC_CW_ADDR_INDEX), s.autoInc)
  | none => (s.chooseWord.1, s.chooseWord.2.autoInc)

/-- The mask of the core that a read of UC_CW_DATA reads, when it reads a chamber. -/
def State.readCore (s : State) : Nat :=
  if s.flag UC_CW_SEL_PAGE then 0 else match (maskCores (s.reg UC_CW_SEL_CORES)).head? with
    | some c => 2 ^ c.val
    | none => 0

/-- A read of UC_CW_DATA (06 R244, R245). -/
def State.chamberRead (s : State) : State :=
  if s.chamberBusy s.readCore then { s with hostBus := s.hostBus ++ [{ write := false, addr := cwDataAddr }] }
  else { s.chamberReadNow.2 with hostOut := [s.chamberReadNow.1] }

/-! ## Sluices (06 R247 to R255) -/

/-- Memory cycles in 200 ns (06 R249). -/
def cycles200ns : Nat := 120

/-- ceil(T * fs) for a time of whole nanoseconds (06 R248). -/
def ceilTick (sec ns fs : Nat) : Nat := ((sec * 1000000000 + ns) * fs + 999999999) / 1000000000

/-- The last tick begun lies at or after the tick that T names (06 R247 PAST, R248, R254). -/
def State.timePast (s : State) (g : GroupId) (sec ns : Nat) : Bool :=
  let x := s.group g
  x.begun && (if s.tickFromTime g then decide (ceilTick sec ns (s.fs g) ≤ x.n)
    else decide ((sec * 1000000000 + ns) * timPerNs ≤ x.tickTim))

/-- Tick `n` at the present counter time is the effect tick that T names: `some true`; it lies behind that tick: `some false`. -/
def State.timeDue (s : State) (g : GroupId) (n sec ns : Nat) : Option Bool :=
  if s.tickFromTime g then
    let a := ceilTick sec ns (s.fs g)
    if n < a then none else some (n == a)
  else if (sec * 1000000000 + ns) * timPerNs ≤ s.tim then some true else none

def State.setSluice (s : State) (g : GroupId) (u : Option Sluice) : State := { s with sluices := s.sluices.set g u }

/-- STATE of a slot, with the summary bits of UC_STATUS (06 R289, R290). -/
def State.slotState (s : State) (g : GroupId) (st : Nat) : State :=
  ((s.put UC_SL_STATUS_STATE g.val st).putMaskBit UC_STATUS_SL_ARMED g.val (st == 1)).putMaskBit UC_STATUS_MORPHING g.val (2 ≤ st)

/-- A sluice is refused (06 R247). The slot that refused an arm because it is busy stays as it is. -/
def State.sluiceRefuse (s : State) (g : GroupId) (cause : Nat) : State :=
  let s := (s.put UC_SL_STATUS_RESULT g.val 2).put UC_SL_STATUS_CAUSE g.val cause
  (s.count UC_SL_REFUSE_CNT g.val).raise 25

/-- The fields of an arm (06 R290). -/
def State.sluiceFields (s : State) (g : GroupId) : Sluice :=
  let mode := s.reg UC_SL_CFG_MODE g.val
  { cores := s.reg UC_SL_CFG_CORES g.val, pages := s.reg UC_SL_CFG_PAGES g.val, morph := s.reg UC_SL_CFG_MORPH g.val,
    m := s.reg UC_SL_CFG_MEXP g.val, mode := mode, glides := s.flag UC_SL_CFG_GLIDES g.val,
    journal := s.flag UC_SL_CFG_JOURNAL g.val, id := s.reg UC_SL_ID g.val,
    at_ := if mode = 1 then some (s.reg64 UC_SL_TIME_SEC_LO UC_SL_TIME_SEC_HI g.val, s.reg UC_SL_TIME_NS g.val) else none,
    since := s.cycles }

/-- Parameters of an arm that contradict each other (06 R247 PARAM). -/
def Sluice.badParam (u : Sluice) : Bool :=
  (u.cores == 0 && u.pages != 0) || (u.morph == 1 && !(decide (1 ≤ u.m) && decide (u.m ≤ 13)))
    || (u.morph == 2 && (!(decide (4 ≤ u.m) && decide (u.m ≤ 14)) || !u.pages.testBit 1))

/-- Programs of the group's members with the chamber program in place where the sluice names a core (06 R247 LOAD). -/
def State.progsAfter (s : State) (g : GroupId) (u : Sluice) : List (List Nat) :=
  (maskCores (s.reg SE_RG_STATUS_ACTIVE g.val)).map fun c =>
    let x := s.core c
    s.charges (if u.cores.testBit c.val then x.chamber else x.active)

/-- The first check that refuses an arm, as its CAUSE (06 R247). -/
def State.sluiceCause (s : State) (g : GroupId) (u : Sluice) : Option Nat :=
  let cores := maskCores u.cores
  let rate := s.reg SE_RG_CFG_RATE g.val
  let decl := ((maskCores (s.reg SE_RG_STATUS_ACTIVE g.val)).map fun c => (s.core c).declWith (some u) c rate s.pl).foldl max 0
  if s.reg UC_SL_STATUS_STATE g.val != 0 then some 0x1
  else if u.badParam then some 0x2
  else if cores.any (fun c => !s.maskBit SE_RG_STATUS_ACTIVE c.val g.val) || s.rgState g == 5 then some 0x3
  else if u.pages != 0 && cores.any (fun c => (s.core c).sync.isSome) then some 0x4
  else if u.pages.testBit 1 && cores.any (fun c => !s.flag UC_CORE_STATUS_CH_VERIFIED c.val) then some 0x5
  else if s.flag PWR_STATUS_PL_BUSY || decide (budgetOf rate s.pl < decl) then some 0x6
  else if u.pages.testBit 1 && !s.bankLoadsOk (fun h => if h = g then some (s.progsAfter g u) else none) then some 0x7
  else if u.morph == 2 && cores.any (fun c => !s.flag UC_CORE_STATUS_XF_OK c.val) then some 0x8
  else match u.at_ with
    | some (sec, ns) => if s.timePast g sec ns then some 0x9 else none
    | none => none

/-- A write of ARM without CANCEL (06 R247). -/
def State.sluiceArm (s : State) (g : GroupId) : State :=
  let u := s.sluiceFields g
  match s.sluiceCause g u with
  | some cause => s.sluiceRefuse g cause
  | none =>
    (((s.setSluice g (some u)).slotState g 1).put UC_SL_STATUS_RESULT g.val 0 |>.put UC_SL_STATUS_CAUSE g.val 0).showBudgets

/-- The slot returns to IDLE. -/
def State.sluiceIdle (s : State) (g : GroupId) : State := (((s.setSluice g none).slotState g 0).showBudgets).plRetry s

/-- An armed sluice is cancelled (06 R252, R281). -/
def State.sluiceDrop (s : State) (g : GroupId) (cause : Nat) : State :=
  if s.reg UC_SL_STATUS_STATE g.val = 1 then
    ((s.sluiceIdle g).put UC_SL_STATUS_RESULT g.val 3).put UC_SL_STATUS_CAUSE g.val cause
  else s

/-- Memory cycles to the ideal time of tick `a`, for a group that ticks by the counter. -/
def State.cyclesTo (s : State) (g : GroupId) (a : Nat) : Nat :=
  (a * timPerSec / max 1 (s.fs g) - s.tim) / (5 * 2 ^ 48)

/-- The effect tick of an armed sluice lies within 200 ns, as far as it can be told (06 R252). -/
def State.nearEffect (s : State) (g : GroupId) (u : Sluice) : Bool :=
  match u.at_ with
  | some (sec, ns) =>
    if s.tickFromTime g then decide (s.cyclesTo g (ceilTick sec ns (s.fs g)) ≤ cycles200ns)
    else decide ((sec * 1000000000 + ns) * timPerNs ≤ s.tim + 200 * timPerNs)
  | none => u.mode == 0 && (!s.tickFromTime g || decide (s.cyclesTo g ((s.group g).n + 1) ≤ cycles200ns))

/-- A write of CANCEL without ARM: within 200 ns of tick a it may fail (06 R252). -/
def State.sluiceCancel (s : State) (g : GroupId) : State :=
  match s.sluices[g] with
  | some u =>
    if s.reg UC_SL_STATUS_STATE g.val = 1 then
      if s.nearEffect g u then
        let (ok, s) := s.chooseBool
        if ok then s.sluiceDrop g 0 else s
      else s.sluiceDrop g 0
    else s
  | none => s

/-- A broadcast with identifier and time reaches the slots (06 R254). -/
def State.broadcast (s : State) (id sec ns : Nat) : State :=
  let hit (s : State) (g : GroupId) : Bool := s.reg UC_SL_STATUS_STATE g.val == 1 && (match s.sluices[g] with
    | some u => u.mode == 2 && u.at_ == none && u.id == id
    | none => false)
  if (List.finRange 4).any (hit s) then
    (List.finRange 4).foldl (fun (s : State) g =>
      if hit s g then
        match s.sluices[g] with
        | some u =>
          if s.timePast g sec ns then (s.sluiceIdle g).sluiceRefuse g 0x9
          else s.setSluice g (some { u with at_ := some (sec, ns), since := s.cycles })
        | none => s
      else s) s
  else (s.count UC_BC_MISS_CNT).raise 29

/-! ## Page swaps (06 R255 to R259, R267, R275) -/

/-- A core swaps pages; a program swap applies and empties its state-initialisation list (06 R255 to R259). Running glides on a
coefficient page that becomes the chamber end with their present values (R267). -/
def Core.swap (x : Core) (prog coef : Bool) : Core :=
  let x := if prog then
      { x with ppage := other x.ppage, chInit := [],
               state := x.chInit.foldl (fun m p => memSetWord m p.1.toNat p.2) x.state }
    else x
  if coef then
    { x with cpage := other x.cpage,
             glides := x.glides.filter fun e => match e.run with
               | some r => r.page != x.cpage
               | none => true }
  else x

/-- Counts of running and staged glides (06 R291). -/
def State.showGlides (s : State) (c : CoreId) : State :=
  let l := (s.core c).glides
  (s.put UC_CORE_STATUS_GL_RUN c.val (l.filter fun e => e.run.isSome).length).put UC_CORE_GL_STAGED c.val
    (l.filter fun e => e.run.isNone).length

/-- A core's chamber sync starts (06 R277, R278). -/
def State.startSync (s : State) (g : GroupId) (n : Nat) (c : CoreId) (pages : Nat) : State :=
  let s := s.setCore c { s.core c with sync := some { prog := pages.testBit 1, coef := pages.testBit 0, group := g, n := n } }
  (s.putFlag UC_CORE_STATUS_SYNC_BUSY c.val true).putMaskBit UC_STATUS_SYNC_BUSY c.val true

/-- The named cores and their spares swap pages; sync starts with SYNC_MODE = AUTO; the journal takes its entries in the order
COMMIT, PROGRAM, UNTRACKED (06 R255, R277, R283; log entry 16). -/
def State.swapPages (s : State) (g : GroupId) (n : Nat) (u : Sluice) : State :=
  let s := (maskCores (u.cores ||| u.heirs)).foldl (fun (s : State) c =>
    (s.withSpare c).foldl (fun (s : State) t =>
      let s := s.setCore t ((s.core t).swap (u.pages.testBit 1) (u.pages.testBit 0))
      let s := if u.pages.testBit 1 then s.putFlag UC_CORE_STATUS_XF_OK t.val false else s
      let s := if u.pages != 0 && !s.flag UC_CTL_SYNC_MODE then s.startSync g n t u.pages else s
      (s.showCore t).showGlides t) s) s
  let s := if u.pages.testBit 0 && u.journal then s.jnlAppend 0x2 u.cores (u.a % 2 ^ 32) else s
  let s := if u.pages.testBit 1 then s.jnlAppend 0x4 u.cores (u.a % 2 ^ 32) else s
  if u.pages.testBit 0 && s.flag UC_CTL_SYNC_MODE then s.jnlAppend 0x5 u.cores (u.a % 2 ^ 32) else s

/-- A sluice is applied at tick `a`: result, effect index, count and event (06 R249, R255). -/
def State.sluiceDone (s : State) (g : GroupId) (a : Nat) : State :=
  let s := (s.put64 UC_SL_EFF_LO UC_SL_EFF_HI g.val a).put UC_SL_STATUS_RESULT g.val 1
  (s.count UC_SL_COUNT g.val).raise 24

/-- The sluice takes effect at tick `a` (06 R250, R255, R269, R273). -/
def State.sluiceEffect (s : State) (g : GroupId) (a : Nat) (u : Sluice) : State :=
  let u := { u with a := a }
  let st := s.rgState g
  let plain := st == 0 || st == 2 || st == 3
  if u.morph = 0 ∨ plain then
    let s := if u.morph = 0 then s else s.putFlag UC_SL_STATUS_DEGRADED g.val true
    ((s.swapPages g a u).sluiceDone g a).sluiceIdle g
  else
    let s := ((s.putFlag UC_SL_STATUS_DEGRADED g.val false).setSluice g (some u)).slotState g (if u.morph = 1 then 2 else 3)
    let s := if u.morph = 2 then
        (maskCores (u.cores ||| u.heirs)).foldl (fun (s : State) c => (s.withSpare c).foldl (fun (s : State) t =>
          let x := s.core t
          s.setCore t { x with state := x.chInit.foldl (fun m p => memSetWord m p.1.toNat p.2) x.state, chInit := [] }) s) s
      else s
    s.sluiceDone g a

/-- A morph under way at tick `n`: the swap of a CUT at a + H, its end at a + 2H, the end of a crossfade at a + M
(06 R269, R270, R275). -/
def State.morphTick (s : State) (g : GroupId) (n : Nat) (u : Sluice) : State :=
  if s.reg UC_SL_STATUS_STATE g.val = 2 then
    let h := 2 ^ (u.m - 1)
    let s := if u.a + h ≤ n ∧ !u.swapped then (s.swapPages g n u).setSluice g (some { u with swapped := true }) else s
    if u.a + 2 * h ≤ n then (s.sluiceIdle g).raise 26 else s
  else if s.reg UC_SL_STATUS_STATE g.val = 3 then
    if u.a + 2 ^ u.m ≤ n then ((s.swapPages g n u).sluiceIdle g).raise 26 else s
  else s

/-- The slot of a group at tick `n`: an armed sluice that is due applies, one whose tick was passed over is refused, and a morph
goes on (06 R248 to R255; 12 R515). The result tells whether a sluice with GLIDES = 1 applied. -/
def State.sluiceTick (s : State) (g : GroupId) (n : Nat) : Bool × State :=
  match s.sluices[g] with
  | none => (false, s)
  | some u =>
    if s.reg UC_SL_STATUS_STATE g.val != 1 then (false, s.morphTick g n u)
    else
      let young := decide (s.cycles ≤ u.since + cycles200ns)
      let stepped := (s.group g).stepped && s.tickFromTime g
      match u.at_ with
      | some (sec, ns) =>
        match s.timeDue g n sec ns with
        | none => (false, s)
        | some false => (false, (s.sluiceIdle g).sluiceRefuse g 0x9)
        | some true =>
          if stepped then (false, (s.sluiceIdle g).sluiceRefuse g 0x9)
          else if young then
            let (ok, s) := s.chooseBool
            if ok then (u.glides, s.sluiceEffect g n u) else (false, (s.sluiceIdle g).sluiceRefuse g 0x9)
          else (u.glides, s.sluiceEffect g n u)
      | none =>
        if u.mode != 0 then (false, s)
        else if stepped then (false, (s.sluiceIdle g).sluiceRefuse g 0x9)
        else if young then
          let (ok, s) := s.chooseBool
          if ok then (u.glides, s.sluiceEffect g n u) else (false, s)
        else (u.glides, s.sluiceEffect g n u)

/-- Factor of the dip of a CUT for sample `n` (06 R269). -/
def State.dipOf (s : State) (g : GroupId) (n : Nat) : Option Dip :=
  match s.sluices[g] with
  | some u =>
    if s.reg UC_SL_STATUS_STATE g.val = 2 then
      let h := 2 ^ (u.m - 1)
      some (if n < u.a + h then { down := true, j := n + 1 - u.a, m := u.m } else { down := false, j := n + 1 - u.a - h, m := u.m })
    else none
  | none => none

/-! ## Glides (06 R260 to R268, R280) -/

/-- The m-th gain of the log law with exact arithmetic: the nearest whole number to m0 * (mt / m0)^(j / 2^k), by halving. -/
def gainRoot (m0 mt k j : Nat) : Nat :=
  let d := 2 ^ k
  let rhs := 2 ^ d * m0 ^ (d - j) * mt ^ j
  let rec go (fuel lo hi : Nat) : Nat :=
    match fuel with
    | 0 => lo
    | f + 1 => if hi ≤ lo + 1 then lo else
      let mid := (lo + hi) / 2
      if (2 * mid - 1) ^ d ≤ rhs then go f mid hi else go f lo mid
  go 33 (min m0 mt) (max m0 mt + 1)

/-- `v` is the rounding of a value within the relative error 2^-24 of m0 * (mt / m0)^(j / 2^k) (06 R263). -/
def gainFits (m0 mt k j v : Nat) : Bool :=
  let d := 2 ^ k
  let x := 2 ^ d * m0 ^ (d - j) * mt ^ j
  decide ((2 * v - 1) ^ d * 2 ^ (24 * d) ≤ (2 ^ 24 + 1) ^ d * x) && decide ((2 ^ 24 - 1) ^ d * x ≤ (2 * v + 1) ^ d * 2 ^ (24 * d))

/-- One value of the log-gain law: the device's own within the error that the specification allows (06 R262, R263; log
entry 18). -/
def logGain (m0 mt k j : Nat) : Nat :=
  if gainFits m0 mt k j (Config.logGainStep m0 mt k j) then Config.logGainStep m0 mt k j else gainRoot m0 mt k j

/-- w_j of a glide, j = 1 to 2^k (06 R262). -/
def glideWord (log : Bool) (w0 t : Word) (k j : Nat) : Word :=
  if 2 ^ k ≤ j then t
  else if log then
    if w0 = 0 ∧ t = 0 then 0
    else
      let m0 := max w0.toInt.natAbs (2 ^ 11)
      let mt := max t.toInt.natAbs (2 ^ 11)
      let neg := if w0 = 0 then decide (t.toInt < 0) else decide (w0.toInt < 0)
      let v : Int := logGain m0 mt k j
      BitVec.ofInt 32 (if neg then -v else v)
  else BitVec.ofInt 32 (w0.toInt + (t.toInt - w0.toInt) * j / 2 ^ k)

/-- A log glide between values of opposite signs runs linear (06 R263). -/
def fallsBack (e : Glide) (w0 : Word) : Bool :=
  e.log && w0 != 0 && e.target != 0 && (decide (w0.toInt < 0) != decide (e.target.toInt < 0))

/-- Write a step; the last one also goes to the chamber page with SYNC_MODE = AUTO (06 R264, R265). -/
def Core.glideWrite (x : Core) (auto : Bool) (e : Glide) (r : GlideRun) : Core :=
  let last := decide (2 ^ e.k ≤ r.j)
  let y := x.setCoef r.page e.word (glideWord e.log r.w0 e.target e.k r.j)
  if last && auto then y.setCoef (other y.cpage) e.word e.target else y

/-- What one tick does to a core's glides. -/
structure GlideResult where
  core : Core
  ended : Nat := 0
  started : List Glide := []
  fellBack : Bool := false

/-- A running glide makes its next step, unless it started at this tick (06 R262, R264, R268). -/
def glideStep (auto : Bool) (n : Nat) (r : GlideResult) (e : Glide) : GlideResult :=
  match e.run with
  | none => { r with core := { r.core with glides := r.core.glides ++ [e] } }
  | some u =>
    if u.start = n then { r with core := { r.core with glides := r.core.glides ++ [e] } }
    else
      let u := { u with j := u.j + 1 }
      let x := r.core.glideWrite auto e u
      if 2 ^ e.k ≤ u.j then { r with core := x, ended := r.ended + 1 }
      else { r with core := { x with glides := x.glides ++ [{ e with run := some u }] } }

/-- A staged glide starts: sample n reads w_1 (06 R262). -/
def glideBegin (auto : Bool) (n : Nat) (page : Fin 2) (r : GlideResult) (e : Glide) : GlideResult :=
  let w0 := memWord r.core.coef[page] e.word.toNat
  let fb := fallsBack e w0
  let e := { e with log := e.log && !fb }
  let u : GlideRun := { j := 1, w0 := w0, page := page, start := n }
  let x := r.core.glideWrite auto e u
  let r := { r with started := r.started ++ [e], fellBack := r.fellBack || fb }
  if 2 ^ e.k ≤ 1 then { r with core := x, ended := r.ended + 1 }
  else { r with core := { x with glides := x.glides ++ [{ e with run := some u }] } }

/-- One tick of a core's glides. `starts` tells of each entry whether it starts now; `page` is where new glides act; a later entry
of the same word frees an earlier one, and a start frees a glide that runs on its word (06 R266). -/
def Core.glideTick (x : Core) (auto : Bool) (n : Nat) (page : Fin 2) (starts : List Bool) : GlideResult :=
  let all := x.glides.zip starts
  let new := (all.filter fun p => p.2).map fun p => p.1
  let rec lastOf (l : List Glide) : List Glide :=
    match l with
    | [] => []
    | e :: t => if t.any (fun f => f.word == e.word) then lastOf t else e :: lastOf t
  let new := lastOf new
  let stay := (all.filter fun p => !p.2).map fun p => p.1
  let stay := stay.filter fun e => match e.run with
    | some u => !(u.page == page && new.any fun f => f.word == e.word)
    | none => true
  let r := stay.foldl (glideStep auto n) { core := { x with glides := [] } }
  new.foldl (glideBegin auto n page) r

/-- Whether each staged entry of a core starts at this tick: START = 0b00 entries accepted 200 ns or less ago may wait for the
next tick (06 R249, R261). -/
def State.glideStarts (s : State) (withSluice : Bool) : List Glide → List Bool × State
  | [] => ([], s)
  | e :: t =>
    let (b, s) :=
      if e.run.isSome then (false, s)
      else if e.withSluice then (withSluice, s)
      else if s.cycles ≤ e.since + cycles200ns then s.chooseBool
      else (true, s)
    let (l, s) := s.glideStarts withSluice t
    (b :: l, s)

/-- Page on which glides of a core that start now act (06 R267, R272). -/
def State.glidePage (s : State) (g : GroupId) (c : CoreId) : Fin 2 :=
  let x := s.core c
  match s.sluices[g] with
  | some u => if s.crossfading g && (u.cores ||| u.heirs).testBit c.val && u.pages.testBit 0 then other x.cpage else x.cpage
  | none => x.cpage

/-- One tick of the glides of one core and its spare; the result tells how many ended (06 R260 to R268, R283; 02 R97). -/
def State.glideCore (s : State) (g : GroupId) (n : Nat) (withSluice : Bool) (c : CoreId) : Nat × State :=
  if (s.core c).glides.isEmpty then (0, s)
  else
    let auto := !s.flag UC_CTL_SYNC_MODE
    let page := s.glidePage g c
    let (starts, s) := s.glideStarts withSluice (s.core c).glides
    let r := (s.core c).glideTick auto n page starts
    let s := (s.withSpare c).foldl (fun (s : State) t =>
      (s.setCore t ((s.core t).glideTick auto n page starts).core).showGlides t) s
    let s := if r.fellBack then s.putFlag UC_GL_STATUS_LOG_FALLBACK 0 true else s
    let s := r.started.foldl (fun (s : State) e => s.jnlAppend 0x3 (c.val * 2 ^ 24 + e.word.toNat) e.target.toNat) s
    (r.ended, s)

/-- One tick of the glides of a group's members (06 R264, R268). -/
def State.glideTick (s : State) (g : GroupId) (n : Nat) (withSluice : Bool) : State :=
  let (ended, s) := (maskCores (s.reg SE_RG_STATUS_ACTIVE g.val)).foldl (fun (p : Nat × State) c =>
    let (k, s) := p.2.glideCore g n withSluice c
    (p.1 + k, s)) (0, s)
  if ended = 0 then s else s.raise 28

/-- A write of UC_GL_TARGET stages an entry in every named member and its spare (06 R260). -/
def State.glideStage (s : State) (target : Word) : State :=
  let e : Glide := { word := BitVec.ofNat 16 (s.reg UC_GL_CFG_INDEX), target := target, k := s.reg UC_GL_CFG_K,
                     log := s.flag UC_GL_CFG_LAW, withSluice := s.reg UC_GL_CFG_START == 1, since := s.cycles }
  let (bad, s) := (maskCores (s.reg UC_GL_SEL_CORES)).foldl (fun (p : Bool × State) c =>
    let s := p.2
    if !s.isActive c then (true, s.putFlag UC_GL_STATUS_NOGROUP 0 true)
    else if 1024 ≤ (s.core c).glides.length then (true, s.putFlag UC_GL_STATUS_FULL 0 true)
    else (p.1, (s.withSpare c).foldl (fun (s : State) t =>
      (s.setCore t { s.core t with glides := (s.core t).glides ++ [e] }).showGlides t) s)) (false, s)
  if bad then s.raise 31 else s

/-! ## Steps of a tick -/

/-- Sluices, morphs and glides at tick `n`, in this order (06 R255, R261, R262). -/
def State.chamberTick (s : State) (g : GroupId) (n : Nat) : State :=
  let s := s.part g .sluice fun s =>
    let (gl, s) := s.sluiceTick g n
    if gl then (s.glideTick g n true).mark g .glide else s
  s.part g .glide fun s => s.glideTick g n false

/-- The chamber sync of a core and of its spare completes; the last of one tick raises EV27 (06 R278, R279). -/
def State.syncComplete (s : State) (c : CoreId) : State :=
  match (s.core c).sync with
  | none => s
  | some r =>
    let copy (s : State) (t : CoreId) : State :=
      let x := s.core t
      let x := if r.prog then { x with prog := x.prog.set (other x.ppage) x.active } else x
      let x := if r.coef then { x with coef := x.coef.set (other x.cpage) x.coef[x.cpage] } else x
      let s := s.setCore t { x with sync := none }
      let s := (s.putFlag UC_CORE_STATUS_SYNC_BUSY t.val false).putMaskBit UC_STATUS_SYNC_BUSY t.val false
      s.showCore t
    let s := (s.withSpare c).foldl copy s
    let more := (List.finRange 16).any fun t => match (s.core t).sync with
      | some q => q.group == r.group && q.n == r.n
      | none => false
    (if more then s else s.raise 27).showBudgets

/-! ## Commands -/

/-- CHAMBER_READ (06 R244). -/
def execChamberRead (s : State) : Out := .next s.chamberRead

/-- CHAMBER_WRITE (06 R242). -/
def execChamberWrite (v : Word) (s : State) : Out := .next (s.chamberWrite v)

/-- SLUICE_ARM (06 R247). -/
def execSluiceArm (g : GroupId) (s : State) : Out := .next (s.sluiceArm g)

/-- SLUICE_CANCEL (06 R252). -/
def execSluiceCancel (g : GroupId) (s : State) : Out := .next (s.sluiceCancel g)

/-- A command that stands for a step of the coming tick of a group: it acts when a tick is due (log entry 14). -/
def State.atTick (s : State) (g : GroupId) (f : Nat → State → State) : State :=
  match s.dueTick g with
  | some n => f n s
  | none => s

/-- SLUICE_APPLY (06 R255): an armed sluice that is due at the coming tick applies. -/
def execSluiceApply (g : GroupId) (s : State) : Out :=
  .next (s.atTick g fun n s => if s.reg UC_SL_STATUS_STATE g.val = 1 then s.part g .sluice (fun s =>
    let (gl, s) := s.sluiceTick g n
    if gl then (s.glideTick g n true).mark g .glide else s) else s)

/-- CUT_SWAP (06 R269). -/
def execCutSwap (g : GroupId) (s : State) : Out :=
  .next (s.atTick g fun n s => match s.sluices[g] with
    | some u => if s.reg UC_SL_STATUS_STATE g.val = 2 then s.morphTick g n u else s
    | none => s)

/-- CUT_END (06 R270). -/
def execCutEnd (g : GroupId) (s : State) : Out :=
  .next (s.atTick g fun n s => match s.sluices[g] with
    | some u => if s.reg UC_SL_STATUS_STATE g.val = 2 ∧ u.a + 2 ^ u.m ≤ n then s.morphTick g n u else s
    | none => s)

/-- CROSSFADE_END (06 R275). -/
def execCrossfadeEnd (g : GroupId) (s : State) : Out :=
  .next (s.atTick g fun n s => match s.sluices[g] with
    | some u => if s.reg UC_SL_STATUS_STATE g.val = 3 then s.morphTick g n u else s
    | none => s)

/-- GLIDE_STAGE (06 R260). -/
def execGlideStage (target : Word) (s : State) : Out := .next (s.glideStage target)

/-- GLIDE_START (06 R262): the staged entries that start at the coming tick start, after a sluice that is due. -/
def execGlideStart (g : GroupId) (s : State) : Out := .next (s.atTick g fun n s => s.chamberTick g n)

/-- GLIDE_END (06 R268): the glides that reach their last step at the coming tick end. -/
def execGlideEnd (g : GroupId) (s : State) : Out := .next (s.atTick g fun n s => s.chamberTick g n)

/-- SLUICE_BROADCAST_RECEIVE (06 R254). -/
def execSluiceBroadcastReceive (id : Half) (sec ns : Nat) (s : State) : Out := .next (s.broadcast id.toNat sec ns)

/-- JOURNAL_CLEAR (06 R284). -/
def execJournalClear (s : State) : Out := .next s.journalClear

/-- JOURNAL_CLEAR_COMPLETE (06 R284). -/
def execJournalClearComplete (s : State) : Out := .next s.journalClearComplete

/-- JOURNAL_REPLAY (06 R285). -/
def execJournalReplay (s : State) : Out := .next s.journalReplay

end Sys2Proof.Machine
end

