-- ==== Sys2Proof/Machine/Crc.lean ====
section
/-!
DEFINITION. The cyclic redundancy checks: CRC-16 of seals and QSPI (09 R420; 16 R665), CRC-32C of link segments, records and
headers (11 R470; 14 R599).
-/

namespace Sys2Proof.Machine

open Sys2Proof

/-- One bit of a CRC-16 with the polynomial x^16 + x^12 + x^5 + 1, most significant bit first. -/
def crc16Bit (c : BitVec 16) (b : Bool) : BitVec 16 := if c.msb != b then (c <<< 1) ^^^ 0x1021 else c <<< 1

/-- One byte of a CRC-16. -/
def crc16Byte (c : BitVec 16) (v : Byte) : BitVec 16 :=
  [7, 6, 5, 4, 3, 2, 1, 0].foldl (fun c i => crc16Bit c (v.getLsbD i)) c

/-- CRC-16, initial value 0xFFFF, no reflection, no final XOR (09 R420). -/
def crc16 (l : List Byte) : BitVec 16 := l.foldl crc16Byte 0xFFFF

/-- The four bytes of a word, least significant first. -/
def wordBytes (w : Word) : List Byte := [w.extractLsb' 0 8, w.extractLsb' 8 8, w.extractLsb' 16 8, w.extractLsb' 24 8]

/-- CRC-16 of words, each taken least significant byte first (09 R420). -/
def crc16Words (l : List Word) : BitVec 16 := crc16 (l.flatMap wordBytes)

/-- One bit of a reflected CRC-32C (Castagnoli). -/
def crc32cBit (c : Word) : Word := if c.getLsbD 0 then (c >>> 1) ^^^ 0x82F63B78 else c >>> 1

def crc32cByte (c : Word) (v : Byte) : Word :=
  [0, 1, 2, 3, 4, 5, 6, 7].foldl (fun c (_ : Nat) => crc32cBit c) (c ^^^ v.setWidth 32)

/-- CRC-32C: initial value and final XOR 0xFFFF_FFFF, reflected. -/
def crc32c (l : List Byte) : Word := l.foldl crc32cByte 0xFFFFFFFF ^^^ 0xFFFFFFFF

/-- CRC-32C of words, least significant byte first. -/
def crc32cWords (l : List Word) : Word := crc32c (l.flatMap wordBytes)

end Sys2Proof.Machine
end

