-- ==== Sys2Proof/Machine/Streams.lean ====
section
/-!
DEFINITION. The stream mover: routes and endpoints, ingress placement, stamps, alignment groups, non-audio detection, seals and
headgates (chapter 09).
-/

namespace Sys2Proof.Machine

open Sys2Proof

/-! ## Endpoints and routes (09 R394 to R398) -/

def epType (w : Word) : Nat := w.toNat / 2 ^ 28
def epSap (port line slot : Nat) : Word := BitVec.ofNat 32 (2 ^ 28 + slot * 32 + line * 16 + port)
def epRlk (port slot : Nat) : Word := BitVec.ofNat 32 (2 * 2 ^ 28 + slot * 4 + port)
def epNet (stream chan : Nat) : Word := BitVec.ofNat 32 (3 * 2 ^ 28 + chan * 128 + stream)
def epPort (w : Word) : Nat := w.toNat % 16
def epLine (w : Word) : Nat := w.toNat / 16 % 2
def epSapSlot (w : Word) : Nat := w.toNat / 32 % 32
def epLink (w : Word) : Nat := w.toNat % 4
def epSlot (w : Word) : Nat := w.toNat / 4 % 4096
def epStream (w : Word) : Nat := w.toNat % 128
def epStreamChan (w : Word) : Nat := w.toNat / 128 % 64
def epChan (w : Word) : Nat := w.toNat % 8192

/-- The channel descriptor a route belongs to: the one of its buffer (09 R382, R395). -/
def State.routeChan (s : State) (r : Route) : ChanDesc :=
  match r.kind with
  | 0 => tabGet s.ingress (epChan r.snk) {}
  | 1 => tabGet s.egress (epChan r.src) {}
  | 2 => tabGet s.ingress (epChan r.src) {}
  | 3 => {}

/-- IN routes whose source is an endpoint, with their channels. -/
def State.inRoutes (s : State) (e : Word) : List (Nat × Route) := s.routes.filter fun p => p.2.kind == 0 && p.2.src == e

/-- The IN route of an ingress channel. -/
def State.inRouteOf (s : State) (c : Nat) : Option Route :=
  (s.routes.find? fun p => p.2.kind == 0 && epChan p.2.snk == c).map fun p => p.2

/-- Samples in a block (09 R388). -/
def blockSize (ch : ChanDesc) : Nat := 8 * 2 ^ ch.bs.val

/-- Word of a channel's buffer for sample m (09 R383). -/
def chanWord (ch : ChanDesc) (m : Nat) : Nat := ch.base + m % ch.len

/-! ## Registration of writes and the tick of the moment -/

/-- Memory cycles to the next tick, reckoned from the last one at the nominal rate where the group follows an external clock
(log entry 20). -/
def State.cyclesToNext (s : State) (g : GroupId) : Nat :=
  let x := s.group g
  if s.tickFromTime g then s.cyclesTo g (x.n + 1) else x.tickCycle + 600000000 / max 1 (s.fs g) - s.cycles

/-- n_r of a write: the last tick begun; a write 200 ns or less before a tick may count that tick (06 R249). -/
def State.regTick (s : State) (g : GroupId) : Nat × State :=
  let n := (s.group g).n
  if s.ticking g && (s.group g).begun && decide (s.cyclesToNext g ≤ cycles200ns) then
    let (late, s) := s.chooseBool
    (if late then n + 1 else n, s)
  else (n, s)

/-- The tick that begins now, or the last one begun. -/
def State.tickNow (s : State) (g : GroupId) : Nat := (s.dueTick g).getD (s.group g).n

/-- Smallest multiple of `k` that is at least `x`. -/
def nextMultiple (k x : Nat) : Nat := (x + k - 1) / k * k

/-! ## Headgates (09 R403 to R408) -/

/-- How a headgate treats a sample: closed, open, or a step of a ramp. -/
inductive Gate where
  | closed | opened
  | ramp (down : Bool) (j : Nat)
  deriving DecidableEq, Repr

/-- STATE of a headgate (09 R429). -/
def State.hgState (s : State) (h : Nat) : Nat := s.reg STR_HG_STATUS_STATE h

/-- An open headgate, with the ramp of its last ramped OPEN, which a later armed CLOSE leaves running (09 R407). -/
def State.hgOpened (s : State) (h m : Nat) : Gate :=
  match tabGet? h s.hgRamps with
  | some a => if a ≤ m ∧ m < a + 64 then .ramp false (m - a + 1) else .opened
  | none => .opened

/-- What headgate `h` does to sample `m`, by its state and the effect index of its last command (09 R404, R407). -/
def State.hgAt (s : State) (h m : Nat) : Gate :=
  let st := s.hgState h
  match tabGet? h s.hgs with
  | none => if st = 2 then s.hgOpened h m else .closed
  | some u =>
    match u.a with
    | none => if u.opens then .closed else s.hgOpened h m
    | some a =>
      if u.opens then
        if m < a then .closed else if u.ramp ∧ m < a + 64 then .ramp false (m - a + 1) else .opened
      else if m < a then s.hgOpened h m
      else if u.ramp ∧ m < a + 64 then .ramp true (m - a + 1)
      else .closed

/-- The gate of a route for sample `m` (09 R403). -/
def State.gateOf (s : State) (r : Route) (m : Nat) : Gate := if r.hgEn then s.hgAt r.hg m else .opened

/-- A word after a gate: 0 while closed, the ramp of R65 in a ramp (09 R404, R407). -/
def Gate.apply (g : Gate) (x : Word) : Word :=
  match g with
  | .closed => 0
  | .opened => x
  | .ramp down j => rampWord x (if down then 64 - j else j) 6

/-- The rate group of a headgate: that of its routes' channels (09 R403). -/
def State.hgGroup (s : State) (h : Nat) : Option GroupId :=
  (s.routes.find? fun p => p.2.hgEn && p.2.hg == h).map fun p => (s.routeChan p.2).group

/-- a = 64 * ceil(T * fs / 64) for a group ticked by the counter (09 R405). -/
def hgIndex (sec ns fs : Nat) : Nat := 64 * (((sec * 1000000000 + ns) * fs + 64 * 1000000000 - 1) / (64 * 1000000000))

/-- A headgate command is refused (09 R406). -/
def State.hgRefuse (s : State) (h : Nat) : State := (s.putFlag STR_HG_STATUS_REFUSED h true).raise 61

/-- STATE of a headgate changes at a tick (09 R407). -/
def State.hgSet (s : State) (h st : Nat) : State := (s.put STR_HG_STATUS_STATE h st).raise 60

/-- Show an effect index. -/
def State.hgShow (s : State) (h a : Nat) : State := s.put64 STR_HG_EFF_LO STR_HG_EFF_HI h a

/-- A write of OPEN or CLOSE alone (09 R405 to R407). -/
def State.hgCommand (s : State) (h : Nat) (opens : Bool) : State :=
  let sec := s.reg64 STR_HG_TIME_SEC_LO STR_HG_TIME_SEC_HI h
  let ns := s.reg STR_HG_TIME_NS h
  let st := s.hgState h
  match s.hgGroup h with
  | none => s.hgRefuse h
  | some g =>
    let x := s.group g
    let a := hgIndex sec ns (s.fs g)
    let past := x.begun && (if s.tickFromTime g then decide (a ≤ x.n)
      else decide ((sec * 1000000000 + ns) * timPerNs ≤ x.tickTim) && x.n % 64 == 0)
    if past || st == 1 || st == 3 then s.hgRefuse h
    else
      let u : Headgate := { sec := sec, ns := ns, a := if s.tickFromTime g then some a else none,
                            ramp := s.flag STR_HG_CFG_RAMP h, opens := opens, since := s.cycles }
      let s := { s with hgs := tabSet h u s.hgs }
      let s := if s.tickFromTime g then s.hgShow h a else s
      s.put STR_HG_STATUS_STATE h (if opens then 1 else 3)

/-- A write of CANCEL alone: within 200 ns of tick a it may fail (09 R408). A headgate that is disarmed returns to the state it
had. -/
def State.hgCancel (s : State) (h : Nat) : State :=
  match tabGet? h s.hgs, s.hgGroup h with
  | some u, some g =>
    let st := s.hgState h
    let begun := match u.a with
      | some a => (s.group g).begun && decide (a ≤ (s.group g).n)
      | none => false
    if (st != 1 && st != 3) || begun then s
    else
      let drop (s : State) : State := { s.put STR_HG_STATUS_STATE h (if st = 1 then 0 else 2) with hgs := tabErase h s.hgs }
      let near := match u.a with
        | some a => decide (s.cyclesTo g a ≤ cycles200ns)
        | none => decide ((u.sec * 1000000000 + u.ns) * timPerNs ≤ s.tim + 200 * timPerNs)
      if near then
        let (ok, s) := s.chooseBool
        if ok then drop s else s
      else drop s
  | _, _ => s

/-- A write of HG_CTL: with more than one bit it is refused as a whole (09 R406). -/
def State.hgCtl (s : State) (h : Nat) (opens closes cancels : Bool) : State :=
  if (opens && closes) || (opens && cancels) || (closes && cancels) then s.hgRefuse h
  else if opens then s.hgCommand h true
  else if closes then s.hgCommand h false
  else if cancels then s.hgCancel h
  else s

/-- An armed headgate at tick `n` of its group: it takes effect, or is refused when the counter stepped over it
(09 R405 to R408; 06 R249; 12 R515). -/
def State.hgEffect (s : State) (g : GroupId) (n h : Nat) : State :=
  match tabGet? h s.hgs with
  | none => s
  | some u =>
    let st := s.hgState h
    if (st != 1 && st != 3) || s.hgGroup h != some g then s
    else
      let due := match u.a with
        | some a => decide (a ≤ n)
        | none => n % 64 == 0 && decide ((u.sec * 1000000000 + u.ns) * timPerNs ≤ s.tim)
      let running := match u.a with
        | some a => decide (a < n) && st == 3 && u.ramp && !(s.group g).stepped
        | none => false
      if !due || running then s
      else
        let refuse (s : State) : State :=
          { (s.put STR_HG_STATUS_STATE h (if st = 1 then 0 else 2)).hgRefuse h with hgs := tabErase h s.hgs }
        let late := match u.a with
          | some a => decide (a < n) || (s.group g).stepped
          | none => false
        let (ok, s) := if s.cycles ≤ u.since + cycles200ns then s.chooseBool else (true, s)
        if late || !ok then refuse s
        else
          let s := { s with hgs := tabSet h { u with a := some n } s.hgs }
          let s := s.hgShow h n
          if u.opens then
            { s.hgSet h 2 with hgRamps := if u.ramp then tabSet h n s.hgRamps else tabErase h s.hgRamps }
          else if u.ramp then s else s.hgSet h 0

/-- A ramped CLOSE ends at tick a + 64 (09 R407). -/
def State.hgRampEnd (s : State) (g : GroupId) (n h : Nat) : State :=
  match tabGet? h s.hgs with
  | none => s
  | some u =>
    match u.a with
    | some a => if s.hgState h = 3 ∧ u.ramp ∧ a + 64 ≤ n ∧ s.hgGroup h = some g then s.hgSet h 0 else s
    | none => s

/-- All headgates of a group at a tick. -/
def State.hgTick (s : State) (g : GroupId) (n : Nat) : State :=
  s.hgs.foldl (fun s p => (s.hgEffect g n p.1).hgRampEnd g n p.1) s

/-! ## Block stamps (09 R389 to R392) -/

/-- Bits of word 1 of a stamp entry (09 R390). -/
def stConcealed : Nat := 24
def stLate : Nat := 25
def stClosed : Nat := 26
def stNonaudio : Nat := 27
def stSealFail : Nat := 28
def stSealAbsent : Nat := 29
def stQdrop : Nat := 30

/-- Slot of a block's entry in the stamp ring. -/
def stampSlot (ch : ChanDesc) (k : Nat) : Nat := k % (ch.len / blockSize ch)

/-- The entry of block `k` belongs to it, with its capture time in units of the time counter (09 R390 to R392). -/
def State.stampOpen (s : State) (c k cap : Nat) : State :=
  let ch := tabGet s.ingress c {}
  let x := s.chanSt c
  if !ch.stampEn || tabGet? (stampSlot ch k) x.blks == some k then s
  else
    let w := ch.sbase + 2 * stampSlot ch k
    let s := s.setChanSt c { x with blks := tabSet (stampSlot ch k) k x.blks }
    let s := s.writeAs 16 ch.bank w (BitVec.ofNat 32 (cap % timPerSec / timPerNs))
    s.writeAs 16 ch.bank (w + 1) (BitVec.ofNat 32 (cap / timPerSec % 256 * 2 ^ 16))

/-- Change word 1 of block `k`'s entry, if the entry is its own. -/
def State.stampSet (s : State) (c k : Nat) (f : Word → Word) : State :=
  let ch := tabGet s.ingress c {}
  if ch.stampEn && tabGet? (stampSlot ch k) (s.chanSt c).blks == some k then
    let w := ch.sbase + 2 * stampSlot ch k + 1
    s.writeAs 16 ch.bank w (f (s.bankWord ch.bank w))
  else s

/-- Set a flag of a block's stamp. -/
def State.stampFlag (s : State) (c k bit : Nat) : State := s.stampSet c k fun v => v ||| BitVec.ofNat 32 (2 ^ bit)

/-- A flag of a block's stamp. -/
def State.stampHas (s : State) (c k bit : Nat) : Bool :=
  let ch := tabGet s.ingress c {}
  ch.stampEn && tabGet? (stampSlot ch k) (s.chanSt c).blks == some k
    && (s.bankWord ch.bank (ch.sbase + 2 * stampSlot ch k + 1)).getLsbD bit

/-! ## Writes of the stream mover (09 R400 to R402) -/

/-- Words of the stream mover that wait in a bank's queue. -/
def Bank.strQueued (x : Bank) : List Req := x.queue.filter fun r => r.who == 16

/-- A word enters its bank's write queue of 512 words; words of serial ports enter at its head; it is dropped when the queue is
full (09 R401, R402). The result tells whether it was accepted. -/
def State.strPush (s : State) (c m : Nat) (v : Word) (head : Bool) : Bool × State :=
  let ch := tabGet s.ingress c {}
  let x := s.bank ch.bank
  if 512 ≤ x.strQueued.length then
    (false, ((s.stampFlag c (m / blockSize ch) stQdrop).count STR_QDROP_CNT).raise 66)
  else
    let r : Req := { who := 16, write := true, words := [chanWord ch m], data := v, at_ := s.cycles }
    if !s.mayWrite ch.bank 16 then (true, s.nonOwnerWrite ch.bank (chanWord ch m) 16)
    else if head then
      let first := (x.strQueued.map fun q => q.at_).foldl min s.cycles
      (true, s.setBank ch.bank { x with queue := { r with at_ := first } :: x.queue })
    else (true, s.setBank ch.bank { x with queue := x.queue ++ [r] })

/-- The word a channel will hold for sample `m` once its queued writes have landed. -/
def State.strPeek (s : State) (ch : ChanDesc) (m : Nat) : Word :=
  match (s.bank ch.bank).queue.reverse.find? fun r => r.who == 16 && r.words.contains (chanWord ch m) with
  | some r => r.data
  | none => s.bankWord ch.bank (chanWord ch m)

/-- Write a word in place of any content, queued or landed (09 R413, R450). -/
def State.strOverwrite (s : State) (ch : ChanDesc) (m : Nat) (v : Word) : State :=
  let x := s.bank ch.bank
  let s := s.setBank ch.bank { x with queue := x.queue.filter fun r => !(r.who == 16 && r.words.contains (chanWord ch m)) }
  s.writeAs 16 ch.bank (chanWord ch m) v

/-! ## Non-audio detection (09 R418, R419) -/

/-- The pair's mute for sample `m` with received words `xc` and `xd` of channels `c` and `c + 1` (09 R419). -/
def State.naStep (s : State) (c m : Nat) (xc xd : Word) : Bool × State :=
  let x := s.chanSt c
  let hi (w : Word) : Nat := w.toNat / 2 ^ 16
  let x := if x.naPd = some m then
      { x with naPd := none, naUntil := some (max (x.naUntil.getD 0) (m + (hi xd + 31) / 32 + 4096)) }
    else x
  let found := hi xc == 0xF872 && hi xd == 0x4E1F
  let x := if found then { x with naPd := some (m + 1) } else x
  let inSpan := found || x.naPd.isSome || (match x.naUntil with
    | some u => decide (m ≤ u)
    | none => false)
  let was := x.naMute
  let s := s.setChanSt c { x with naMute := inSpan, naUntil := if inSpan then x.naUntil else none }
  let s := s.setChanSt (c + 1) { s.chanSt (c + 1) with naMute := inSpan }
  let s := if inSpan && !was then (s.count STR_NA_CNT).raise 62 else if was && !inSpan then s.raise 63 else s
  (inSpan, s)

/-- The non-audio span has been written to its end and received words pass again (09 R419). -/
def State.naEnd (s : State) (c : Nat) : State :=
  let x := s.chanSt c
  let past := match x.naUntil, x.last with
    | some u, some m => decide (u ≤ m) && x.naPd.isNone
    | _, _ => false
  if x.naMute && past then
    let s := s.setChanSt c { x with naMute := false, naUntil := none }
    (s.setChanSt (c + 1) { s.chanSt (c + 1) with naMute := false }).raise 63
  else s

/-! ## Ingress placement (09 R386, R410 to R414) -/

/-- A received sample on its way to a channel: presentation index, word, capture time of the sample. -/
structure Arrival where
  c : Nat
  m : Nat
  x : Word
  cap : Nat
  deriving DecidableEq, Repr

/-- Capture time of a block's first sample from that of its sample `m` (09 R391). -/
def blockCap (fs bs m cap : Nat) : Nat := cap - m % bs * timPerSec / max 1 fs

/-- STATE of the channel for its status entry while its route is closed (09 R427). -/
def closedState (g : Gate) (st : Nat) : Nat := if g = .closed then 3 else if st = 3 then 0 else st

/-- Keep what later tests of a channel can need, with `n` the last tick begun. -/
def ChanState.prune (x : ChanState) (ch : ChanDesc) (n : Nat) : ChanState :=
  let bs := blockSize ch
  { x with rx := x.rx.filter fun p => decide (n < p.1 + 4 * bs + 128),
           under := x.under.filter fun k => decide (n < k * bs + ch.len),
           late := x.late.filter fun k => decide (n < k * bs + ch.len) }

/-- A sample is written into the word of its index: the route's headgate and a non-audio mute act on it, its block's stamp is
opened, and it counts as received when its queue accepts it (09 R383, R390, R404, R412, R419). `fromPort` marks words of serial
ports. -/
def State.place (s : State) (r : Arrival) (muted fromPort : Bool) : State :=
  let ch := tabGet s.ingress r.c {}
  let bs := blockSize ch
  let k := r.m / bs
  let s := s.stampOpen r.c k (blockCap (s.fs ch.group) bs r.m r.cap)
  let gate := match s.inRouteOf r.c with
    | some rt => s.gateOf rt r.m
    | none => .opened
  let s := if gate = .closed then s.stampFlag r.c k stClosed else s
  let s := if muted then s.stampFlag r.c k stNonaudio else s
  let (ok, s) := s.strPush r.c r.m (gate.apply (if muted then 0 else r.x)) fromPort
  let x := (s.chanSt r.c).prune ch (s.group ch.group).n
  let x := { x with st := closedState gate x.st, last := some r.m }
  let s := s.setChanSt r.c (if ok then { x with rx := tabSet r.m r.x x.rx } else x)
  -- seal of a whole block made as received (R421)
  if ch.seals && !ch.agEn || ch.seals && fromPort || ch.seals && (match s.inRouteOf r.c with
      | some rt => epType rt.src == 3
      | none => false) then
    let ws := (List.range bs).map fun i => tabGet? (k * bs + i) (s.chanSt r.c).rx
    if ws.all Option.isSome then
      s.stampSet r.c k fun v => (v &&& 0xFFFF0000) ||| (crc16Words (ws.map fun w => w.getD 0)).setWidth 32
    else s
  else s

/-- Presentation index of a sample of an alignment group with media index `u` and media time `tau` (09 R410). For a group that
follows an external clock the tick is reckoned from the last tick at the nominal rate (log entry 20). -/
def State.agIndex (s : State) (ag u tau : Nat) : Nat :=
  let g : GroupId := Fin.ofNat 4 (s.reg STR_AG_CFG_GROUP ag)
  let lat := s.reg STR_AG_LAT ag
  if s.tickFromTime g then u + lat
  else
    let x := s.group g
    let due := tau + lat * timPerSec / max 1 (s.fs g)
    x.n + ((due - x.tickTim) * s.fs g + timPerSec - 1) / timPerSec

/-- A late sample: its block is marked, and counted once (09 R414). -/
def State.lateSample (s : State) (c k ag : Nat) : State :=
  let x := s.chanSt c
  let s := s.stampFlag c k stLate
  if x.late.contains k then s
  else ((s.setChanSt c { x with late := k :: x.late }).count STR_AG_LATE_CNT ag).raise 57

/-- Whether a sample of an alignment group can be written: it is not early, not late and the group ticks (09 R410, R411, R414). -/
def State.accepts (s : State) (r : Arrival) : Bool × State :=
  let ch := tabGet s.ingress r.c {}
  let x := s.group ch.group
  let k := r.m / blockSize ch
  if !x.begun || decide (x.n + ch.len - ch.reach < r.m) then (false, (s.count STR_AG_EARLY_CNT ch.ag).raise 58)
  else if r.m ≤ x.n ∨ (s.chanSt r.c).under.contains k then (false, s.lateSample r.c k ch.ag)
  else (true, s)

/-- Both channels of a watched pair have a word for one sample in `l`. -/
def pairOf (l : List Arrival) (c m : Nat) : Option (Word × Word) :=
  match l.find? (fun r => r.c == c && r.m == m), l.find? (fun r => r.c == c + 1 && r.m == m) with
  | some a, some b => some (a.x, b.x)
  | _, _ => none

/-- Samples that arrive together are written; watched pairs are examined sample by sample first (09 R410 to R419). -/
def State.placeAll (s : State) (l : List Arrival) (fromPort : Bool) : State :=
  l.foldl (fun (s : State) r =>
    let base := r.c - r.c % 2
    let ch := tabGet s.ingress r.c {}
    let (ok, s) := if ch.agEn then s.accepts r else (true, s)
    let (muted, s) :=
      if (tabGet s.ingress base {}).naDet then
        match pairOf l base r.m with
        | some (xc, xd) => if r.c = base then s.naStep base r.m xc xd else ((s.chanSt base).naMute, s)
        | none => ((s.chanSt base).naMute, s)
      else (false, s)
    if ok then s.place r muted fromPort else s) s

/-! ## Alignment groups (09 R409 to R416) -/

/-- The member channels of an alignment group. -/
def State.members (s : State) (ag : Nat) : List Nat := (s.ingress.filter fun p => p.2.agEn && p.2.ag == ag).map fun p => p.1

/-- AG_STATUS.CONCEALING (09 R428). -/
def State.showAg (s : State) (ag : Nat) : State :=
  s.put STR_AG_STATUS_CONCEALING ag ((s.members ag).filter fun c => (s.chanSt c).st == 1).length

/-- A member's route is closed for the block that starts at `m0` (09 R404, R416). -/
def State.memberClosed (s : State) (c m0 : Nat) : Bool :=
  match s.inRouteOf c with
  | some rt => s.gateOf rt m0 == .closed
  | none => false

/-- All samples from `m0` to `m0 + n - 1` of a channel have been accepted (09 R412). -/
def State.allIn (s : State) (c m0 n : Nat) : Bool := (List.range n).all fun i => (tabGet? (m0 + i) (s.chanSt c).rx).isSome

/-- Capture time of a block without received samples: the media time of its first sample (09 R391, R410). -/
def State.mediaTime (s : State) (ch : ChanDesc) (m0 : Nat) : Nat :=
  (m0 - s.reg STR_AG_LAT ch.ag) * timPerSec / max 1 (s.fs ch.group)

/-- One word of a fade: step `i` repeats the words from `src` on, every `bs` (09 R413). -/
def State.fadeWord (s : State) (ch : ChanDesc) (src bs i : Nat) : Word :=
  if i < 16 then rampWord (s.strPeek ch (src + i % bs)) (15 - i) 4 else 0

/-- The member's block `k` is concealed; a late or partial block keeps no received word (09 R413, R414). -/
def State.conceal (s : State) (c k : Nat) : State :=
  let ch := tabGet s.ingress c {}
  let bs := blockSize ch
  let x := s.chanSt c
  let m0 := k * bs
  let fade : Option (Nat × Nat) := if x.good then some (0, m0 - bs) else x.fade
  let s := (s.stampOpen c k (s.mediaTime ch m0)).stampFlag c k stConcealed
  let words := (List.range bs).map fun i => match fade with
    | some (i0, src) => s.fadeWord ch src bs (i0 + i)
    | none => 0
  let s := (List.range bs).foldl (fun s i => s.strOverwrite ch (m0 + i) (words.getD i 0)) s
  let x := s.chanSt c
  s.setChanSt c { x with st := 1, good := false, ramp := none, under := k :: x.under,
                         fade := match fade with
                           | some (i0, src) => if i0 + bs < 16 then some (i0 + bs, src) else none
                           | none => none }

/-- The member's block `k` is presented: after an underrun it ramps in, and STATE reads ramping for the blocks that hold the ramp
(09 R415, R427). -/
def State.present (s : State) (c k : Nat) : State :=
  let ch := tabGet s.ingress c {}
  let bs := blockSize ch
  let x := s.chanSt c
  let m0 := k * bs
  let start := x.st == 1
  let ramp := if start then some 0 else x.ramp
  let s := if start then s.raise 59 else s
  match ramp with
  | none => s.setChanSt c { x with st := 0, good := true, fade := none }
  | some i0 =>
    let n := min bs (16 - i0)
    let s := (List.range n).foldl (fun s i =>
      s.strOverwrite ch (m0 + i) (rampWord (s.strPeek ch (m0 + i)) (i0 + i + 1) 4)) s
    let rest := i0 + n
    s.setChanSt c { s.chanSt c with st := 2, good := true, fade := none,
                                    ramp := if rest < 16 then some rest else none }

/-- An underrun is counted (09 R412, R428). -/
def State.countUnder (s : State) (ag m0 : Nat) : State :=
  ((s.count STR_AG_UNDER_CNT ag).put64 STR_AG_LAST_LO STR_AG_LAST_HI ag m0).raise 56

/-- In-time test of block `k` of one member (09 R412 to R416). -/
def State.testBlock (s : State) (c k : Nat) : State :=
  let ch := tabGet s.ingress c {}
  let bs := blockSize ch
  let s := s.setChanSt c { s.chanSt c with tested := some k }
  if s.memberClosed c (k * bs) then s.setChanSt c { s.chanSt c with st := 3, good := false, fade := none, ramp := none }
  else if s.allIn c (k * bs) bs then s.present c k
  else (s.countUnder ch.ag (k * bs)).conceal c k

/-- In-time test of lock span `q` of a LOCKSTEP group, over the members whose routes are open at its start (09 R416). -/
def State.testSpan (s : State) (ag q : Nat) : State :=
  let all := s.members ag
  let big := (all.map fun c => blockSize (tabGet s.ingress c {})).foldl max 8
  let s0 := q * big
  let s := all.foldl (fun (s : State) c => s.setChanSt c { s.chanSt c with tested := some q }) s
  let (shut, ms) := all.partition fun c => s.memberClosed c s0
  let s := shut.foldl (fun (s : State) c => s.setChanSt c { s.chanSt c with st := 3, good := false, fade := none, ramp := none }) s
  let blocks (c : Nat) : List Nat :=
    let bs := blockSize (tabGet s.ingress c {})
    (List.range (big / bs)).map fun i => s0 / bs + i
  let short := ms.filter fun c => !s.allIn c s0 big
  if short.isEmpty then
    ms.foldl (fun (s : State) c => (blocks c).foldl (fun s k => s.present c k) s) s
  else
    let s := short.foldl (fun (s : State) _ => s.countUnder ag s0) s
    ms.foldl (fun (s : State) c => (blocks c).foldl (fun s k => s.conceal c k) s) s

/-- The in-time test at t_{m0} - D_b of block `k` of member `c`, or of lock span `k` of its group; each is tested once, in order
(09 R412, R416). -/
def State.inTimeTest (s : State) (c k : Nat) : State :=
  let ch := tabGet s.ingress c {}
  let later := match (s.chanSt c).tested with
    | some t => decide (t < k)
    | none => true
  if !ch.valid || !ch.agEn || !later then s
  else
    let s := if s.flag STR_AG_CFG_LOCKSTEP ch.ag then s.testSpan ch.ag k else s.testBlock c k
    s.showAg ch.ag

/-! ## Seals (09 R420 to R423) -/

/-- A seal cannot be checked (09 R423). -/
def State.sealAbsent (s : State) (c k : Nat) : State :=
  if s.stampHas c k stSealAbsent then s else ((s.stampFlag c k stSealAbsent).count STR_SEAL_ABSENT_CNT).raise 65

/-- A seal does not match (09 R423). -/
def State.sealMismatch (s : State) (c k : Nat) : State :=
  let x := s.chanSt c
  let s := s.setChanSt c { x with sealFail := min 65535 (x.sealFail + 1) }
  ((s.stampFlag c k stSealFail).count STR_SEAL_FAIL_CNT).raise 64

/-- The block was concealed, closed, or had late samples, so that its seal cannot be checked (09 R423). -/
def State.sealBlind (s : State) (c k : Nat) : Bool :=
  s.stampHas c k stConcealed || s.stampHas c k stClosed || s.stampHas c k stLate

/-- A seal received for block `k` of channel `c` is stored and compared with the words as received (09 R421, R423). -/
def State.sealReceived (s : State) (c k : Nat) (v : Option (BitVec 16)) : State :=
  let bs := blockSize (tabGet s.ingress c {})
  match v with
  | none => s.sealAbsent c k
  | some v =>
    let s := s.stampSet c k fun w => (w &&& 0xFFFF0000) ||| v.setWidth 32
    let ws := (List.range bs).map fun i => tabGet? (k * bs + i) (s.chanSt c).rx
    if s.sealBlind c k || !ws.all Option.isSome then s.sealAbsent c k
    else if crc16Words (ws.map fun w => w.getD 0) = v then s
    else s.sealMismatch c k

/-! ## Commands -/

/-- BLOCK_IN_TIME_TEST (09 R412). -/
def execBlockInTimeTest (c : Fin 8192) (k : Nat) (s : State) : Out := .next (s.inTimeTest c.val k)

/-- NONAUDIO_MUTE_END (09 R419). -/
def execNonaudioMuteEnd (c : Fin 8192) (s : State) : Out := .next (s.naEnd (c.val - c.val % 2))

/-- HEADGATE_OPEN (09 R405). -/
def execHeadgateOpen (h : Fin 256) (s : State) : Out := .next (s.hgCommand h.val true)

/-- HEADGATE_CLOSE (09 R405). -/
def execHeadgateClose (h : Fin 256) (s : State) : Out := .next (s.hgCommand h.val false)

/-- HEADGATE_CANCEL (09 R408). -/
def execHeadgateCancel (h : Fin 256) (s : State) : Out := .next (s.hgCancel h.val)

/-- HEADGATE_EFFECT (09 R407): at the coming tick of its group. -/
def execHeadgateEffect (h : Fin 256) (s : State) : Out :=
  .next (match s.hgGroup h.val with
    | some g => s.atTick g fun n s => s.hgEffect g n h.val
    | none => s)

/-- HEADGATE_RAMP_END (09 R407): at the coming tick of its group. -/
def execHeadgateRampEnd (h : Fin 256) (s : State) : Out :=
  .next (match s.hgGroup h.val with
    | some g => s.atTick g fun n s => s.hgRampEnd g n h.val
    | none => s)

end Sys2Proof.Machine
end

