-- ==== Sys2Proof/Machine/Bce.lean ====
section
/-!
DEFINITION. The block convolution engine: schedules, slices, block floating point, delivery, deadlines, and the control of filters
(chapter 07).
-/

namespace Sys2Proof.Machine

open Sys2Proof

/-! ## Schedules (07 R294, R295, R298) -/

/-- Samples of a class. -/
def classSize (cls : Nat) : Nat := 64 * 4 ^ cls

/-- c_N of a job. -/
def State.segCount (s : State) (j cls : Nat) : Nat := s.reg BCE_JOB_SEG_C j / 256 ^ cls % 256

/-- o_N: the head and the segments of smaller classes. -/
def State.segOffset (s : State) (j cls : Nat) : Nat :=
  s.reg BCE_JOB_HEAD_H j + ((List.range cls).map fun c => s.segCount j c * classSize c).sum

/-- d_N. -/
def State.segRatio (s : State) (j cls : Nat) : Nat := s.segOffset j cls / classSize cls

/-- Classes with partitions. -/
def State.jobClasses (s : State) (j : Nat) : List Nat := (List.range 4).filter fun c => s.segCount j c != 0

/-- N_max of a job. -/
def State.jobMax (s : State) (j : Nat) : Nat := ((s.jobClasses j).map classSize).foldl max 64

/-- R_j (07 R325). -/
def State.jobLead (s : State) (j : Nat) : Nat := ((s.jobClasses j).map fun c => (s.segRatio j c - 1) * classSize c).foldl max 0

def State.jobGroup (s : State) (j : Nat) : GroupId := Fin.ofNat 4 (s.reg BCE_JOB_CFG_GROUP j)
def State.jobValid (s : State) (j : Nat) : Bool := s.flag BCE_JOB_CFG_VALID j
def State.fltJob (s : State) (f : Nat) : Nat := s.reg BCE_FLT_CFG_JOB f
def State.fltGroup (s : State) (f : Nat) : GroupId := s.jobGroup (s.fltJob f)
def State.fltState (s : State) (f : Nat) : Nat := s.reg BCE_FLT_STATUS_STATE f
def State.jobStart (s : State) (j : Nat) : Nat := s.reg64 BCE_JOB_START_LO BCE_JOB_START_HI j

/-- Filters of a job. -/
def State.jobFilters (s : State) (j : Nat) : List Nat :=
  (List.range 128).filter fun f => s.flag BCE_FLT_CFG_VALID f && s.fltJob f == j

/-- Index of a job's partition p of a class within its regions (07 R308). -/
def State.partIndex (s : State) (j cls p : Nat) : Nat := ((List.range cls).map fun c => s.segCount j c).sum + p

/-- Word offset of that partition. -/
def State.partOffset (s : State) (j cls p : Nat) : Nat :=
  ((List.range cls).map fun c => s.segCount j c * classSize c).sum + p * classSize cls

/-- Words of all partitions; the exponent words follow. -/
def State.partWords (s : State) (j : Nat) : Nat := s.partOffset j 4 0

/-! ## Memories (07 R315, R318) -/

def State.privWord (s : State) (w : Nat) : Word := memWord s.bce.priv w
def State.privSet (s : State) (w : Nat) (v : Word) : State := { s with bce := { s.bce with priv := memSetWord s.bce.priv w v } }

/-- A word of a region in private memory (LOC 0x10) or in a shared bank, read as requester 17. -/
def State.locRead (s : State) (loc w : Nat) : Word × State :=
  match toFin? 16 loc with
  | some b => s.readAs 17 b w
  | none => (s.privWord w, s)

def State.locWrite (s : State) (loc w : Nat) (v : Word) : State :=
  match toFin? 16 loc with
  | some b => s.writeAs 17 b w v
  | none => s.privSet w v

/-- Words of a region in order. -/
def State.locReads (s : State) (loc : Nat) : List Nat → List Word × State
  | [] => ([], s)
  | w :: t =>
    let (v, s) := s.locRead loc w
    let (vs, s) := s.locReads loc t
    (v :: vs, s)

/-- Byte `i % 4` of an exponent word, signed. -/
def expByte (w : Word) (i : Nat) : Int := (BitVec.ofNat 8 (w.toNat / 256 ^ (i % 4))).toInt

def setExpByte (w : Word) (i : Nat) (e : Int) : Word :=
  let b := (BitVec.ofInt 8 e).toNat
  let k := 256 ^ (i % 4)
  BitVec.ofNat 32 (w.toNat - w.toNat / k % 256 * k + b * k)

/-! ## Block floating point (07 R305 to R307, R310, R311) -/

/-- x * 2^-t, rounded half to even when t is positive. -/
def scaleBy (x : Int) (t : Int) : Int := if 0 ≤ t then roundHalfEven x (2 ^ t.toNat) else x * 2 ^ (-t).toNat

/-- All numbers fit `bits` bits in two's complement. -/
def fitsAll (bits : Nat) (l : List Int) : Bool := l.all fun x => decide (-(2 ^ (bits - 1) : Int) ≤ x ∧ x < 2 ^ (bits - 1))

/-- The smallest of `n` shifts from `t` upwards after which all numbers fit. -/
def fitShift (bits : Nat) (l : List Int) : Nat → Int → Int
  | 0, t => t
  | n + 1, t => if fitsAll bits (l.map fun x => scaleBy x t) then t else fitShift bits l n (t + 1)

/-- Redundant sign bits of a 24-bit number. -/
def redundant (x : Int) : Nat :=
  let m := if x < 0 then (-x - 1).toNat else x.toNat
  23 - Nat.log2 (2 * m)

/-- The guard of a stage's input (07 R306). -/
def guardOf (l : List Int) : Nat := (l.map redundant).foldl min 23

/-- Stages of an N-point complex transform with its split: largest shift of each (07 R306). -/
def stageLimits (log2n : Nat) : List Nat := List.replicate (log2n / 2) 3 ++ List.replicate (log2n % 2) 2 ++ [2]

/-- The stages one after another, with the sum of their shifts (07 R306). -/
def runStages (inverse : Bool) (n : Nat) : List (Nat × Nat) → List Int → List Int × Nat
  | [], l => (l, 0)
  | (i, lim) :: t, l =>
    let sh := lim - guardOf l
    let (r, k) := runStages inverse n t ((Config.bceStage inverse n i l).map fun x => roundHalfEven x (2 ^ sh))
    (r, sh + k)

/-- A transform of class size N: forward, or inverse with the stages in reverse order (07 R304, R306, R311). -/
def transform (inverse : Bool) (cls : Nat) (l : List Int) : List Int × Nat :=
  let lims := (stageLimits (6 + 2 * cls)).zipIdx.map fun p => (p.2, p.1)
  runStages inverse (classSize cls) (if inverse then lims.reverse else lims) l

/-- The sanity check on the sum of the shifts (07 R312). -/
def shiftsOk (cls sum : Nat) : Bool := decide (sum ≤ 6 + 2 * cls + 2)

/-- Forward conversion of input samples: mantissas and e_in (07 R305). -/
def toMantissas (l : List Word) : List Int × Int :=
  let xs := l.map BitVec.toInt
  let e := fitShift 24 xs 24 (-16) - 8
  (xs.map fun x => scaleBy x (e + 8), e)

/-- Spectrum words from mantissas in pairs. -/
def spectrumWords (h : Int → BitVec 16) : List Int → List Word
  | a :: b :: r => (h b ++ h a) :: spectrumWords h r
  | _ => []

/-- Spectrum words and exponent from 24-bit mantissas with exponent e; `none` for a zero block (07 R307). -/
def packSpectrum (l : List Int) (e : Int) : Option (List Word × Int) :=
  if l.all fun x => x == 0 then none
  else
    let t := fitShift 16 l 32 (-15)
    some (spectrumWords (fun x => BitVec.ofInt 16 (scaleBy x t)) l, max (-127) (e - 8 + t))

/-- Real and imaginary mantissas of a spectrum word. -/
def unpackBin (w : Word) : Int × Int := ((w.extractLsb' 0 16).toInt, (w.extractLsb' 16 16).toInt)

/-- Exact products of the bins of two spectra; bin 0 holds two real bins (07 R307, R310). -/
def binProducts (a b : List Word) : List Int :=
  (a.zip b).zipIdx.flatMap fun p =>
    let (ar, ai) := unpackBin p.1.1
    let (br, bi) := unpackBin p.1.2
    if p.2 = 0 then [ar * br, ai * bi] else [ar * br - ai * bi, ar * bi + ai * br]

/-- The exponent that aligns a class's products, from the exponents of its non-zero pairs (07 R310). -/
def accExp (es : List Int) (c : Nat) : Int := es.foldl max (-300) + Nat.log2 (2 * c - 1) + 1

/-! ## Slices (07 R298, R319 to R321) -/

/-- Output block that a slice serves, and its deadline tick. -/
def State.sliceBlock (s : State) : Slice → Nat × Nat × Nat
  | .forward j cls k => (j, cls, k + s.segRatio j cls)
  | .multiply j _ cls b _ => (j, cls, b)
  | .inverse j _ cls b => (j, cls, b)

def State.sliceDeadline (s : State) (x : Slice) : Nat :=
  let (_, cls, b) := s.sliceBlock x
  b * classSize cls - 16

/-- Order among equal deadlines (07 R321). -/
def State.sliceRank (s : State) (x : Slice) : Nat :=
  let (j, cls, _) := s.sliceBlock x
  let r := match x with
    | .forward .. => 0
    | .multiply _ f _ _ p => 1 + f * 256 + p
    | .inverse _ f _ _ => 2 ^ 16 + f
  (cls * 128 + j) * 2 ^ 20 + r

/-- One slice goes before another: earlier deadline first, in time across groups. -/
def State.sliceBefore (s : State) (a b : Slice) : Bool :=
  let ta := s.sliceDeadline a * max 1 (s.fs (s.jobGroup (s.sliceBlock b).1))
  let tb := s.sliceDeadline b * max 1 (s.fs (s.jobGroup (s.sliceBlock a).1))
  decide (ta < tb) || ta == tb && decide (s.sliceRank a < s.sliceRank b)

/-- The engine takes the next slice when none runs. -/
def State.pickSlice (s : State) : State :=
  match s.bce.running with
  | some _ => s
  | none =>
    match s.bce.ready with
    | [] => s
    | x :: t =>
      let b := t.foldl (fun b y => if s.sliceBefore y b then y else b) x
      { s with bce := { s.bce with running := some b, ready := s.bce.ready.erase b } }

def State.addSlices (s : State) (l : List Slice) : State := ({ s with bce := { s.bce with ready := s.bce.ready ++ l } } : State).pickSlice

/-- The running slice is over. -/
def State.endSlice (s : State) : State := ({ s with bce := { s.bce with running := none } } : State).pickSlice

/-- A filter contributes to output block `b` of a class (07 R327, R328). -/
def State.contributes (s : State) (f cls b : Nat) : Bool :=
  let n := classSize cls
  s.fltState f != 0 && (match tabGet? f s.bce.on with
    | some a => decide (a ≤ b * n)
    | none => false) && (match tabGet? f s.bce.off with
    | some a => decide (b * n < a)
    | none => true)

/-- DROP bits for the tail blocks of an output block (07 R303). -/
def State.dropBlock (s : State) (f cls b : Nat) : State :=
  let n := classSize cls
  let qs := (List.range (n / 16)).map fun i => (f, b * n / 16 + i, 2 ^ cls)
  { s with bce := { s.bce with drops := s.bce.drops ++ qs } }

/-- A slice read an uncorrectable word of private memory: it reads as 0 (07 R318; 18 R750, R752). -/
def State.privError (s : State) (ue : Option Nat) : State :=
  match ue with
  | none => s
  | some w => ((s.privSet w 0).putFlag FLT_SUM_BCE_UE 0 true).raise 36

/-- Whether the slice read a shared word that gave 0; FLT_SUM.BCE_UE is set (18 R750). -/
def State.bceBad (s : State) : Bool × State :=
  let (bad, s) := s.takeBad
  (bad, if bad then s.putFlag FLT_SUM_BCE_UE 0 true else s)

/-- Slot of the FDL entry that lies `back` blocks before entry `k` (07 R308). -/
def State.fdlSlot (s : State) (j cls k back : Nat) : Nat :=
  let c := max 1 (s.segCount j cls)
  (k + (c - 1) * back) % c

/-- Where an FDL slot lies: location, first word, exponent word, index (07 R308). -/
def State.fdlPlace (s : State) (j cls slot : Nat) : Nat × Nat × Nat × Nat :=
  let base := s.reg BCE_JOB_FDL_BASE j
  let i := s.partIndex j cls slot
  (s.reg BCE_JOB_FDL_LOC j, base + s.partOffset j cls slot, base + s.partWords j + i / 4, i)

/-- Write an FDL entry; `none` writes a zero block. -/
def State.writeFdl (s : State) (j cls k : Nat) (v : Option (List Word × Int)) : State :=
  let (loc, w, ew, i) := s.fdlPlace j cls (s.fdlSlot j cls k 0)
  let (old, s) := s.locRead loc ew
  match v with
  | some (ws, e) =>
    let s := ws.zipIdx.foldl (fun (s : State) p => s.locWrite loc (w + p.2) p.1) s
    s.locWrite loc ew (setExpByte old i e)
  | none => s.locWrite loc ew (setExpByte old i (-128))

/-- A failed entry is remembered while its slot holds it. -/
def State.noteZeroed (s : State) (j cls k : Nat) (bad : Bool) : State :=
  let c := max 1 (s.segCount j cls)
  let keep := s.bce.zeroed.filter fun z => !(z.1 == j && z.2.1 == cls && z.2.2 % c == k % c)
  { s with bce := { s.bce with zeroed := if bad then (j, cls, k) :: keep else keep } }

/-- The multiply slices that a new FDL entry makes ready (07 R298, R321). -/
def State.multiplyReady (s : State) (j cls k : Nat) : State :=
  let b := k + s.segRatio j cls
  let fs := (s.jobFilters j).filter fun f => s.contributes f cls b
  s.addSlices (fs.flatMap fun f => (List.range (s.segCount j cls)).map fun p => Slice.multiply j f cls b p)

/-- Input samples of a forward slice: those before s_start read as 0 (07 R297). -/
def State.inputSamples (s : State) (j cls k : Nat) : List Word × State :=
  let n := classSize cls
  let ch := tabGet s.ingress (s.reg BCE_JOB_CFG_IN_CH j) {}
  (List.range (2 * n)).foldr (fun i (p : List Word × State) =>
    if k * n + i < n + s.jobStart j then (0 :: p.1, p.2)
    else
      let (v, s) := p.2.readAs 17 ch.bank (chanWord ch (k * n + i - n))
      (v :: p.1, s)) ([], s)

/-- A forward transform completes (07 R305 to R307, R312); an entry made from a word that read as 0 counts as a zeroed one for DROP
(18 R750). -/
def State.forwardDone (s : State) (j cls k : Nat) : State :=
  let (xs, s) := s.inputSamples j cls k
  let (m, e) := toMantissas xs
  let (bins, sum) := transform false cls m
  let ok := shiftsOk cls sum
  let s := if ok then s else (s.count BCE_EXP_CNT).raise 35
  let s := s.writeFdl j cls k (if ok then packSpectrum bins (e + sum) else none)
  let (lost, s) := s.bceBad
  (s.noteZeroed j cls k (!ok || lost)).multiplyReady j cls k

/-- FDL and spectrum of one partition: words and exponents. -/
def State.partPair (s : State) (j f cls b p : Nat) : (List Word × Int) × (List Word × Int) × State :=
  let n := classSize cls
  let (loc, w, ew, i) := s.fdlPlace j cls (s.fdlSlot j cls b (s.segRatio j cls + p))
  let (x, s) := s.locReads loc ((List.range n).map fun k => w + k)
  let (xe, s) := s.locRead loc ew
  let sl := s.reg BCE_FLT_SPEC_LOC f
  let sb := s.reg BCE_FLT_SPEC_BASE f
  let hi := s.partIndex j cls p
  let (h, s) := s.locReads sl ((List.range n).map fun k => sb + s.partOffset j cls p + k)
  let (he, s) := s.locRead sl (sb + s.partWords j + hi / 4)
  ((x, expByte xe i), (h, expByte he hi), s)

/-- The exponent of every partition pair of an output block that is not a zero block. -/
def State.pairExps (s : State) (j f cls b : Nat) : List Int :=
  (List.range (s.segCount j cls)).filterMap fun p =>
    let (loc, _, ew, i) := s.fdlPlace j cls (s.fdlSlot j cls b (s.segRatio j cls + p))
    let xe := expByte (s.locRead loc ew).1 i
    let hi := s.partIndex j cls p
    let he := expByte (s.locRead (s.reg BCE_FLT_SPEC_LOC f) (s.reg BCE_FLT_SPEC_BASE f + s.partWords j + hi / 4)).1 hi
    if xe = -128 ∨ he = -128 then none else some (xe + he)

/-- The multiply of one partition completes; the last one makes the inverse slice ready (07 R310, R320, R321). -/
def State.multiplyDone (s : State) (j f cls b p : Nat) : State :=
  let n := classSize cls
  let key := 4 * f + cls
  let eacc := accExp (s.pairExps j f cls b) (s.segCount j cls)
  let ((x, xe), (h, he), s) := s.partPair j f cls b p
  let acc := match tabGet? key s.bce.acc with
    | some l => l
    | none => List.replicate (2 * n) 0
  let acc := if xe = -128 ∨ he = -128 then acc
    else (acc.zip (binProducts x h)).map fun q =>
      let sh := eacc - (xe + he)
      q.1 + if 47 < sh then 0 else scaleBy q.2 sh
  let bad := s.bce.zeroed.any fun z => z.1 == j && z.2.1 == cls && z.2.2 + s.segRatio j cls + p == b
  let (lost, s) := s.bceBad
  let s := if bad || lost then s.dropBlock f cls b else s
  let s := { s with bce := { s.bce with acc := tabSet key acc s.bce.acc } }
  let more := s.bce.ready.any fun y => match y with
    | .multiply j' f' cls' b' _ => j' == j && f' == f && cls' == cls && b' == b
    | _ => false
  if more then s else s.addSlices [.inverse j f cls b]

/-- A saturating add into a ring word (07 R299, R311). -/
def State.ringAdd (s : State) (f n : Nat) (v : Int) : State :=
  let w := s.reg BCE_FLT_RING_BASE f + n % 2 ^ s.reg BCE_FLT_RING_RLOG2 f
  let sum := (s.privWord w).toInt + v
  let c := sat32 sum
  let s := s.privSet w (BitVec.ofInt 32 c)
  if c = sum then s else (s.count BCE_SAT_CNT).raise 34

/-- An output of an inverse transform in Q1.31: rounded and clamped. -/
def State.outConvert (s : State) (m e : Int) : Int × State :=
  let v := scaleBy m (-(e + 8))
  let c := sat32 v
  (c, if c = v then s else (s.count BCE_SAT_CNT).raise 34)

/-- The work of an output block is done or dropped. -/
def State.closeBlock (s : State) (f cls b : Nat) : State :=
  { s with bce := { s.bce with closed := ((f, cls, b) :: s.bce.closed).take 4096, acc := tabErase (4 * f + cls) s.bce.acc } }

/-- An inverse transform completes and adds its outputs into the ring (07 R299, R310 to R312). The block exponent after the
multiply stage follows the rule of R305; the factor 1 / 2N enters through it (R309). -/
def State.inverseDone (s : State) (j f cls b : Nat) : State :=
  let n := classSize cls
  let eacc := accExp (s.pairExps j f cls b) (s.segCount j cls)
  let acc := tabGet s.bce.acc (4 * f + cls) []
  let s := s.closeBlock f cls b
  if acc.all fun x => x == 0 then s
  else
    let t := fitShift 24 acc 64 (-23)
    let (out, sum) := transform true cls (acc.map fun x => scaleBy x t)
    let e := eacc - 30 + 23 + t + sum - (7 + 2 * cls : Nat)
    if shiftsOk cls sum then
      (out.drop n).zipIdx.foldl (fun (s : State) p =>
        let (v, s) := s.outConvert p.1 e
        s.ringAdd f (b * n + p.2) v) s
    else ((s.count BCE_EXP_CNT).raise 35).dropBlock f cls b

/-! ## Ticks (07 R297, R300, R303, R323, R326 to R328, R331) -/

/-- Input blocks released at tick `n` (07 R297). -/
def State.releaseBlocks (s : State) (g : GroupId) (n : Nat) : State :=
  ((List.range 128).filter fun j => s.jobValid j && s.jobGroup j == g && s.reg BCE_JOB_STATUS_STATE j == 2).foldl
    (fun (s : State) j => (s.jobClasses j).foldl (fun (s : State) cls =>
      let sz := classSize cls
      let k := n / sz - 1
      if n % sz = 0 ∧ s.jobStart j + sz ≤ n ∧ tabGet? (4 * j + cls) s.bce.released ≠ some k then
        ({ s with bce := { s.bce with released := tabSet (4 * j + cls) k s.bce.released } } : State).addSlices [.forward j cls k]
      else s) s) s

/-- A slice belongs to output block `b` of a class of a job. -/
def State.sliceOf (s : State) (j cls b : Nat) (x : Slice) : Bool := s.sliceBlock x == (j, cls, b)

/-- The deadline of output block `b` of a class of a job: what has not completed is abandoned (07 R323). -/
def State.deadline (s : State) (j cls b : Nat) : State :=
  let all := s.bce.ready ++ s.bce.running.toList
  let mine := all.filter (s.sliceOf j cls b)
  let fwd := mine.any fun x => match x with
    | .forward .. => true
    | _ => false
  let flts := (s.jobFilters j).filter fun f => s.contributes f cls b && !(s.bce.closed.any fun c => c == (f, cls, b))
    && (fwd || mine.any fun x => match x with
      | .multiply _ f' _ _ _ => f' == f
      | .inverse _ f' _ _ => f' == f
      | .forward .. => false)
  if mine.isEmpty then s
  else
    let run := match s.bce.running with
      | some x => if s.sliceOf j cls b x then none else some x
      | none => none
    let s := { s with bce := { s.bce with ready := s.bce.ready.filter fun x => !s.sliceOf j cls b x, running := run } }
    let k := b - s.segRatio j cls
    let s := if fwd then (s.writeFdl j cls k none).noteZeroed j cls k true else s
    let s := flts.foldl (fun (s : State) f => ((s.dropBlock f cls b).count BCE_FLT_MISS_CNT f).closeBlock f cls b) s
    let s := if flts.isEmpty then s else (s.count BCE_MISS_CNT).raise 32
    s.pickSlice

/-- All deadlines at tick `n` of a group. -/
def State.deadlines (s : State) (g : GroupId) (n : Nat) : State :=
  ((List.range 128).filter fun j => s.jobValid j && s.jobGroup j == g).foldl
    (fun (s : State) j => (s.jobClasses j).foldl (fun (s : State) cls =>
      if (n + 16) % classSize cls = 0 then s.deadline j cls ((n + 16) / classSize cls) else s) s) s

/-- A filter is on for tail block q (07 R300, R327, R328, R331). -/
def State.tailOn (s : State) (g : GroupId) (f q : Nat) : Bool :=
  s.fltState f != 0 && (match tabGet? f s.bce.on with
    | some a => decide (a ≤ 16 * q)
    | none => false) && (match tabGet? f s.bce.off with
    | some a => decide (16 * q < a)
    | none => true) && (match tabGet? g.val s.bce.stop with
    | some a => decide (16 * q < a)
    | none => true)

/-- DROP bits of a filter's tail block. -/
def State.dropBits (s : State) (f q : Nat) : Nat :=
  (s.bce.drops.filter fun d => d.1 == f && d.2.1 == q).foldl (fun b d => b ||| d.2.2) 0

/-- Delivery of tail block q of one filter: ring words copied and zeroed, and the stamp (07 R300, R303). -/
def State.deliverOn (s : State) (f q : Nat) : State :=
  let tb := s.reg BCE_FLT_TAIL_TB f
  let bank : BankId := Fin.ofNat 16 (s.reg BCE_FLT_TAIL_TBANK f)
  let ring := s.reg BCE_FLT_RING_BASE f
  let len := 2 ^ s.reg BCE_FLT_RING_RLOG2 f
  let s := (List.range 16).foldl (fun (s : State) i =>
    let n := 16 * q + i
    (s.writeAs 17 bank (tb + n % 64) (s.privWord (ring + n % len))).privSet (ring + n % len) 0) s
  let d := s.dropBits f q
  let s := s.writeAs 17 (Fin.ofNat 16 (s.reg BCE_FLT_STAMP_SBANK f)) (s.reg BCE_FLT_STAMP_SB f + q % 4)
    (BitVec.ofNat 32 (q % 2 ^ 28 + d * 2 ^ 28))
  s.put BCE_FLT_STATUS_LAST_DROP f d

/-- Delivery to a tail buffer on which no filter is on writes 0 (07 R300, R331). -/
def State.deliverOff (s : State) (f q : Nat) : State :=
  let tb := s.reg BCE_FLT_TAIL_TB f
  let bank : BankId := Fin.ofNat 16 (s.reg BCE_FLT_TAIL_TBANK f)
  let s := (List.range 16).foldl (fun (s : State) i => s.writeAs 17 bank (tb + (16 * q + i) % 64) 0) s
  s.writeAs 17 (Fin.ofNat 16 (s.reg BCE_FLT_STAMP_SBANK f)) (s.reg BCE_FLT_STAMP_SB f + q % 4) (BitVec.ofNat 32 (q % 2 ^ 28))

/-- Same tail buffer. -/
def State.sameTail (s : State) (a b : Nat) : Bool :=
  s.reg BCE_FLT_TAIL_TB a == s.reg BCE_FLT_TAIL_TB b && s.reg BCE_FLT_TAIL_TBANK a == s.reg BCE_FLT_TAIL_TBANK b

/-- Delivery of tail block q to every tail buffer of a group (07 R300). -/
def State.deliver (s : State) (g : GroupId) (q : Nat) : State :=
  let fs := (List.range 128).filter fun f => s.flag BCE_FLT_CFG_VALID f && s.jobValid (s.fltJob f) && s.fltGroup f == g
  let s := fs.foldl (fun (s : State) f =>
    if s.tailOn g f q then s.deliverOn f q
    else if fs.any (fun h => s.sameTail f h && (s.tailOn g h q || decide (h < f))) then s
    else s.deliverOff f q) s
  { s with bce := { s.bce with delivered := tabSet g.val q s.bce.delivered, drops := s.bce.drops.filter fun d => decide (q < d.2.1 + 2048) } }

/-- Delivery at tick t_{16q-16} while the engine runs (07 R300). -/
def State.tailDelivery (s : State) (g : GroupId) (n : Nat) : State :=
  if n % 16 = 0 ∧ s.flag BCE_STATUS_RUN ∧ tabGet? g.val s.bce.delivered ≠ some (n / 16 + 1) then s.deliver g (n / 16 + 1) else s

/-! ## Starting, enabling and stopping (07 R325 to R332) -/

/-- STATE of a filter changes: EV33. -/
def State.setFlt (s : State) (f st : Nat) : State := if s.fltState f = st then s else (s.put BCE_FLT_STATUS_STATE f st).raise 33

/-- s_on or s_off in BCE_FLT_EFF. -/
def State.fltEff (s : State) (f a : Nat) : State := s.put64 BCE_FLT_EFF_LO BCE_FLT_EFF_HI f a

/-- A filter takes s_on (07 R327). -/
def State.fltPend (s : State) (f nr : Nat) : State :=
  let j := s.fltJob f
  let a := nextMultiple (s.jobMax j) (max (nr + 1) (s.jobStart j) + s.jobLead j)
  let s := { s with bce := { s.bce with on := tabSet f a s.bce.on, off := tabErase f s.bce.off } }
  (s.fltEff f a).setFlt f 1

/-- Another filter that is not OFF names the same tail buffer, or the filter or its job is not valid (07 R330). -/
def State.fltRefused (s : State) (f : Nat) : Bool :=
  !s.flag BCE_FLT_CFG_VALID f || !s.jobValid (s.fltJob f)
    || (List.range 128).any fun h => h != f && s.fltState h != 0 && s.sameTail f h

/-- Jobs wait for s_start (07 R326). -/
def State.jobsStart (s : State) (l : List Nat) : State :=
  l.foldl (fun (s : State) j =>
    let (nr, s) := s.regTick (s.jobGroup j)
    let a := nextMultiple (s.jobMax j) (nr + 1)
    (s.put64 BCE_JOB_START_LO BCE_JOB_START_HI j a).put BCE_JOB_STATUS_STATE j 1) s

/-- The jobs wait for s_start and the filters enabled before take s_on (07 R326, R327). -/
def State.bceStart (s : State) : State :=
  let s := (s.putFlag BCE_STATUS_RUN 0 true).jobsStart ((List.range 128).filter fun j => s.jobValid j)
  ((List.range 128).filter fun f => s.flag BCE_FLT_CTL_EN f).foldl (fun (s : State) f =>
    if s.fltState f ≠ 0 then s
    else if s.fltRefused f then (s.putFlag BCE_FLT_CTL_EN f false).putFlag BCE_STATUS_EN_ERR 0 true
    else s.fltPend f (s.jobStart (s.fltJob f) - 1)) s

/-- A write of BCE_CTL.EN = 1; while a stop runs, the start follows it (07 R326; log entry 25). -/
def State.bceEnable (s : State) : State :=
  if s.flag BCE_CTL_EN then s
  else
    let s := s.putFlag BCE_CTL_EN 0 true
    if s.flag BCE_STATUS_STOPPING then s else s.bceStart

/-- A write of BCE_CTL.EN = 0 (07 R331). -/
def State.bceStop (s : State) : State :=
  if !s.flag BCE_CTL_EN then s
  else
    let s := s.putFlag BCE_CTL_EN 0 false
    if s.flag BCE_STATUS_STOPPING then s
    else
      let s := s.putFlag BCE_STATUS_STOPPING 0 true
      (List.finRange 4).foldl (fun (s : State) g =>
        let (nr, s) := s.regTick g
        { s with bce := { s.bce with stop := tabSet g.val (nextMultiple 16 (nr + 17)) s.bce.stop } }) s

/-- Words of FDLs and rings become 0 (07 R331, R332). -/
def State.bceZero (s : State) : State :=
  let s := ((List.range 128).filter fun j => s.jobValid j).foldl (fun (s : State) j =>
    let base := s.reg BCE_JOB_FDL_BASE j
    let p := s.partIndex j 4 0
    (List.range (s.partWords j + (p + 3) / 4)).foldl (fun (s : State) i => s.locWrite (s.reg BCE_JOB_FDL_LOC j) (base + i) 0) s) s
  ((List.range 128).filter fun f => s.flag BCE_FLT_CFG_VALID f).foldl (fun (s : State) f =>
    (List.range (2 ^ s.reg BCE_FLT_RING_RLOG2 f)).foldl (fun (s : State) i => s.privSet (s.reg BCE_FLT_RING_BASE f + i) 0) s) s

/-- Tail buffers and stamp tables become 0 (07 R318, R332). -/
def State.tailZero (s : State) : State :=
  ((List.range 128).filter fun f => s.flag BCE_FLT_CFG_VALID f).foldl (fun (s : State) f =>
    let s := (List.range 64).foldl (fun (s : State) i =>
      s.setBankWord (Fin.ofNat 16 (s.reg BCE_FLT_TAIL_TBANK f)) (s.reg BCE_FLT_TAIL_TB f + i) 0) s
    (List.range 4).foldl (fun (s : State) i =>
      s.setBankWord (Fin.ofNat 16 (s.reg BCE_FLT_STAMP_SBANK f)) (s.reg BCE_FLT_STAMP_SB f + i) 0) s) s

/-- Zero delivery of the four tail blocks from s_stop is over in every group with a running job (07 R331). -/
def State.stopDone (s : State) : Bool :=
  (List.finRange 4).all fun g =>
    !((List.range 128).any fun j => s.jobValid j && s.jobGroup j == g && s.reg BCE_JOB_STATUS_STATE j != 0)
      || (match tabGet? g.val s.bce.stop, tabGet? g.val s.bce.delivered with
        | some a, some q => decide (a / 16 + 3 ≤ q)
        | _, _ => false)

/-- The engine idles: jobs idle, filters OFF, FDLs and rings zeroed (07 R331). -/
def State.bceIdle (s : State) : State :=
  let s := ((List.range 128).filter fun j => s.jobValid j).foldl (fun (s : State) j => s.put BCE_JOB_STATUS_STATE j 0) s
  let s := ((List.range 128).filter fun f => s.flag BCE_FLT_CFG_VALID f).foldl (fun (s : State) f => s.setFlt f 0) s
  let s := s.bceZero
  { s with bce := { priv := s.bce.priv } }

/-- The stop completes (07 R331). -/
def State.bceStopComplete (s : State) : State :=
  if s.flag BCE_STATUS_STOPPING ∧ s.stopDone then
    let s := s.bceIdle
    let s := ((s.putFlag BCE_STATUS_RUN 0 false).putFlag BCE_STATUS_STOPPING 0 false).raise 38
    if s.flag BCE_CTL_EN then s.bceStart else s
  else s

/-- A write of 1 to EN of a filter (07 R327, R330). -/
def State.fltEnable (s : State) (f : Nat) : State :=
  if s.fltState f ≠ 0 ∨ s.flag BCE_FLT_CTL_EN f then s
  else if s.fltRefused f then s.putFlag BCE_STATUS_EN_ERR 0 true
  else
    let s := s.putFlag BCE_FLT_CTL_EN f true
    if s.flag BCE_STATUS_RUN ∧ !s.flag BCE_STATUS_STOPPING then
      let (nr, s) := s.regTick (s.fltGroup f)
      s.fltPend f nr
    else s

/-- A write of 0 to EN of a filter (07 R328). -/
def State.fltDisable (s : State) (f : Nat) : State :=
  if !s.flag BCE_FLT_CTL_EN f then s
  else
    let s := s.putFlag BCE_FLT_CTL_EN f false
    if s.fltState f = 1 ∨ s.fltState f = 2 then
      let (nr, s) := s.regTick (s.fltGroup f)
      let a := nextMultiple 16 (nr + 17)
      let s := { s with bce := { s.bce with off := tabSet f a s.bce.off } }
      (s.fltEff f a).setFlt f 3
    else s

/-- A swap of filters OLD and NEW (07 R329). -/
def State.fltSwap (s : State) : State :=
  let o := s.reg BCE_SWAP_OLD
  let w := s.reg BCE_SWAP_NEW
  if s.fltJob o = s.fltJob w ∧ s.sameTail o w ∧ s.fltState o = 2 ∧ s.fltState w = 0 ∧ s.flag BCE_FLT_CFG_VALID w
      ∧ s.jobValid (s.fltJob w) then
    let (nr, s) := s.regTick (s.fltGroup w)
    let s := (s.putFlag BCE_FLT_CTL_EN w true).fltPend w nr
    let a := tabGet s.bce.on w 0
    let s := { s with bce := { s.bce with off := tabSet o a s.bce.off } }
    ((s.putFlag BCE_FLT_CTL_EN o false).fltEff o a).setFlt o 3
  else s.putFlag BCE_STATUS_SWAP_ERR 0 true

/-! ## Commands -/

/-- BCE_ENABLE (07 R326). -/
def execBceEnable (s : State) : Out := .next s.bceEnable

/-- BCE_JOB_START (07 R326): at tick s_start. -/
def execBceJobStart (j : Fin 128) (s : State) : Out :=
  .next (if s.reg BCE_JOB_STATUS_STATE j.val = 1 ∧ s.jobStart j.val ≤ s.tickNow (s.jobGroup j.val) then s.put BCE_JOB_STATUS_STATE j.val 2
    else s)

/-- BCE_STOP (07 R331). -/
def execBceStop (s : State) : Out := .next s.bceStop

/-- BCE_STOP_COMPLETE (07 R331). -/
def execBceStopComplete (s : State) : Out := .next s.bceStopComplete

/-- FILTER_ENABLE (07 R327). -/
def execFilterEnable (f : Fin 128) (s : State) : Out := .next (s.fltEnable f.val)

/-- FILTER_DISABLE (07 R328). -/
def execFilterDisable (f : Fin 128) (s : State) : Out := .next (s.fltDisable f.val)

/-- FILTER_SWAP (07 R329). -/
def execFilterSwap (s : State) : Out := .next s.fltSwap

/-- FILTER_ON (07 R327): at tick s_on. -/
def execFilterOn (f : Fin 128) (s : State) : Out :=
  .next (match tabGet? f.val s.bce.on with
    | some a => if s.fltState f.val = 1 ∧ a ≤ s.tickNow (s.fltGroup f.val) then s.setFlt f.val 2 else s
    | none => s)

/-- FILTER_OFF (07 R328): at tick s_off. -/
def execFilterOff (f : Fin 128) (s : State) : Out :=
  .next (match tabGet? f.val s.bce.off with
    | some a => if s.fltState f.val = 3 ∧ a ≤ s.tickNow (s.fltGroup f.val) then
        ({ s with bce := { s.bce with on := tabErase f.val s.bce.on, off := tabErase f.val s.bce.off } } : State).setFlt f.val 0
      else s
    | none => s)

/-- INPUT_BLOCK_RELEASE (07 R297). -/
def execInputBlockRelease (g : GroupId) (s : State) : Out := .next (s.releaseBlocks g (s.tickNow g))

/-- FORWARD_SLICE_COMPLETE (07 R320): the running forward slice completes; `ue` is a word of private memory that it read as
uncorrectable. -/
def execForwardSliceComplete (ue : Option Nat) (s : State) : Out :=
  .next (match s.bce.running with
    | some (.forward j cls k) => ((s.privError ue).forwardDone j cls k).endSlice
    | _ => s)

/-- MULTIPLY_SLICE_COMPLETE (07 R320). -/
def execMultiplySliceComplete (ue : Option Nat) (s : State) : Out :=
  .next (match s.bce.running with
    | some (.multiply j f cls b p) =>
      let s := if ue.isSome then (s.privError ue).dropBlock f cls b else s
      (s.multiplyDone j f cls b p).endSlice
    | _ => s)

/-- INVERSE_SLICE_COMPLETE (07 R311). -/
def execInverseSliceComplete (ue : Option Nat) (s : State) : Out :=
  .next (match s.bce.running with
    | some (.inverse j f cls b) =>
      let s := if ue.isSome then (s.privError ue).dropBlock f cls b else s
      (s.inverseDone j f cls b).endSlice
    | _ => s)

/-- BCE_DEADLINE (07 R323): the deadlines that fall at this tick. -/
def execBceDeadline (g : GroupId) (s : State) : Out := .next (s.deadlines g (s.tickNow g))

/-- TAIL_DELIVERY (07 R300). -/
def execTailDelivery (g : GroupId) (s : State) : Out := .next (s.tailDelivery g (s.tickNow g))

/-- BCE_BUSY_WINDOW (07 R333): the busy fraction of the last second. -/
def execBceBusyWindow (busy : Half) (s : State) : Out :=
  .next (let s := s.put BCE_DENSITY_BUSY 0 busy.toNat
    if s.reg BCE_CTL_WARN * 256 < busy.toNat then s.raise 39 else s)

end Sys2Proof.Machine
end

