-- ==== Sys2Proof/Machine/Sap.lean ====
section
/-!
DEFINITION. Serial audio ports: word conversion, master and slave framing, slips, opening, muting, closing and the master clocks
(chapter 10).
-/

namespace Sys2Proof.Machine

open Sys2Proof

/-! ## Formats and words (10 R433 to R439) -/

def State.sapSlots (s : State) (p : PortId) : Nat := s.reg SAP_CFG_SLOTS p.val + 1
def State.sapSlotBits (s : State) (p : PortId) : Nat := 16 + 8 * s.reg SAP_CFG_SLOTW p.val
def State.sapWordBits (s : State) (p : PortId) : Nat :=
  match s.reg SAP_CFG_WORDW p.val with
  | 0 => 16
  | 1 => 20
  | 2 => 24
  | _ => 32

/-- MODE = MASTER (10 R444). -/
def State.sapMaster (s : State) (p : PortId) : Bool := s.reg SAP_CFG_MODE p.val == 0
def State.sapGroup (s : State) (p : PortId) : GroupId := Fin.ofNat 4 (s.reg SAP_CFG_GROUP p.val)

/-- A line is an output (10 R431). -/
def State.sapOutput (s : State) (p : PortId) (line : Nat) : Bool :=
  if line = 0 then s.flag SAP_CFG_DIR0 p.val else s.flag SAP_CFG_DIR1 p.val

/-- STATE of a port (10 R461). -/
def State.sapState (s : State) (p : PortId) : Nat := s.reg SAP_STATUS_STATE p.val

/-- The word within a slot of `sw` bits: left-aligned, or with its least significant bit in the slot's last (10 R433). -/
def slotWord (right : Bool) (sw ww : Nat) (slot : Word) : Nat := (if right then slot.toNat else slot.toNat / 2 ^ (sw - ww)) % 2 ^ ww

/-- An input word of `ww` bits as a Q1.31 sample (10 R437). -/
def sapIn (ww w : Nat) : Word := BitVec.ofNat 32 (w % 2 ^ ww * 2 ^ (32 - ww))

/-- A Q1.31 sample as an output word of `ww` bits, truncated or rounded and clamped (10 R438). -/
def sapOut (round : Bool) (ww : Nat) (x : Word) : Nat :=
  let y := if round then min (roundHalfEven x.toInt (2 ^ (32 - ww))) (2 ^ (ww - 1) - 1) else x.toInt / 2 ^ (32 - ww)
  (y % 2 ^ ww).toNat

/-- Key of a line and a slot. -/
def slotKey (line slot : Nat) : Nat := line * 32 + slot

/-- A word under the port's mute (10 R452). -/
def Port.muteWord (x : Port) (w : Word) : Word :=
  match x.muteRamp with
  | some r => ramp64 (some r) w
  | none => if x.mute then 0 else w

/-- The value that a route sends of sample `m`. -/
def State.sentOf (s : State) (route m : Nat) : Option Word :=
  ((tabGet s.sent route []).find? fun p => p.1 == m).map fun p => p.2

/-- One slot of an output frame that carries sample `m` (10 R438, R443, R452). -/
def State.outSlot (s : State) (p : PortId) (line slot m : Nat) : Option Nat :=
  match s.routes.find? (fun r => (r.2.kind == 1 || r.2.kind == 2) && r.2.snk == epSap p.val line slot) with
  | some r => some (sapOut (s.flag SAP_CFG_ORND p.val) (s.sapWordBits p) ((s.port p).muteWord ((s.sentOf r.1 m).getD 0)))
  | none => if s.flag SAP_CFG_HIZ p.val then none else some 0

/-- The output frame of sample `m`. -/
def State.outFrame (s : State) (p : PortId) (m : Nat) : Tab (Option Nat) :=
  ((List.range 2).filter fun l => s.sapOutput p l).flatMap fun line =>
    (List.range (s.sapSlots p)).map fun slot => (slotKey line slot, s.outSlot p line slot m)

/-! ## Input words (10 R443, R446, R448, R450; 09 R386) -/

/-- Converted words of a frame, by line and slot. -/
def State.frameWords (s : State) (p : PortId) (line0 line1 : List Word) : Tab Word :=
  ((List.range 2).filter fun l => !s.sapOutput p l).flatMap fun line =>
    (List.range (s.sapSlots p)).map fun slot =>
      let raw := (if line = 0 then line0 else line1).getD slot 0
      let w := slotWord (s.reg SAP_CFG_FMT p.val == 2) (s.sapSlotBits p) (s.sapWordBits p) raw
      (slotKey line slot, sapIn (s.sapWordBits p) w)

/-- Write a frame's words into the ingress words of sample `n`; slots that `ws` does not list give 0. -/
def State.writeFrame (s : State) (p : PortId) (n cap : Nat) (ws : Tab Word) : State :=
  let slots := (List.range 2).flatMap fun line => (List.range (s.sapSlots p)).map fun slot => (line, slot)
  s.placeAll (slots.flatMap fun q =>
    (s.inRoutes (epSap p.val q.1 q.2)).map fun r =>
      { c := epChan r.2.snk, m := n, x := tabGet ws (slotKey q.1 q.2) 0, cap := cap }) true

/-- A slip (10 R448). -/
def State.sapSlip (s : State) (p : PortId) : State := (s.count SAP_SLIP_CNT p.val).raise 73

/-- A tick without a frame of its own receives the previous frame's words once more (10 R448). -/
def State.sapRepeat (s : State) (p : PortId) (n : Nat) : State :=
  let x := s.port p
  let s := (s.writeFrame p n x.stamp x.inWords).sapSlip p
  s.setPort p { s.port p with inAt := some n }

/-! ## Opening, muting and closing (10 R449 to R453) -/

/-- STATE changes; EV72 when the port enters RUNNING or closes. -/
def State.sapSet (s : State) (p : PortId) (st : Nat) : State :=
  let s := s.put SAP_STATUS_STATE p.val st
  if st = 0 ∨ st = 2 then s.raise 72 else s

/-- The frame in progress has ended and the port closes (10 R453). -/
def State.sapClose (s : State) (p : PortId) : State :=
  let x := s.port p
  (s.setPort p { x with a := none, closing := false, wellFormed := 0, bounded := false, inAt := none, inWords := [], outOf := none,
                        out := [] }).sapSet p 0

/-- a of a master port (10 R449). -/
def State.sapEff (s : State) (p : PortId) (a : Nat) : State :=
  (s.setPort p { s.port p with a := some a }).put64 SAP_EFF_LO SAP_EFF_HI p.val a

/-- A write of EN = 1. A port that waits to close stays open; without a tick begun, a counts from the group's first tick
(10 R449, R451, R460). -/
def State.portOpen (s : State) (p : PortId) : State :=
  let g := s.sapGroup p
  if s.fs g = 0 then s.raise 77
  else if s.flag SAP_CTL_EN p.val then s
  else
    let s := s.putFlag SAP_CTL_EN p.val true
    let x := s.port p
    if x.closing then s.setPort p { x with closing := false }
    else if s.sapState p != 0 then s
    else
      let s := s.setPort p { x with since := s.cycles, wellFormed := 0, bounded := false }
      if s.sapMaster p then (if (s.group g).begun then s.sapEff p ((s.group g).n + 2) else s)
      else s.put SAP_STATUS_STATE p.val 1

/-- A write of EN = 0: a port that frames closes at the end of the frame in progress, another at once (10 R453). -/
def State.portClose (s : State) (p : PortId) : State :=
  if !s.flag SAP_CTL_EN p.val then s
  else
    let s := s.putFlag SAP_CTL_EN p.val false
    let st := s.sapState p
    if st = 2 then s.setPort p { s.port p with closing := true }
    else if st = 0 then s.setPort p { s.port p with a := none }
    else s.sapClose p

/-- The port's mute at a tick (10 R452). -/
def Port.muteTick (x : Port) (want : Bool) : Port :=
  match x.muteRamp with
  | none => if want = x.mute then x else { x with mute := want, muteRamp := some { down := want } }
  | some r =>
    if want ≠ x.mute then { x with mute := want, muteRamp := some { down := want, j := turned 64 r.j } }
    else if 64 ≤ r.j then { x with muteRamp := none }
    else { x with muteRamp := some { r with j := r.j + 1 } }

/-- A master port at tick `n`: the frame before ends, and a first or next frame begins with the words of sample n - 1
(10 R443, R449, R453, R460). -/
def State.masterTick (s : State) (p : PortId) (n : Nat) : State :=
  let x := s.port p
  let st := s.sapState p
  let s := if st = 2 ∧ x.closing then s.sapClose p else s
  let s :=
    if st = 0 ∧ s.flag SAP_CTL_EN p.val then
      match x.a with
      | none => s.sapEff p (n + 1)
      | some a =>
        if s.cycles ≤ x.since + cycles200ns ∧ a = n + 1 then
          let (early, s) := s.chooseBool
          if early then s else s.sapEff p (n + 2)
        else if a ≤ n then s.sapSet p 2
        else s
    else s
  if s.sapState p = 2 then
    s.setPort p { s.port p with stamp := s.tim, out := s.outFrame p (n - 1), outOf := some (n - 1) }
  else s

/-- Whether sample `n` has words of a frame, written already or at this tick by repetition. -/
def State.sapZero (s : State) (p : PortId) (n : Nat) : Bool :=
  let x := s.port p
  if s.sapState p != 2 then true
  else if s.sapMaster p then (match x.a with
    | some a => decide (n ≤ a)
    | none => true)
  else x.inAt.isNone

/-- A port at tick `n` of its group, before the samples start (10 R443, R448, R450, R452, R455). -/
def State.portTick (s : State) (p : PortId) (n : Nat) : State :=
  let s := s.setPort p ((s.port p).muteTick (s.flag SAP_CTL_MUTE p.val))
  let s := s.putFlag SAP_STATUS_RAMPING p.val (s.port p).muteRamp.isSome
  let s := if s.sapMaster p then s.masterTick p n else s
  if s.sapZero p n then s.writeFrame p n s.tim []
  else if s.sapMaster p then s
  else match (s.port p).inAt with
    | some m => if m < n then s.sapRepeat p n else s
    | none => s

/-- All ports of a group at a tick. -/
def State.portsTick (s : State) (g : GroupId) (n : Nat) : State :=
  ((List.finRange 16).filter fun p => s.sapGroup p == g).foldl (fun (s : State) p => s.portTick p n) s

/-! ## Frames (10 R443 to R448, R454, R456) -/

/-- 400 ns in units of the time counter. -/
def tim400ns : Nat := 400 * timPerNs

/-- First tick at or after time `b`, and its time (10 R446). For a group that follows an external clock the ticks are reckoned
from the last one at the nominal rate (log entry 20). -/
def State.tickAfter (s : State) (g : GroupId) (b : Nat) : Nat × Nat :=
  let fs := max 1 (s.fs g)
  let x := s.group g
  if s.tickFromTime g then
    let n := (b * fs + timPerSec - 1) / timPerSec
    (n, n * timPerSec / fs)
  else
    let k := ((b - x.tickTim) * fs + timPerSec - 1) / timPerSec
    (x.n + k, x.tickTim + k * timPerSec / fs)

/-- Last tick at or before time `b` (10 R446). -/
def State.tickBefore (s : State) (g : GroupId) (b : Nat) : Nat :=
  let x := s.group g
  if s.tickFromTime g then b * s.fs g / timPerSec else if x.tickTim ≤ b then x.n else x.n - 1

/-- A slave port's output frame begins with its boundary (10 R446, R448). -/
def State.slaveOut (s : State) (p : PortId) : State :=
  let x := s.port p
  let m := s.tickBefore (s.sapGroup p) (s.tim - tim400ns) - 1
  let s := s.setPort p { x with out := s.outFrame p m, outOf := some m }
  match x.outOf with
  | some k => if m = k + 1 then s else s.sapSlip p
  | none => s

/-- A slave frame's words are assigned to their tick; ticks passed over repeat the frame before (10 R446, R448). -/
def State.slaveIn (s : State) (p : PortId) (ws : Tab Word) : State :=
  let n := (s.tickAfter (s.sapGroup p) (s.tim + tim400ns)).1
  let x := s.port p
  let s := match x.inAt with
    | some m =>
      if n ≤ m then s.sapSlip p
      else ((List.range (n - (m + 1))).filter fun i => decide (i < 64)).foldl (fun (s : State) i => s.sapRepeat p (m + 1 + i)) s
    | none => s
  let s := s.writeFrame p n x.stamp ws
  s.setPort p { s.port p with inAt := some n, inWords := ws }

/-- The boundary's time stamp and phase (10 R445, R447, R461). -/
def State.sapStamp (s : State) (p : PortId) : State :=
  let s := s.setPort p { s.port p with stamp := s.tim, bounded := true }
  let s := s.put SAP_FS_NS p.val s.timNs
  if s.sapMaster p then s.put SAP_PHASE_PHI p.val 0
  else
    let t := (s.tickAfter (s.sapGroup p) (s.tim + tim400ns)).2
    s.put SAP_PHASE_PHI p.val (min (2 ^ 24 - 1) ((t - s.tim) / (5 * 2 ^ 48)))

/-- A frame of a slave port ends (10 R446 to R449, R454, R456). -/
def State.slaveFrame (s : State) (p : PortId) (ws : Tab Word) (malformed : Bool) : State :=
  let st := s.sapState p
  let s := if malformed then (s.count SAP_FRERR_CNT p.val).raise 74 else s
  let s := if st = 2 ∧ (s.port p).outOf.isSome then s.slaveIn p (if malformed then [] else ws) else s
  if (s.port p).closing then (s.sapClose p).sapStamp p
  else
    let x := s.port p
    let s := s.setPort p { x with wellFormed := if malformed then 0 else x.wellFormed + 1 }
    let ready := (st == 1 || st == 3) && !malformed && decide (2 ≤ (s.port p).wellFormed)
    let s := if ready then
        let s := (s.setPort p { s.port p with outOf := none, inAt := none }).sapSet p 2
        if st = 3 then s.raise 76 else s
      else s
    let s := if s.sapState p = 2 then s.slaveOut p else s
    s.sapStamp p

/-- A frame of a master port ends at the tick that begins now, or that has just begun: its words are those of that sample
(10 R443). The frame must have begun at t_a or later. -/
def State.masterFrame (s : State) (p : PortId) (ws : Tab Word) : State :=
  let g := s.sapGroup p
  let n := (s.dueTick g).getD (s.group g).n
  let x := s.port p
  match x.a with
  | some a =>
    if a < n ∧ x.inAt ≠ some n then
      let s := s.writeFrame p n x.stamp ws
      let s := s.setPort p { s.port p with inAt := some n, inWords := ws }
      if x.closing then (s.sapStamp p).sapClose p else s.sapStamp p
    else s
  | none => s

/-- A port frame ends. `line0` and `line1` are the slots received, SLOTW bits each (10 R433 to R448). -/
def State.sapFrame (s : State) (p : PortId) (line0 line1 : List Word) (malformed : Bool) : State :=
  let ws := s.frameWords p line0 line1
  let st := s.sapState p
  if st = 0 ∨ !s.ticking (s.sapGroup p) then s
  else if s.sapMaster p then (if st = 2 then s.masterFrame p ws else s)
  else s.slaveFrame p ws malformed

/-- No frame boundary for 2 frame periods (10 R455). -/
def State.slaveLost (s : State) (p : PortId) : State :=
  let x := s.port p
  let st := s.sapState p
  let past := decide (2 * timPerSec ≤ (s.tim - x.stamp) * s.fs (s.sapGroup p))
  if !s.sapMaster p && x.bounded && (st == 1 || st == 2) && past then
    let s := s.setPort p { x with wellFormed := 0, inAt := none, inWords := [], outOf := none, out := [], bounded := false }
    let s := if x.closing then s.sapClose p else s.put SAP_STATUS_STATE p.val 3
    (s.count SAP_LOST_CNT p.val).raise 75
  else s

/-! ## Commands -/

/-- PORT_OPEN (10 R449). -/
def execPortOpen (p : PortId) (s : State) : Out := .next (s.portOpen p)

/-- PORT_CLOSE (10 R453). -/
def execPortClose (p : PortId) (s : State) : Out := .next (s.portClose p)

/-- PORT_CLOSE_COMPLETE (10 R453): the frame in progress of a port that waits to close has ended. -/
def execPortCloseComplete (p : PortId) (s : State) : Out := .next (if (s.port p).closing then s.sapClose p else s)

/-- PORT_MUTE (10 R452): it takes effect at the next tick. -/
def execPortMute (p : PortId) (mute : Bool) (s : State) : Out := .next (s.putFlag SAP_CTL_MUTE p.val mute)

/-- SAP_FRAME (10 R446). -/
def execSapFrame (p : PortId) (line0 line1 : List Word) (malformed : Bool) (s : State) : Out :=
  .next (s.sapFrame p line0 line1 malformed)

/-- SLAVE_CLOCK_LOST (10 R455). -/
def execSlaveClockLost (p : PortId) (s : State) : Out := .next (s.slaveLost p)

/-- A write of SAP_MCLK: EN and SRC take the written values, M when it is 8 or more (10 R457, R462). -/
def State.mclkWrite (s : State) (k : Nat) (v : Word) : State :=
  let s := (s.putFlag SAP_MCLK_EN k (v.getLsbD 0)).putFlag SAP_MCLK_SRC k (v.getLsbD 1)
  let m := v.toNat / 2 ^ 8 % 2 ^ 8
  if 8 ≤ m then s.put SAP_MCLK_M k m else s

/-- MCLK_CONTROL (10 R457). -/
def execMclkControl (k : Fin 4) (v : Word) (s : State) : Out := .next (s.mclkWrite k.val v)

end Sys2Proof.Machine
end

