-- ==== Sys2Proof/Machine/Link.lean ====
section
/-!
DEFINITION. The Ronzu device link: frames, retry and concealment, port states, rings, delay measurement, and the services of the
control field (chapter 11).
-/

namespace Sys2Proof.Machine

open Sys2Proof

def State.link (s : State) (p : LinkId) : LinkPort := s.links[p]
def State.setLink (s : State) (p : LinkId) (x : LinkPort) : State := { s with links := s.links.set p x }

/-! ## Rates, indices and ticks (11 R464, R466) -/

/-- Segments and retry entries of a port's frames (11 R464). -/
def State.linkSegs (s : State) (p : LinkId) : Nat := 64 / 2 ^ s.reg RLK_CFG_RATE p.val
def State.linkRetries (s : State) (p : LinkId) : Nat := 8 / 2 ^ s.reg RLK_CFG_RATE p.val

/-- f_base of the ports (11 R466). -/
def State.linkBase (s : State) : Nat := if s.flag RLK_GLB_CFG_FAMILY then 44100 else 48000

/-- Link index of the last tick (11 R509). -/
def State.linkIdx (s : State) : Nat := s.reg64 RLK_IDX_LO RLK_IDX_HI

/-- The link tick nearest to the present counter time (11 R466). -/
def State.nearestLink (s : State) : Nat := (s.tim * s.linkBase + timPerSec / 2) / timPerSec % 2 ^ 48

/-- The link tick that is due; none when the last one is the nearest. -/
def State.dueLink (s : State) : Option Nat := if s.linkBegun ∧ s.nearestLink = s.linkIdx then none else some s.nearestLink

/-- Sample rate of a group over f_base (11 R466). -/
def State.linkMult (s : State) (g : GroupId) : Nat := max 1 (s.fs g / s.linkBase)

/-- Segment header fields (11 R472). -/
def hdrOrigin (h : Word) : Nat := h.toNat % 2 ^ 12
def hdrOidx (h : Word) : Nat := h.toNat / 2 ^ 12 % 2 ^ 16
def hdrValid (h : Word) : Bool := h.getLsbD 28
def hdrConcealed (h : Word) : Bool := h.getLsbD 29
def mkHeader (origin oidx : Nat) : Word := BitVec.ofNat 32 (origin % 2 ^ 12 + oidx % 2 ^ 16 * 2 ^ 12 + 2 ^ 28)

/-- CRC of a segment (11 R471, R472). -/
def segCrc (words : List Word) (header : Word) : Word := crc32cWords (words ++ [header])

def segOk (x : LinkSeg) : Bool := x.crc == segCrc x.words x.header

/-- A segment without data (11 R475). -/
def emptySeg : RxSeg := { words := List.replicate 64 0, header := 0, used := false }

/-- A field of a control word. -/
def cfBits (cf : List Word) (w lo n : Nat) : Nat := (cf.getD w 0).toNat / 2 ^ lo % 2 ^ n

/-- The control field's CRC passes (11 R470, R471). -/
def cfOk (cf : List Word) : Bool := cf.length == 64 && cf.getD 63 0 == crc32cWords (cf.take 63)

/-- A valid frame start: the rate code matches and the reserved bits are 0 (11 R469). -/
def State.fsOk (s : State) (p : LinkId) (f : LinkFrame) : Bool := f.fsCode.toNat == s.reg RLK_CFG_RATE p.val

/-! ## Time stamps (11 R470, R497, R498): units of 2^-16 ns, seconds modulo 2^16 -/

def stampMod : Nat := 65536 * 1000000000 * 65536

def stampWords (t : Nat) : List Word :=
  let ns := t / 65536 % 1000000000
  [BitVec.ofNat 32 ns, BitVec.ofNat 32 (t % 65536 + t / 65536 / 1000000000 % 65536 * 65536)]

def stampOf (a b : Word) : Nat := (b.toNat / 65536 * 1000000000 + a.toNat % 2 ^ 30) * 65536 + b.toNat % 65536

/-- Signed difference of two stamps. -/
def stampDiff (a b : Nat) : Int :=
  let d := (a + stampMod - b % stampMod) % stampMod
  if stampMod / 2 ≤ d then (d : Int) - stampMod else d

/-- d and theta in units of 2^-8 ns (11 R498). -/
def delayOf (t1 t2 t3 t4 : Nat) (asym : Int) : Int × Int :=
  ((stampDiff t4 t1 - stampDiff t3 t2) / 512 + asym, (stampDiff t2 t1 - stampDiff t4 t3) / 512 - asym)

/-! ## Port states (11 R487 to R496) -/

def State.linkState (s : State) (p : LinkId) : Nat := s.reg RLK_STATUS_STATE p.val

/-- Event e of port p (11 R510). -/
def State.linkEvent (s : State) (p : LinkId) (e : Nat) : State := s.raise (80 + 4 * p.val + e)

/-- The port with a ring role: TOPO 3 = RING_E, 4 = RING_W. -/
def State.ringPort (s : State) (role : Nat) : Option LinkId :=
  if s.flag RLK_GLB_CFG_RING then (List.finRange 4).find? fun p => s.reg RLK_CFG_TOPO p.val == role else none

/-- Wrapped at RING_E (bit 0) or at RING_W (bit 1) (11 R494). -/
def State.wrappedAt (s : State) (role : Nat) : Bool := s.maskBit RLK_GLB_STATUS_WRAP (role - 3)

/-- The device wraps at a ring port, and a pending unwrap is dropped (11 R494, R506). -/
def State.wrap (s : State) (p : LinkId) : State :=
  let role := s.reg RLK_CFG_TOPO p.val
  if s.flag RLK_GLB_CFG_RING ∧ (role = 3 ∨ role = 4) ∧ !s.wrappedAt role then
    let s := (s.putMaskBit RLK_GLB_STATUS_WRAP (role - 3) true).putFlag RLK_STATUS_WRAPPED p.val true
    let s := (List.finRange 4).foldl (fun (s : State) q => s.setLink q { s.link q with unwrapSend := none }) s
    { s with unwrapAt := none }.linkEvent p 2
  else s

/-- The device stops wrapping (11 R496). -/
def State.unwrapNow (s : State) : State :=
  let s := (List.finRange 4).foldl (fun (s : State) p =>
    let s := s.setLink p { s.link p with unwrapSend := none }
    if s.flag RLK_STATUS_WRAPPED p.val then (s.putFlag RLK_STATUS_WRAPPED p.val false).linkEvent p 2 else s) s
  { s.put RLK_GLB_STATUS_WRAP 0 0 with unwrapAt := none }

/-- The partner's announced hops make this port a candidate for the time follower: the UP port, or an UP ring port
(11 R499). -/
def State.followPort (s : State) : Option LinkId :=
  let up (p : LinkId) : Bool := s.linkState p == 3
  match (List.finRange 4).find? fun p => s.reg RLK_CFG_TOPO p.val == 1 && up p with
  | some p => some p
  | none =>
    match (s.ringPort 3).filter up, (s.ringPort 4).filter up with
    | some e, some w => if (s.link e).gmHops < (s.link w).gmHops then some e else some w
    | some e, none => some e
    | none, w => w

/-- The source of time is the link: SOURCE = link, or AUTO with a follower port (12 R519). -/
def State.timeFromLink (s : State) : Bool := s.reg TIM_CFG_SOURCE == 2 || s.reg TIM_CFG_SOURCE == 4 && s.flag RLK_GLB_STATUS_FOLLOW_VALID

/-- The source of time is PTP and another device is grandmaster (12 R519, R526). -/
def State.followsPtp (s : State) : Bool :=
  (s.reg TIM_CFG_SOURCE == 1 || s.reg TIM_CFG_SOURCE == 4 && !s.flag RLK_GLB_STATUS_FOLLOW_VALID)
    && !s.flag TIM_STATUS_GM && s.reg TIM_STATUS_STATE != 0

/-- The announced clock class (12 R526). -/
def State.announcedClass (s : State) : Nat :=
  if s.timeFromLink then (match s.followPort with
    | some p => (s.link p).gmClass
    | none => s.reg TIM_GM_CLASS)
  else if s.reg TIM_STATUS_STATE = 3 then 7
  else if s.followsPtp then s.ptpClass
  else s.reg TIM_GM_CLASS

/-- Follower port, announced hops and announced class (11 R499, R509; 12 R526). -/
def State.showFollow (s : State) : State :=
  let fp := s.followPort
  let s := s.putFlag RLK_GLB_STATUS_FOLLOW_VALID 0 fp.isSome
  let s := s.put RLK_GLB_STATUS_FOLLOW_PORT 0 (match fp with
    | some p => p.val
    | none => 0)
  let s := (List.finRange 4).foldl (fun (s : State) p => s.putFlag RLK_STATUS_TIME_FOLLOWER p.val (fp == some p)) s
  let hops := if s.flag TIM_CFG_LINK_GM ∧ !s.timeFromLink then 0 else match fp with
    | some p => min 0xFFF ((s.link p).gmHops + 1)
    | none => 0xFFF
  (s.put RLK_GLB_STATUS_GM_HOPS 0 hops).put TIM_STATUS_CLASS 0 s.announcedClass

/-! ## Received segments (11 R481 to R486) -/

/-- A concealed segment: words and header of the frame before (11 R484). -/
def concealSeg (before : RxSeg) : RxSeg :=
  { words := if before.used then before.words else List.replicate 64 0, header := before.header ||| 0x20000000, used := false }

/-- The retry entry of a later frame for a segment (11 R473, R482). -/
def retryOf (f : LinkFrame) (k sg : Nat) : Option LinkSeg :=
  (f.retries.find? fun r => r.desc.getLsbD 6 && r.desc.toNat % 64 == sg && r.idx == BitVec.ofNat 32 k && segOk r.seg).map fun r => r.seg

/-- How a segment came out (11 R483): used or empty, used after a retry, or concealed. -/
inductive SegResult where
  | good | retried | concealed
  deriving DecidableEq, Repr

/-- One segment of frame k, with the frame after it when that has come (11 R483). -/
def decideSeg (k sg : Nat) (orig : Option LinkFrame) (next : Option LinkFrame) (before : RxSeg) : SegResult × RxSeg :=
  match orig with
  | none => (.concealed, concealSeg before)
  | some f =>
    match f.segs[sg]? with
    | none => (.concealed, concealSeg before)
    | some x =>
      if !hdrValid x.header then (.good, { words := x.words, header := x.header, used := false })
      else if segOk x then (.good, { words := x.words, header := x.header, used := true })
      else match next.bind fun n => retryOf n k sg with
        | some y => (.retried, { words := y.words, header := y.header, used := true })
        | none => (.concealed, concealSeg before)

def LinkPort.frame (x : LinkPort) (k : Nat) : Option LinkFrame := x.rx.find? fun f => f.index == k

/-- LASTING follows the concealments of the last 1,024 frames (11 R486; 18 R752). -/
def State.showLasting (s : State) (p : LinkId) : State :=
  let n := ((s.link p).conc.map fun c => c.2).sum
  let was := s.flag RLK_STATUS_LASTING p.val
  if n = 0 then s.putFlag RLK_STATUS_LASTING p.val false
  else if s.reg RLK_LASTING_LIM p.val ≤ n ∧ !was then
    (((s.putFlag RLK_STATUS_LASTING p.val true).putMaskBit FLT_SUM_LINK_LASTING p.val true)).linkEvent p 1
  else s

/-- The segments of frame k are decided, once (11 R483 to R486). -/
def State.decideFrame (s : State) (p : LinkId) (k : Nat) : State :=
  let x := s.link p
  if x.decided.any fun d => d.1 == k then s
  else
    let before := ((x.decided.find? fun d => d.1 + 1 == k).map fun d => d.2).getD []
    let orig := x.frame k
    let next := x.frame (k + 1)
    let res := (List.range (s.linkSegs p)).map fun sg => decideSeg k sg orig next (before.getD sg emptySeg)
    let retried := (res.filter fun r => r.1 == .retried).length
    let conc := (res.filter fun r => r.1 == .concealed).length
    let s := s.count RLK_RETRY_OK_CNT p.val retried
    let s := s.count RLK_CONC_CNT p.val conc
    let s := if orig.isSome then s.count RLK_CRC_CNT p.val (retried + conc) else s.count RLK_NOFRAME_CNT p.val
    let s := if conc = 0 then s else s.linkEvent p 1
    let x := s.link p
    let s := s.setLink p { x with decided := ((k, res.map fun r => r.2) :: x.decided).take 4,
                                  conc := ((k, conc) :: x.conc).filter fun c => decide (0 < c.2) && decide (k < c.1 + 1024) }
    s.showLasting p

/-- The port leaves UP: retries still due are void, and the frame under way is concealed (11 R494, R506). -/
def State.leaveUp (s : State) (p : LinkId) : State :=
  let k := s.linkIdx
  ((s.decideFrame p (k - 1)).decideFrame p k).wrap p

/-- The port enters a state (11 R487). -/
def State.linkEnter (s : State) (p : LinkId) (st : Nat) : State :=
  let old := s.linkState p
  if old = st then s
  else
    let s := if old = 3 then s.leaveUp p else s
    let s := s.put RLK_STATUS_STATE p.val st
    let s := s.setLink p { s.link p with good := 0 }
    (s.linkEvent p 0).showFollow

/-- The port enters DOWN with a cause, or LEFT (11 R489, R490). -/
def State.linkDown (s : State) (p : LinkId) (cause : Nat) : State :=
  let s := if s.linkState p = 4 then s else s.count RLK_DOWN_CNT p.val
  (s.linkEnter p 4).put RLK_STATUS_DOWN_CAUSE p.val cause

/-! ## Delivery (11 R474, R477, R479, R484; 09 R410, R421 to R423) -/

/-- k_o of a segment received in frame k (11 R479). -/
def originIdx (k oidx : Nat) : Nat := k - (k + 65536 - oidx) % 65536

/-- The decided segments of frame k that a port's routes take: those of RING_E when the device is wrapped at RING_W (11 R494). -/
def State.inputSegs (s : State) (p : LinkId) (k : Nat) : Option (List RxSeg) :=
  let q := if s.ringPort 4 = some p ∧ s.wrappedAt 4 then (s.ringPort 3).getD p else p
  if s.linkState q != 3 && !(s.link q).decided.any (fun d => d.1 == k) then none
  else ((s.link q).decided.find? fun d => d.1 == k).map fun d => d.2

/-- The word of a slot, and the media index base of its segment, when it carries data that were not concealed. -/
def slotOf (segs : List RxSeg) (k slot : Nat) : Option (Word × Nat) :=
  match segs[slot / 64]? with
  | none => none
  | some x =>
    if hdrValid x.header && !hdrConcealed x.header && x.used then some (x.words.getD (slot % 64) 0, originIdx k (hdrOidx x.header))
    else none

/-- Samples of an IN route in frame k (11 R474). -/
def State.routeArrivals (s : State) (r : Route) (segs : List RxSeg) (k : Nat) : List Arrival :=
  let c := epChan r.snk
  let ch := tabGet s.ingress c {}
  let fs := max 1 (s.fs ch.group)
  (List.range (s.linkMult ch.group)).filterMap fun j =>
    (slotOf segs k (epSlot r.src + j)).map fun q =>
      let u := s.linkMult ch.group * (q.2 - 1) + j
      { c := c, m := s.agIndex ch.ag u (u * timPerSec / fs), x := q.1, cap := u * timPerSec / fs }

/-- Seals of an IN route in frame k (09 R421 to R423). -/
def State.routeSeals (s : State) (r : Route) (segs : List RxSeg) (k : Nat) : State :=
  let c := epChan r.snk
  let ch := tabGet s.ingress c {}
  let bs := blockSize ch
  let mult := s.linkMult ch.group
  let fs := max 1 (s.fs ch.group)
  let base := match segs[r.sslot / 64]? with
    | some x => originIdx k (hdrOidx x.header)
    | none => k
  (List.range mult).foldl (fun (s : State) j =>
    let u := mult * (base - 1) + j
    if u % bs = r.spos / 2 ∧ bs ≤ u then
      let u0 := (u / bs - 1) * bs
      let m0 := s.agIndex ch.ag u0 (u0 * timPerSec / fs)
      let v := (slotOf segs k (r.sslot + j)).map fun q => q.1.extractLsb' (16 * (r.spos % 2)) 16
      s.sealReceived c (m0 / bs) v
    else s) s

/-- Frame k of every receive port reaches the IN routes (11 R477, R484). -/
def State.deliverLinks (s : State) (k : Nat) : State :=
  (List.finRange 4).foldl (fun (s : State) p =>
    match s.inputSegs p k with
    | none => s
    | some segs =>
      let rs := (s.routes.map fun q => q.2).filter fun r => r.kind == 0 && epType r.src == 2 && epLink r.src == p.val
      let s := s.placeAll (rs.flatMap fun r => s.routeArrivals r segs k) false
      (rs.filter fun r => r.seals).foldl (fun (s : State) r => s.routeSeals r segs k) s) s

/-! ## Frames sent (11 R466 to R475, R482, R493, R494) -/

/-- The value a route sends of sample m. -/
def State.routeValue (s : State) (i m : Nat) : Word :=
  (((tabGet s.sent i []).find? fun p => p.1 == m).map fun p => p.2).getD 0

/-- Slots that OUT and BRIDGE routes of this device fill on a port in frame k: channel slots and seal slots (11 R474; 09 R421, R422). -/
def State.localSlots (s : State) (p : LinkId) (k : Nat) : List (Nat × Word) :=
  let rs := s.routes.filter fun q => (q.2.kind == 1 || q.2.kind == 2) && epType q.2.snk == 2 && epLink q.2.snk == p.val
  let chans := rs.flatMap fun q =>
    let mult := s.linkMult (s.routeChan q.2).group
    (List.range mult).map fun j => (epSlot q.2.snk + j, s.routeValue q.1 (mult * (k - 1) + j))
  let sealed := (rs.filter fun q => q.2.seals).flatMap fun q =>
    let ch := s.routeChan q.2
    let mult := s.linkMult ch.group
    (List.range mult).map fun j =>
      let m := mult * (k - 1) + j
      (q.2.sslot + j,
        if m % blockSize ch = q.2.spos / 2 then
          BitVec.ofNat 32 ((tabGet s.sealTx q.1 {}).prev.toNat * 2 ^ (16 * (q.2.spos % 2)))
        else 0)
  chans ++ sealed

/-- The words that fill one slot; seals of two positions share a word. -/
def slotWords (l : List (Nat × Word)) (slot : Nat) : Word := (l.filter fun q => q.1 == slot).foldl (fun a q => a ||| q.2) 0

/-- Culvert slots into a port's segment: sink slot, receive port and source slot (09 R397, R398). -/
def State.culvertSlots (s : State) (p : LinkId) (sg : Nat) : List (Nat × LinkId × Nat) :=
  ((s.routes.map fun q => q.2).filter fun r => r.kind == 3 && epType r.snk == 2 && epLink r.snk == p.val).flatMap fun r =>
    ((List.range (r.nslot + 1)).map fun i => (epSlot r.snk + i, (Fin.ofNat 4 (epLink r.src) : LinkId), epSlot r.src + i)).filter
      fun q => q.1 / 64 == sg

/-- One segment of the frame a port sends by its routes (11 R475; 09 R397). -/
def State.routeSeg (s : State) (p : LinkId) (k : Nat) (loc : List (Nat × Word)) (sg : Nat) : LinkSeg :=
  let cul := s.culvertSlots p sg
  let slots := (List.range 64).map fun i => 64 * sg + i
  let mk (words : List Word) (h : Word) : LinkSeg := { words := words, header := h, crc := segCrc words h }
  if loc.any fun q => q.1 / 64 == sg then
    mk (slots.map (slotWords loc)) (mkHeader (s.reg RLK_GLB_CFG_DEV_ID) k)
  else match cul with
    | [] => mk (List.replicate 64 0) 0
    | (_, q, src) :: _ =>
      match (s.inputSegs q (k - 2)).bind fun l => l[src / 64]? with
      | none => mk (List.replicate 64 0) 0
      | some x =>
        if hdrValid x.header then
          mk (slots.map fun sl => match cul.find? fun c => c.1 == sl with
            | some c => x.words.getD (c.2.2 % 64) 0
            | none => 0) x.header
        else mk (List.replicate 64 0) 0

/-- All segments a port sends by its routes in frame k. -/
def State.routeSegs (s : State) (p : LinkId) (k : Nat) : List LinkSeg :=
  let loc := s.localSlots p k
  (List.range (s.linkSegs p)).map (s.routeSeg p k loc)

/-- Segments without data. -/
def voidSegs (n : Nat) : List LinkSeg :=
  let w : List Word := List.replicate 64 0
  List.replicate n { words := w, header := 0, crc := segCrc w 0 }

/-- Segments that a port sends in frame k: by its routes; on RING_W what RING_E would have sent while the device is wrapped there,
else the secondary frame received on RING_E (11 R493, R494); in S1 no data (17 R722). -/
def State.sentSegs (s : State) (p : LinkId) (k : Nat) : List LinkSeg :=
  let n := s.linkSegs p
  if s.linkState p != 3 || s.power.sleep != 0 then voidSegs n
  else if s.ringPort 4 = some p then
    match s.ringPort 3 with
    | none => voidSegs n
    | some e =>
      if s.wrappedAt 3 then s.routeSegs e k
      else match (s.link e).decided.find? fun d => d.1 + 2 == k with
        | some d => d.2.map fun x => { words := x.words, header := x.header, crc := segCrc x.words x.header }
        | none => voidSegs n
  else s.routeSegs p k

/-- Segments of the last frame that failed or are missing: RETRY_REQ (11 R481). -/
def State.retryReq (s : State) (p : LinkId) (k : Nat) : Nat :=
  if s.linkState p != 3 then 0
  else
    ((List.range (s.linkSegs p)).map fun sg =>
      let fails := match (s.link p).frame k with
        | none => true
        | some f => match f.segs[sg]? with
          | none => true
          | some x => hdrValid x.header && !segOk x
      if fails then 2 ^ sg else 0).sum

/-- The broadcast that a port carries in frame k (11 R505). -/
def LinkPort.bcNow (x : LinkPort) (cycles k : Nat) : Option BcEntry :=
  match x.bcQueue with
  | e :: _ => if e.notBefore ≤ cycles ∧ e.fromIdx ≤ k then some e else none
  | [] => none

/-- The control field of frame k (11 R470). -/
def State.controlField (s : State) (p : LinkId) (k : Nat) (segs : List LinkSeg) : List Word :=
  let x := s.link p
  let bit (b : Bool) (n : Nat) : Nat := if b then 2 ^ n else 0
  let st := s.linkState p
  let standby := s.ringPort 4 == some p && !segs.any fun g => hdrValid g.header
  let w0 := 1 + s.reg RLK_GLB_CFG_DEV_ID * 2 ^ 8 + p.val * 2 ^ 20 + bit (s.reg RLK_GLB_STATUS_WRAP != 0) 22
    + bit (s.flag SEC_STATUS_UNVERIFIED) 23 + bit (st == 4) 24 + bit standby 25 + bit (decide (0 < x.leaving)) 26
  let tx := match x.txStamps with
    | t :: _ => t.2
    | [] => 0
  let (rxIdx, rx) := match x.rxStamps with
    | t :: _ => t
    | [] => (0, 0)
  let req := s.retryReq p (k - 1)
  let bc := match x.bcNow s.cycles k with
    | some e => e.words
    | none => [0, 0, 0, 0]
  let wake := match x.wakeReq with
    | some (id, all) => id % 2 ^ 12 + bit all 12 + 2 ^ 13
    | none => 0
  let tun := match x.tunTx with
    | c :: _ => (BitVec.ofNat 32 (c.words.length % 2 ^ 6 + bit c.start 6 + bit c.last 7 + x.tunTxSeq % 2 ^ 8 * 2 ^ 8) : Word)
        :: (c.words ++ List.replicate (40 - c.words.length) 0)
    | [] => List.replicate 41 0
  let body : List Word := [BitVec.ofNat 32 w0] ++ stampWords tx ++ stampWords rx ++ [BitVec.ofNat 32 rxIdx,
      BitVec.ofNat 32 (s.reg RLK_GLB_STATUS_GM_HOPS + s.reg TIM_STATUS_CLASS * 2 ^ 12),
      BitVec.ofNat 32 req, BitVec.ofNat 32 (req / 2 ^ 32), BitVec.ofNat 32 (k - 1)] ++ bc
    ++ [BitVec.ofNat 32 (wake + bit x.unwrapSend.isSome 14), BitVec.ofNat 32 (x.unwrapSend.getD 0)] ++ tun ++ List.replicate 6 0
  body ++ [crc32cWords body]

/-- What a port's services have sent with frame k (11 R490, R503 to R505). -/
def State.afterSend (s : State) (p : LinkId) (k : Nat) : State :=
  let x := s.link p
  let s := match x.bcNow s.cycles k with
    | some e => if e.counted then s else s.count RLK_BC_FWD_CNT
    | none => s
  let q := match x.bcNow s.cycles k with
    | some e => if e.left ≤ 1 then x.bcQueue.drop 1 else { e with left := e.left - 1, counted := true } :: x.bcQueue.drop 1
    | none => x.bcQueue
  s.setLink p { x with bcQueue := q, wakeReq := none, tunTx := x.tunTx.drop 1,
                       tunTxSeq := if x.tunTx.isEmpty then x.tunTxSeq else (x.tunTxSeq + 1) % 256,
                       leaving := x.leaving - 1 }

/-- The port has its transmitter on and sends frames (11 R487). -/
def State.linkSends (s : State) (p : LinkId) : Bool := decide (1 ≤ s.linkState p ∧ s.linkState p ≤ 4)

/-- A port sends frame k; `stamp` is the transmit stamp of its frame start (11 R466, R497). -/
def State.sendFrame (s : State) (p : LinkId) (k stamp : Nat) (segs : List LinkSeg) : State :=
  if !s.linkSends p then s.setLink p { s.link p with tx := none, txPrev := none }
  else
    let x := s.link p
    let f : LinkFrame := { index := k, fsCode := BitVec.ofNat 8 (s.reg RLK_CFG_RATE p.val), cf := s.controlField p k segs, segs := segs,
                           retries := [] }
    let s := s.setLink p { x with tx := some f, txPrev := x.tx, txStamps := ((k, stamp % stampMod) :: x.txStamps).take 8 }
    s.afterSend p k

/-- A port that the partner hears and whose offset is small becomes UP at a link tick (11 R488, R492). -/
def State.linkUp (s : State) (p : LinkId) : State :=
  let x := s.link p
  let heard : Bool := match x.partnerRx with
    | some i => x.txStamps.any fun t => t.1 % 2 ^ 32 == i
    | none => false
  let near : Bool := match x.theta with
    | some t => decide (t.natAbs ≤ 256000)
    | none => false
  if s.linkState p == 2 && heard && near && !s.flag RLK_STATUS_DUP_ID p.val then s.linkEnter p 3 else s

/-- A link tick: frames two periods old are decided and delivered, and every enabled port sends frame k (11 R466, R477). -/
def State.linkTick (s : State) (k : Nat) (stamps : List Nat) : State :=
  let s := { s.put64 RLK_IDX_LO RLK_IDX_HI 0 k with linkBegun := true }
  let s := match s.unwrapAt with
    | some u => if u ≤ k then s.unwrapNow else s
    | none => s
  let s := (List.finRange 4).foldl (fun (s : State) p => s.linkUp p) s
  let s := (List.finRange 4).foldl (fun (s : State) p => if s.linkState p = 3 then s.decideFrame p (k - 2) else s) s
  let s := s.deliverLinks (k - 2)
  let segs := (List.finRange 4).map fun p => s.sentSegs p k
  let s := s.showFollow
  (List.finRange 4).foldl (fun (s : State) p => s.sendFrame p k (stamps.getD p.val 0) (segs.getD p.val [])) s

/-! ## Frames received (11 R481 to R505) -/

/-- Retry entries for the partner's request go into the frame under way (11 R482). -/
def State.fillRetries (s : State) (p : LinkId) (cf : List Word) : State :=
  let x := s.link p
  match x.tx, x.txPrev with
  | some f, some g =>
    if cfBits cf 9 0 32 = g.index % 2 ^ 32 then
      let want := (List.range (s.linkSegs p)).filterMap fun sg =>
        if (cf.getD (7 + sg / 32) 0).getLsbD (sg % 32) then
          match g.segs[sg]? with
          | some y => if hdrValid y.header then
              some { desc := BitVec.ofNat 32 (sg + 2 ^ 6), idx := BitVec.ofNat 32 g.index, seg := y : LinkRetry } else none
          | none => none
        else none
      s.setLink p { x with tx := some { f with retries := want.take (s.linkRetries p) } }
    else s
  | _, _ => s

/-- Delay and offset from the control field (11 R478, R489, R498). -/
def State.measure (s : State) (p : LinkId) (cf : List Word) (index : Nat) : State :=
  let x := s.link p
  match x.txStamps.find? (fun t => t.1 % 2 ^ 32 == cfBits cf 5 0 32), x.rxStamps.find? (fun t => t.1 + 1 == index) with
  | some t1, some t4 =>
    let t3 := stampOf (cf.getD 1 0) (cf.getD 2 0)
    let t2 := stampOf (cf.getD 3 0) (cf.getD 4 0)
    let (d, th) := delayOf t1.2 t2 t3 t4.2 (BitVec.ofNat 32 (s.reg RLK_ASYM p.val)).toInt
    let dn := (BitVec.ofInt 32 d).toNat
    let first := !x.delaySeen
    let s := (s.put RLK_DELAY_D p.val dn).put RLK_OFFSET_THETA p.val (BitVec.ofInt 32 (sat32 th)).toNat
    let s := s.put RLK_DELAY_MIN p.val (if first then dn else min dn (s.reg RLK_DELAY_MIN p.val))
    let s := s.put RLK_DELAY_MAX p.val (max dn (s.reg RLK_DELAY_MAX p.val))
    let s := s.setLink p { x with delaySeen := true, theta := some th }
    let s := if 1024000 < d ∧ !s.flag RLK_STATUS_LONG p.val then (s.putFlag RLK_STATUS_LONG p.val true).linkEvent p 3 else s
    if s.followPort = some p then { s with linkTheta := s.linkTheta + th, linkThetas := s.linkThetas + 1 } else s
  | _, _ => s

/-- A broadcast enters a port's queue of 8, or is dropped (11 R505). -/
def State.queueBc (s : State) (p : LinkId) (e : BcEntry) : State :=
  let x := s.link p
  if 8 ≤ x.bcQueue.length then (s.count RLK_BC_DROP_CNT).linkEvent p 3
  else s.setLink p { x with bcQueue := x.bcQueue ++ [e] }

/-- A received broadcast: the first copy acts and is forwarded on the other UP ports (11 R505; 06 R254). -/
def State.takeBc (s : State) (p : LinkId) (k : Nat) (cf : List Word) : State :=
  let origin := cfBits cf 10 16 12
  let seq := cfBits cf 13 16 8
  let seen := s.bcSeen.filter fun b => decide (k < b.2.2 + 512)
  if seen.any fun b => b.1 == origin && b.2.1 == seq then { s with bcSeen := seen }
  else
    let s := { s with bcSeen := (origin, seq, k) :: seen }
    let s := s.broadcast (cfBits cf 10 0 16) (cfBits cf 12 0 32 + 2 ^ 32 * cfBits cf 13 0 16) (cfBits cf 11 0 32)
    let e : BcEntry := { words := (cf.drop 10).take 4, fromIdx := k + 2 }
    ((List.finRange 4).filter fun q => q != p && s.linkState q == 3).foldl (fun (s : State) q => s.queueBc q e) s

/-- A wake request: forwarded on the other ports at most once in 10 ms; a port in LEFT sends the WAKE block instead
(11 R504; 17 R725). -/
def State.forwardWake (s : State) (source : Option LinkId) (id : Nat) (all : Bool) : State :=
  let recent := match s.wakeSent with
    | some t => decide (s.cycles < t + 10 * cyclesPerMs)
    | none => false
  if recent then s
  else
    let s := { s with wakeSent := some s.cycles }
    ((List.finRange 4).filter fun q => some q != source).foldl (fun (s : State) q =>
      if s.linkState q = 5 then s.setLink q { s.link q with wakeUntil := s.cycles + 10 * cyclesPerMs }
      else if s.linkState q = 3 then s.setLink q { s.link q with wakeReq := some (id, all) }
      else s) s

def State.takeWake (s : State) (p : LinkId) (cf : List Word) : State :=
  let id := cfBits cf 14 0 12
  let all := (cf.getD 14 0).getLsbD 12
  let s := if all ∨ id = s.reg RLK_GLB_CFG_DEV_ID then { s with wakeNamed := true } else s
  s.forwardWake (some p) id all

/-- A tunnel chunk: chunks in order make a message; a gap of the sequence numbers loses it (11 R503; 16 R679). -/
def State.takeChunk (s : State) (p : LinkId) (cf : List Word) : State :=
  let x := s.link p
  let n := cfBits cf 16 0 6
  let seq := cfBits cf 16 8 8
  let start := (cf.getD 16 0).getLsbD 6
  let last := (cf.getD 16 0).getLsbD 7
  let lost := match x.tunRxSeq with
    | some q => (seq + 256 - (q + 1) % 256) % 256
    | none => 0
  let s := s.count RLK_TUN_DROP_CNT p.val lost
  let words := (cf.drop 17).take (min n 40)
  let open_ := start || (x.tunOpen && lost == 0)
  let buf := (if start then [] else x.tunRx) ++ words
  if open_ && last then
    { s.setLink p { x with tunRx := [], tunOpen := false, tunRxSeq := some seq } with tunMsgs := s.tunMsgs ++ [(p, buf)] }
  else s.setLink p { x with tunRx := if open_ then buf else [], tunOpen := open_, tunRxSeq := some seq }

/-- The partner's unwrap index, near the present link index (11 R496). -/
def State.takeUnwrap (s : State) (cf : List Word) : State :=
  if s.reg RLK_GLB_STATUS_WRAP = 0 ∨ s.unwrapAt.isSome then s
  else
    let k := s.linkIdx
    let u := cfBits cf 15 0 32
    { s with unwrapAt := some (k + (u + 2 ^ 32 - k % 2 ^ 32) % 2 ^ 32) }

/-- What a valid control field says (11 R488 to R505). -/
def State.takeControl (s : State) (p : LinkId) (f : LinkFrame) : State :=
  let cf := f.cf
  let src := cfBits cf 0 8 12
  let s := (s.put RLK_STATUS_PARTNER_ID p.val src).put RLK_STATUS_PARTNER_PORT p.val (cfBits cf 0 20 2)
  let s := s.putFlag RLK_STATUS_PARTNER_UNVERIFIED p.val ((cf.getD 0 0).getLsbD 23)
  let dup := src == s.reg RLK_GLB_CFG_DEV_ID
  let s := if dup && !s.flag RLK_STATUS_DUP_ID p.val then s.linkEvent p 3 else s
  let s := s.putFlag RLK_STATUS_DUP_ID p.val dup
  let x := s.link p
  let s := s.setLink p { x with partnerRx := some (cfBits cf 5 0 32), gmHops := cfBits cf 6 0 12, gmClass := cfBits cf 6 12 8 }
  let s := s.measure p cf f.index
  let s := s.fillRetries p cf
  let s := if (cf.getD 10 0).getLsbD 28 then s.takeBc p f.index cf else s
  let s := if (cf.getD 14 0).getLsbD 13 then s.takeWake p cf else s
  let s := if (cf.getD 14 0).getLsbD 14 then s.takeUnwrap cf else s
  let s := if cfBits cf 16 0 6 = 0 then s else s.takeChunk p cf
  s.showFollow

/-- The states of a port follow the frame (11 R486 to R490, R492). -/
def State.linkFollow (s : State) (p : LinkId) (cf : List Word) (good : Bool) (badSync : Nat) : State :=
  let st := s.linkState p
  let x := s.link p
  let s := s.setLink p { x with good := if good then x.good + 1 else 0 }
  let off := match (s.link p).theta with
    | some t => decide (512000 < t.natAbs)
    | none => false
  if good && (cf.getD 0 0).getLsbD 26 then (s.linkEnter p 5).put RLK_STATUS_DOWN_CAUSE p.val 5
  else if st = 3 then
    if 16 ≤ badSync then s.linkDown p 2
    else if good && (cf.getD 0 0).getLsbD 24 then s.linkDown p 4
    else if s.flag RLK_CTL_DOWN_ON_LASTING p.val && s.flag RLK_STATUS_LASTING p.val then s.linkDown p 6
    else if good && off then s.linkDown p 8
    else s
  else if st = 1 then (if 8 ≤ (s.link p).good then s.linkEnter p 2 else s)
  else if st = 4 then
    let cause := s.reg RLK_STATUS_DOWN_CAUSE p.val
    if cause = 7 ∨ badSync ≠ 0 ∨ !good then s
    else s.linkEnter p (if cause ≤ 3 then 1 else 2)
  else s

/-- A frame has been received: `stamp` is its receive stamp, `reserved` the blocks of reserved type among those received, `badSync`
the largest number of invalid sync headers among 64 (11 R465, R468 to R505). -/
def State.linkReceive (s : State) (p : LinkId) (f : LinkFrame) (stamp reserved badSync : Nat) : State :=
  let st := s.linkState p
  if st = 0 ∨ st = 5 then s
  else
    let s := s.count RLK_CF_ERR_CNT p.val reserved
    let fs := s.fsOk p f
    let ok := cfOk f.cf
    if !fs then s.linkFollow p f.cf false badSync
    else
      let s := if ok then s.takeControl p f else s.count RLK_CF_ERR_CNT p.val
      let x := s.link p
      let s := s.setLink p { x with rxStamps := ((f.index, stamp % stampMod) :: x.rxStamps).take 2,
                                    rx := (f :: x.rx.filter fun g => g.index != f.index).take 3 }
      let s := if st = 3 then s.decideFrame p (f.index - 1) else s
      s.linkFollow p f.cf ok badSync

/-! ## Commands -/

/-- LINK_TICK (11 R466). -/
def execLinkTick (stamps : List Nat) (s : State) : Out :=
  .next (match s.dueLink with
    | some k => s.linkTick k stamps
    | none => s)

/-- LINK_FRAME_RECEIVE (11 R468). -/
def execLinkFrameReceive (p : LinkId) (f : LinkFrame) (stamp reserved badSync : Nat) (s : State) : Out :=
  .next (s.linkReceive p f stamp reserved badSync)

/-- A write of EN = 1: a port that is OFF, LEFT or held DOWN by the host starts to train (11 R488, R490). -/
def State.linkEnable (s : State) (p : LinkId) : State :=
  let st := s.linkState p
  let s := s.putFlag RLK_CTL_EN p.val true
  if st = 0 ∨ st = 5 ∨ st = 4 ∧ s.reg RLK_STATUS_DOWN_CAUSE p.val = 7 then s.linkEnter p 1 else s

/-- A write of EN = 0 (11 R489). -/
def State.linkDisable (s : State) (p : LinkId) : State :=
  let st := s.linkState p
  let s := s.putFlag RLK_CTL_EN p.val false
  if st = 0 ∨ st = 5 then s else s.linkDown p 7

/-- LINK_ENABLE (11 R488). -/
def execLinkEnable (p : LinkId) (s : State) : Out := .next (s.linkEnable p)

/-- LINK_DISABLE (11 R489). -/
def execLinkDisable (p : LinkId) (s : State) : Out := .next (s.linkDisable p)

/-- A write of 1 to WAKE: the WAKE block is sent for 10 ms (11 R504). -/
def State.linkWake (s : State) (p : LinkId) : State := s.setLink p { s.link p with wakeUntil := s.cycles + 10 * cyclesPerMs }

/-- LINK_WAKE (11 R504). -/
def execLinkWake (p : LinkId) (s : State) : Out := .next (s.linkWake p)

/-- A write of 1 to CLR (11 R508). -/
def State.delayClear (s : State) (p : LinkId) : State :=
  ((s.put RLK_DELAY_MIN p.val 0).put RLK_DELAY_MAX p.val 0).setLink p { s.link p with delaySeen := false }

/-- DELAY_CLEAR (11 R508). -/
def execDelayClear (p : LinkId) (s : State) : Out := .next (s.delayClear p)

/-- LOSS_OF_SIGNAL (11 R489). -/
def execLossOfSignal (p : LinkId) (s : State) : Out := .next (if s.linkState p = 3 then s.linkDown p 1 else s)

/-- NO_FRAME (11 R489). -/
def execNoFrame (p : LinkId) (s : State) : Out := .next (if s.linkState p = 3 then s.linkDown p 3 else s)

/-- The ring ports are UP and the device is wrapped: an unwrap may be given (11 R496). -/
def State.mayUnwrap (s : State) (u : Nat) : Bool :=
  let up (p : Option LinkId) : Bool := match p with
    | some p => s.linkState p == 3
    | none => false
  s.reg RLK_GLB_STATUS_WRAP != 0 && up (s.ringPort 3) && up (s.ringPort 4) && decide (s.linkIdx + 4 ≤ u)

/-- A write of UNWRAP (11 R496). -/
def State.unwrapWrite (s : State) : State :=
  let u := s.reg64 RLK_UNWRAP_LO_U_LO RLK_UNWRAP_HI_U_HI
  if s.mayUnwrap u then
    let s := (List.finRange 4).foldl (fun (s : State) p =>
      if s.flag RLK_STATUS_WRAPPED p.val then s.setLink p { s.link p with unwrapSend := some u } else s) s
    { s with unwrapAt := some u }
  else s

/-- UNWRAP (11 R496). -/
def execUnwrap (s : State) : Out := .next s.unwrapWrite

/-- UNWRAP_APPLY (11 R496): at link tick U. -/
def execUnwrapApply (s : State) : Out :=
  .next (match s.unwrapAt with
    | some u => if u ≤ s.nearestLink then s.unwrapNow else s
    | none => s)

/-- A write of 1 to WAKE_GO (11 R504). -/
def State.wakeGo (s : State) : State := s.forwardWake none (s.reg RLK_GLB_CTL_WAKE_ID) (s.flag RLK_GLB_CTL_WAKE_ALL)

/-- WAKE_GO (11 R504): a wake request for WAKE_ID, or for every device. -/
def execWakeGo (s : State) : Out := .next s.wakeGo

/-- The eye monitor's figures; a crossing of a threshold warns once (11 R502). -/
def State.eyeUpdate (s : State) (p : LinkId) (h v : Nat) : State :=
  let s := (s.put RLK_EYE_HMARGIN p.val h).put RLK_EYE_VMARGIN p.val v
  let low := decide (h < s.reg RLK_EYE_WARN_H p.val) || decide (v < s.reg RLK_EYE_WARN_V p.val)
  let was := (s.link p).eyeLow
  let s := s.setLink p { s.link p with eyeLow := low }
  if low && !was then s.linkEvent p 3 else s

/-- EYE_UPDATE (11 R502). -/
def execEyeUpdate (p : LinkId) (h v : Byte) (s : State) : Out := .next (s.eyeUpdate p h.toNat v.toNat)

/-- A write of UC_BC_CTL.GO: the broadcast enters the queue of every UP port and is received locally (06 R253; 11 R505). -/
def State.bcOriginate (s : State) : State :=
  let id := s.reg UC_BC_ID
  let ns := s.reg UC_BC_NS
  let sec := s.reg64 UC_BC_SEC_LO UC_BC_SEC_HI
  let dev := s.reg RLK_GLB_CFG_DEV_ID
  let words : List Word := [BitVec.ofNat 32 (id + dev * 2 ^ 16 + 2 ^ 28), BitVec.ofNat 32 ns, BitVec.ofNat 32 sec,
    BitVec.ofNat 32 (sec / 2 ^ 32 % 2 ^ 16 + s.bcSeq % 256 * 2 ^ 16)]
  let e : BcEntry := { words := words, notBefore := s.cycles + 600 }
  let s := { s with bcSeen := (dev, s.bcSeq % 256, s.linkIdx) :: s.bcSeen, bcSeq := (s.bcSeq + 1) % 256 }
  let s := ((List.finRange 4).filter fun q => s.linkState q == 3).foldl (fun (s : State) q => s.queueBc q e) s
  s.broadcast id sec ns

/-- BROADCAST_ORIGINATE (06 R253). -/
def execBroadcastOriginate (s : State) : Out := .next s.bcOriginate

end Sys2Proof.Machine
end

