-- ==== Sys2Proof/Machine/Time.lean ====
section
/-!
DEFINITION. The time counter, its servo, sources and holdover, the rejoin of the time base, PTP and PPS
(12 R511 to R532; 13 R581 to R585).
-/

namespace Sys2Proof.Machine

open Sys2Proof

/-! ## Exact fractions -/

/-- n / d in lowest terms; d = 0 gives 0. -/
def ratio (n : Int) (d : Nat) : Ratio :=
  if d = 0 then {} else { num := n / (Nat.gcd n.natAbs d : Nat), den := d / Nat.gcd n.natAbs d }

def Ratio.add (a b : Ratio) : Ratio := ratio (a.num * b.den + b.num * a.den) (a.den * b.den)
def Ratio.neg (a : Ratio) : Ratio := { a with num := -a.num }
def Ratio.le (a b : Ratio) : Bool := decide (a.num * b.den ≤ b.num * a.den)
def Ratio.ofNat (n : Nat) : Ratio := { num := n }

/-- Limits on both sides. -/
def Ratio.clamp (x lo hi : Ratio) : Ratio := if x.le lo then lo else if hi.le x then hi else x

/-- Largest r with r * r <= n, for n below 4^k. -/
def isqrt : Nat → Nat → Nat
  | 0, _ => 0
  | k + 1, n =>
    let r := 2 * isqrt k (n / 4)
    if (r + 1) * (r + 1) ≤ n then r + 1 else r

/-! ## The rate word and steps (12 R511 to R515, R521; 13 R585) -/

/-- The servo's frequency becomes the rate word, rounded half to even (12 R521). -/
def State.setFreq (s : State) (f : Ratio) : State :=
  let w := roundHalfEven (f.num * 2 ^ 48) (f.den * 1000000000)
  let v := (w % 2 ^ 40).toNat
  { (s.put TIM_RATE_LO 0 (v % 2 ^ 32)).put TIM_RATE_HI 0 (v / 2 ^ 32) with time := { s.time with f := f } }

/-- Groups ticked by the counter learn of a step (12 R515). -/
def State.markStepped (s : State) : State :=
  (List.finRange 4).foldl (fun (s : State) g =>
    if s.fs g != 0 && s.tickFromTime g then s.setGroup g { s.group g with stepped := true } else s) s

/-- The counter takes a new value: counted, EV105 (12 R514). -/
def State.jumpTo (s : State) (t : Int) : State :=
  let s := { s with tim := (t % (2 ^ 48 * timPerSec : Nat)).toNat }
  (s.markStepped.count TIM_STEP_CNT).raise 105

/-- The counter steps by a signed amount in its units. -/
def State.stepBy (s : State) (d : Int) : State := s.jumpTo (s.tim + d)

/-- A write of STEP alone (12 R514); the anchor ends (13 R584). -/
def State.hostStep (s : State) : State :=
  (s.stepBy ((BitVec.ofNat 32 (s.reg TIM_ADJ_NS_ADJ)).toInt * timPerNs)).put CLK_ANCHOR 0 0

/-- A write of SET alone (12 R514); the anchor ends (13 R584). -/
def State.hostSet (s : State) : State :=
  let sec := s.reg64 TIM_SET_SEC_LO TIM_SET_SEC_HI
  (s.jumpTo ((sec * timPerSec + s.reg TIM_SET_NS * timPerNs : Nat) : Int)).put CLK_ANCHOR 0 0

/-- A read of TIM_NS latches the companion fields of the interface (12 R513; 16 R669). -/
def State.timeRead (s : State) (iface : Fin 3) : State :=
  let sec := s.timSec
  let s := s.putLatch iface TIM_FRAC 0 s.timFrac
  let s := (s.putLatch iface TIM_SEC_LO 0 (sec % 2 ^ 32)).putLatch iface TIM_SEC_HI 0 (sec / 2 ^ 32)
  { s with hostOut := [BitVec.ofNat 32 s.timNs] }

/-! ## States (12 R519 to R524) -/

/-- The source in force: 0 none, 1 PTP, 2 link, 3 PPS_IN (12 R519). -/
def State.timeSource (s : State) : Nat :=
  match s.reg TIM_CFG_SOURCE with
  | 1 => 1
  | 2 => 2
  | 3 => 3
  | 4 => if s.flag RLK_GLB_STATUS_FOLLOW_VALID then 2 else 1
  | _ => 0

/-- The time base enters a state (12 R520). -/
def State.timEnter (s : State) (st : Nat) : State :=
  if s.reg TIM_STATUS_STATE = st then s else ((s.put TIM_STATUS_STATE 0 st).raise 104).showFollow

/-- The servo's loop for one offset (12 R521): `theta` in 2^-16 ns, `dt` in ns. -/
def State.steer (s : State) (theta : Int) (dt : Nat) : State :=
  if dt = 0 then s
  else
    let e := ratio (theta * 1000000000) (65536 * dt)
    let flim := Ratio.ofNat (s.reg TIM_LIM_FLIM)
    let i := (s.time.i.add (ratio e.num (e.den * 2 ^ s.reg TIM_SERVO_KI))).clamp flim.neg flim
    let f := (i.add (ratio e.num (e.den * 2 ^ s.reg TIM_SERVO_KP))).clamp flim.neg flim
    let d := ratio (s.reg TIM_LIM_SLIM * dt : Nat) 1000000000
    let f := f.clamp (s.time.f.add d.neg) (s.time.f.add d)
    ({ s with time := { s.time with i := i } } : State).setFreq f

/-- One update of a slewing rejoin: the difference of frequency follows the fastest profile within FLIM and SLIM
(13 R582; log entry 22). -/
def State.slewStep (s : State) (theta : Int) (dt : Nat) : State :=
  let slim := s.reg TIM_LIM_SLIM
  let goal := min (s.reg TIM_LIM_FLIM) (isqrt 32 (2 * slim * theta.natAbs / 65536))
  let goal : Ratio := { num := if theta < 0 then -(goal : Int) else goal }
  let d := ratio (slim * dt : Nat) 1000000000
  let v := goal.clamp (s.time.slew.add d.neg) (s.time.slew.add d)
  ({ s with time := { s.time with slew := v } } : State).setFreq (s.time.i.add v)

/-- A rejoin of the time base ends: it tracks (13 R581, R582). -/
def State.rejoinDone (s : State) : State :=
  let s := { s with time := { s.time with rejoin := none, slew := {}, jumps := 0 } }
  let s := (s.putFlag CLK_STATUS_REJOINING 0 false).putFlag CLK_STATUS_MUTING 0 false
  (s.timEnter 2).raise 111

/-- Base rate that times a stepping rejoin: 48 kHz where a group of that family is defined, else 44.1 kHz. -/
def State.rejoinBase (s : State) : Nat :=
  let rate (g : GroupId) : Nat := s.reg SE_RG_CFG_RATE g.val
  if (List.finRange 4).any (fun g => decide (5 ≤ rate g)) then 48000
  else if (List.finRange 4).any (fun g => rate g != 0) then 44100
  else 48000

/-- A stepping rejoin: the groups ramp down from base-rate tick b, and the counter steps when tick b + 64 falls due (13 R583). -/
def State.rejoinMute (s : State) (delta : Int) : State :=
  let fb := s.rejoinBase
  let b := s.tim * fb / timPerSec + 1
  let s := (List.finRange 4).foldl (fun (s : State) g =>
    if s.fs g != 0 && s.tickFromTime g then
      s.setGroup g { s.group g with gateReq := some (true, b * timPerSec / fb - 1000 * timPerNs) }
    else s) s
  { s.putFlag CLK_STATUS_MUTING 0 true with time := { s.time with rejoin := some (.step delta ((b + 64) * timPerSec / fb)) } }

/-- A rejoin of the time base starts with offset `theta`, `raw` before the anchor (13 R581 to R584). -/
def State.rejoinStart (s : State) (theta raw : Int) : State :=
  let s := (s.putFlag CLK_STATUS_REJOINING 0 true).raise 111
  let thr := s.reg CLK_REJOIN_STEP_THR
  if s.flag CLK_REJOIN_MODE then (s.put CLK_ANCHOR 0 (BitVec.ofInt 32 (raw / 65536)).toNat).rejoinDone
  else if thr ≠ 0 ∧ theta.natAbs ≤ thr * 1000000 * 65536 then { s with time := { s.time with rejoin := some .slew, slew := {} } }
  else s.rejoinMute (theta * (3 * 2 ^ 32))

/-- 100 ns, and 1 µs, in units of 2^-16 ns. -/
def theta100ns : Nat := 100 * 65536
def theta1us : Nat := 1000 * 65536

/-- An update in ACQUIRE (12 R520 to R522, R532). -/
def State.acquire (s : State) (theta : Int) (dt : Nat) : State :=
  if !s.time.stepped && decide (theta1us < theta.natAbs) then
    let s := { s with time := { s.time with stepped := true, close := 0 } }
    (s.stepBy (theta * (3 * 2 ^ 32))).putFlag TIM_STATUS_COARSE 0 false
  else
    let s := s.steer theta dt
    let n := if theta.natAbs < theta100ns then s.time.close + 1 else 0
    let s := { s with time := { s.time with close := n } }
    if 16 ≤ n then ({ s with time := { s.time with jumps := 0 } } : State).timEnter 2 else s

/-- An update in TRACK: the fourth in a row above JUMP_THR starts a rejoin (13 R581). -/
def State.track (s : State) (theta raw : Int) (dt : Nat) : State :=
  let n := if s.reg CLK_REJOIN_JUMP_THR * theta1us < theta.natAbs then s.time.jumps + 1 else 0
  let s := { s with time := { s.time with jumps := n } }
  if 4 ≤ n then s.rejoinStart theta raw else s.steer theta dt

/-- An offset update: `raw` in 2^-16 ns over `dt` ns (12 R520 to R524; 13 R581, R582, R584). -/
def State.servoUpdate (s : State) (raw : Int) (dt : Nat) : State :=
  let src := s.timeSource
  if src = 0 then s
  else
    let theta := raw - (BitVec.ofNat 32 (s.reg CLK_ANCHOR)).toInt * 65536
    let s := s.put TIM_THETA 0 (BitVec.ofInt 32 (sat32 (theta / 256))).toNat
    let fresh := s.reg TIM_STATUS_STATE == 0 || s.time.source != src
    let s := { s with time := { s.time with source := src, lastUpdate := s.cycles, interval := dt } }
    let s := if fresh then
        let s := { s with time := { s.time with i := {}, stepped := false, close := 0, jumps := 0, rejoin := none, slew := {} } }
        (s.putFlag CLK_STATUS_REJOINING 0 false).timEnter 1
      else s
    match s.time.rejoin with
    | some .slew => if theta.natAbs < theta100ns then s.rejoinDone else s.slewStep theta dt
    | some (.step _ _) => s
    | none =>
      match s.reg TIM_STATUS_STATE with
      | 1 => s.acquire theta dt
      | 2 => s.track theta raw dt
      | _ => s.rejoinStart theta raw

/-- Three update intervals without an update (12 R520, R523; 13 R587). -/
def State.holdoverEntry (s : State) : State :=
  let st := s.reg TIM_STATUS_STATE
  let late := decide (s.time.lastUpdate + 3 * s.time.interval * 3 / 5 ≤ s.cycles)
  let slewing := s.time.rejoin == some .slew
  if late && (st == 2 || st == 3 && slewing) then
    let s := if slewing then
        (({ s with time := { s.time with rejoin := none } } : State).putFlag CLK_STATUS_REJOINING 0 false).raise 111
      else s.setFreq s.time.i
    ({ s with time := { s.time with holdSince := s.cycles } } : State).timEnter 3
  else s

/-- HOLDOVER has lasted TMAX seconds (12 R524). -/
def State.holdoverTimeout (s : State) : State :=
  let t := s.reg TIM_HOLD_TMAX
  if s.reg TIM_STATUS_STATE = 3 ∧ t ≠ 0 ∧ s.time.holdSince + t * 1000 * cyclesPerMs ≤ s.cycles then s.timEnter 0 else s

/-! ## Sources (12 R516, R521, R525 to R528) -/

/-- The middle one of a list of numbers. -/
def median (l : List Int) : Int := (l.mergeSort (fun a b => decide (a ≤ b))).getD (l.length / 2) 0

/-- A Sync with its master's time gives an offset, unless its path delay is an outlier (12 R521, R525). -/
def State.ptpOffset (s : State) (t1 : Nat) (corr : Int) : State :=
  let p := s.ptp
  let s := { s with ptp := { p with syncSeq := none, lastTx := some t1, t1 := t1, t2 := p.syncRx } }
  match p.delay with
  | none => s
  | some d =>
    let ms := (p.syncRx : Int) - t1 - corr
    if 10 * theta1us < (d - median p.delays).natAbs then s.count TIM_OUTLIER_CNT
    else s.servoUpdate (d - ms) (match p.lastTx with
      | some t => (t1 - t) / 65536
      | none => 0)

/-- A new path delay joins the last 16. -/
def State.ptpDelay (s : State) (d : Int) : State :=
  { s with ptp := { s.ptp with delay := some d, delays := (d :: s.ptp.delays).take 16 } }

/-- An Announce after the best master clock algorithm (12 R525, R526). -/
def State.ptpAnnounce (s : State) (gm cls : Nat) (best : Bool) : State :=
  if best then
    let changed := s.ptp.gm != some gm || s.flag TIM_STATUS_GM
    let s := { s with ptp := { s.ptp with gm := some gm }, ptpClass := cls }
    let s := s.putFlag TIM_STATUS_GM 0 false
    (if changed then s.raise 106 else s).showFollow
  else if s.flag TIM_CFG_GM_CAPABLE ∧ !s.flag TIM_STATUS_GM then
    (((({ s with ptp := { s.ptp with gm := none } } : State)).putFlag TIM_STATUS_GM 0 true).raise 106).showFollow
  else s

/-- The profile uses delay request-response, or peer delay (12 R527, R554). -/
def State.usesDelayReq (s : State) : Bool := s.reg TIM_CFG_PROFILE != 1 && s.reg TIM_CFG_PROFILE != 4
def State.usesPeerDelay (s : State) : Bool := s.reg TIM_CFG_PROFILE != 0

/-- A PTP message on the PTP lane in the device's domain (12 R516, R525, R527). -/
def State.ptpMessage (s : State) (m : PtpMsg) : State :=
  if s.timeSource ≠ 1 ∨ m.lane.val ≠ s.reg TIM_STATUS_PTP_LANE_NOW ∨ m.domain ≠ s.reg TIM_CFG_DOMAIN
      ∨ s.reg NET_LANE_STATUS_LINK m.lane.val = 0 then s
  else match m.kind with
    | .sync twoStep =>
      let s := { s with ptp := { s.ptp with syncSeq := if twoStep then some m.seq else none, syncRx := m.own1, syncCorr := m.corr } }
      if twoStep then s else s.ptpOffset m.peer1 m.corr
    | .followUp => if s.ptp.syncSeq = some m.seq then s.ptpOffset m.peer1 (s.ptp.syncCorr + m.corr) else s
    | .delayResp =>
      if s.usesDelayReq ∧ s.ptp.lastTx.isSome then
        s.ptpDelay (((s.ptp.t2 : Int) - s.ptp.t1 + ((m.peer1 : Int) - m.own1 - m.corr)) / 2)
      else s
    | .pdelayResp =>
      if s.usesPeerDelay then s.ptpDelay (((m.own2 : Int) - m.own1 - ((m.peer2 : Int) - m.peer1) - m.corr) / 2) else s
    | .announce gm cls best => s.ptpAnnounce gm cls best
    | .other => s

/-- An edge of PPS_IN may reach the time base: its monitor shows neither a fault nor a glitch run (13 R575, R576). -/
def State.ppsPasses (s : State) : Bool :=
  let st := s.reg CLK_IN_STATUS_STATE 1
  (st == 0 || st == 1) && (tabGet s.monitors 1 {}).outRun.isEmpty

/-- A rising edge of PPS_IN (12 R516, R519, R521). -/
def State.ppsIn (s : State) : State :=
  if !s.flag TIM_PPS_IN_EN then s
  else
    let s := s.put TIM_PPS_IN_NS 0 s.timNs
    if s.timeSource = 3 ∧ s.ppsPasses then
      let sec := (s.tim + timPerSec / 2) / timPerSec
      let theta := ((sec * timPerSec : Nat) : Int) - s.tim
      let dt := match s.time.lastPps with
        | some p => (sec - p) * 1000000000
        | none => 1000000000
      let s := { s with time := { s.time with lastPps := some sec } }
      s.servoUpdate (theta / (3 * 2 ^ 32)) dt
    else s

/-- The mean of 64 link offsets reaches the servo (12 R521). -/
def State.linkOffset (s : State) : State :=
  if s.linkThetas < 64 then s
  else
    let mean := s.linkTheta * 256 / s.linkThetas
    let s := { s with linkTheta := 0, linkThetas := 0 }
    if s.timeSource = 2 then s.servoUpdate mean (64 * 1000000000 / s.linkBase) else s

/-! ## Commands -/

/-- STEP (12 R514). -/
def execStepTime (s : State) : Out := .next s.hostStep

/-- SET (12 R514). -/
def execSetTime (s : State) : Out := .next s.hostSet

/-- TIME_READ_LATCH (12 R513). -/
def execTimeReadLatch (iface : Fin 3) (s : State) : Out := .next (s.timeRead iface)

/-- SERVO_UPDATE (12 R521): an offset in units of 2^-16 ns over an interval in ns. -/
def execServoUpdate (theta : Int) (dt : Nat) (s : State) : Out := .next (s.servoUpdate theta dt)

/-- PTP_MESSAGE (12 R527). -/
def execPtpMessage (m : PtpMsg) (s : State) : Out := .next (s.ptpMessage m)

/-- PPS_IN_EDGE (12 R521). -/
def execPpsInEdge (s : State) : Out := .next s.ppsIn

/-- LINK_OFFSET_UPDATE (12 R521). -/
def execLinkOffsetUpdate (s : State) : Out := .next s.linkOffset

/-- HOLDOVER_ENTRY (12 R520). -/
def execHoldoverEntry (s : State) : Out := .next s.holdoverEntry

/-- HOLDOVER_TIMEOUT (12 R524). -/
def execHoldoverTimeout (s : State) : Out := .next s.holdoverTimeout

/-- PPS_OUTPUT (12 R518): within one memory cycle after a whole second, PPS_OUT rises for WIDTH ms. -/
def execPpsOutput (s : State) : Out :=
  .next (if s.flag TIM_PPS_OUT_EN ∧ s.tim % timPerSec < s.timAdvance then
      { s with time := { s.time with ppsUntil := s.cycles + s.reg TIM_PPS_WIDTH * cyclesPerMs } }
    else s)

/-- PTP_LANE_MOVE (12 R528). -/
def execPtpLaneMove (s : State) : Out :=
  .next (let l := s.reg TIM_STATUS_PTP_LANE_NOW
    if !s.flag NET_LANE_STATUS_LINK l ∧ s.flag NET_LANE_STATUS_LINK (1 - l) then s.put TIM_STATUS_PTP_LANE_NOW 0 (1 - l) else s)

/-- The counter steps at the time of base-rate tick b + 64, and the groups ramp up (13 R583). -/
def State.rejoinStep (s : State) : State :=
  match s.time.rejoin with
  | some (.step delta due) =>
    if due ≤ s.tim + s.timAdvance then
      let s := s.stepBy delta
      let s := (List.finRange 4).foldl (fun (s : State) g =>
        if s.fs g != 0 && s.tickFromTime g then s.setGroup g { s.group g with gate := none, gated := true, gateReq := some (false, 0) }
        else s) s
      s.rejoinDone
    else s
  | _ => s

/-- REJOIN_STEP (13 R583). -/
def execRejoinStep (s : State) : Out := .next s.rejoinStep

end Sys2Proof.Machine
end

