-- ==== Sys2Proof/Machine/Clock.lean ====
section
/-!
DEFINITION. Media and SerDes PLLs, input monitors, holdover, rate changes and rejoins of the media PLLs, and the reference
(chapter 13).
-/

namespace Sys2Proof.Machine

open Sys2Proof

def State.pll (s : State) (n : Fin 2) : MediaPll := s.plls[n]
def State.setPll (s : State) (n : Fin 2) (x : MediaPll) : State := { s with plls := s.plls.set n x }
def State.pllState (s : State) (n : Fin 2) : Nat := s.reg CLK_MPLL_STATUS_STATE n.val
def State.setPllState (s : State) (n : Fin 2) (st : Nat) : State := s.put CLK_MPLL_STATUS_STATE n.val st

/-- Groups that a media PLL ticks. -/
def State.pllGroups (s : State) (n : Fin 2) : List GroupId := (List.finRange 4).filter fun g => s.fs g != 0 && s.pllOf g == n.val

/-! ## Locking and gating (13 R565, R569, R573, R579, R810) -/

/-- The dither register's seed (13 R565). -/
def State.pllSeed (s : State) (n : Fin 2) : Word :=
  if s.flag CLK_MPLL_CFG_SEED_SRC n.val then BitVec.ofNat 32 (0x20000 * (1 + s.reg RLK_GLB_CFG_DEV_ID) + n.val + 1)
  else BitVec.ofNat 32 (s.reg CLK_MPLL_SEED n.val)

/-- VCO frequency of a media PLL in kHz times 10 (13 R564). -/
def mediaVco10 (n : Fin 2) : Nat := if n = 0 then 28901376 else 31457280

/-- W at its nominal value, fraction bits cut off (13 R565; log entry 23). -/
def State.nominalW (s : State) (n : Fin 2) : Nat := mediaVco10 n * 2 ^ 32 / (10 * max 1 (s.reg CLK_CFG_REF_KHZ))

def State.showW (s : State) (n : Fin 2) (w : Nat) : State :=
  (s.put CLK_MPLL_RATIO_LO_FRAC n.val (w % 2 ^ 32)).put CLK_MPLL_RATIO_HI_INT n.val (w / 2 ^ 32)

/-- A media PLL starts to lock (13 R565, R569). -/
def State.lockStart (s : State) (n : Fin 2) (fallback relock : Bool) : State :=
  let x := s.pll n
  let s := s.setPll n { x with attempts := 0, lockSince := s.cycles, lfsr := s.pllSeed n, fallback := fallback, rateRamp := false,
                               waitEdge := false, relock := relock }
  let s := if relock then s.count CLK_MPLL_RELOCK_CNT n.val else s
  (s.showW n (s.nominalW n)).setPllState n 1

/-- BCLK and FS of the family's master ports stop after a full low phase (13 R571, R579; 10 R460). -/
def State.portsGate (s : State) (n : Fin 2) : State :=
  (List.finRange 16).foldl (fun (s : State) p =>
    if s.sapMaster p && s.fs (s.sapGroup p) != 0 && s.pllOf (s.sapGroup p) == n.val then
      if s.sapState p = 2 then s.sapClose p else s.setPort p { s.port p with a := none }
    else s) s

/-- The media outputs are gated (13 R571, R573). -/
def State.mediaGate (s : State) (n : Fin 2) : State :=
  let s := s.portsGate n
  (s.pllGroups n).foldl (fun (s : State) g => s.setGroup g { s.group g with gate := none, gateReq := none, gated := true }) s

/-- A media PLL has locked: its groups tick again, and after a relock they ramp up (13 R569, R573, R579, R810). -/
def State.mediaLocked (s : State) (n : Fin 2) : State :=
  let x := s.pll n
  let external := s.reg CLK_MPLL_CFG_REF n.val != 0 && !x.fallback
  let s := s.setPllState n (if x.fallback then 6 else 2)
  let s := s.setPll n { x with attempts := 0, waitEdge := external, target := none, relock := false }
  let s := if x.relock then
      (s.pllGroups n).foldl (fun (s : State) g =>
        s.setGroup g { s.group g with gate := none, gated := (s.group g).begun, gateReq := if (s.group g).begun then some (false, 0) else none }) s
    else s
  if x.rateRamp then (s.setPll n { s.pll n with rateRamp := false }).raise 110 else s

/-- The declared instant of a media PLL's lock (13 R569): 2 ms after its start. -/
def State.mediaDeclare (s : State) (n : Fin 2) (passes : Bool) : State :=
  let x := s.pll n
  if s.pllState n ≠ 1 ∨ s.cycles < x.lockSince + 2 * cyclesPerMs then s
  else if passes then s.mediaLocked n
  else if x.attempts < 2 then s.setPll n { x with attempts := x.attempts + 1, lockSince := s.cycles, lfsr := s.pllSeed n }
  else (s.setPllState n 7).raise 108

/-- SP1 runs at 12.5 GHz unless a lane is in 10GBASE-R (13 R562). -/
def State.sp1Vco (s : State) : Bool := s.reg NET_LANE_CFG_MODE 0 != 1 && s.reg NET_LANE_CFG_MODE 1 != 1

/-- The declared instant of a SerDes PLL's lock: 200 microseconds after its start (13 R562, R569). -/
def State.serdesDeclare (s : State) (k : Fin 2) (passes : Bool) : State :=
  let x := s.sps[k]
  if !x.locking ∨ s.cycles < x.since + cyclesPerMs / 5 then s
  else if passes then
    let s := { s with sps := s.sps.set k { x with locking := false, attempts := 0, failed := false } }
    if k = 0 then s.putFlag CLK_STATUS_SP0_LOCK 0 true
    else (s.putFlag CLK_STATUS_SP1_LOCK 0 true).putFlag CLK_STATUS_SP1_VCO 0 s.sp1Vco
  else if x.attempts < 2 then { s with sps := s.sps.set k { x with attempts := x.attempts + 1, since := s.cycles } }
  else ({ s with sps := s.sps.set k { x with locking := false, failed := true } } : State).raise 108

/-- A SerDes PLL starts to lock when its domain powers up (13 R563). -/
def State.serdesStart (s : State) (k : Fin 2) : State :=
  { s with sps := s.sps.set k { locking := true, since := s.cycles } }

/-- An ungated media PLL loses its frequency monitor (13 R573, R587). -/
def State.mediaFail (s : State) (n : Fin 2) : State :=
  let st := s.pllState n
  if st = 2 ∨ st = 3 ∨ st = 4 ∨ st = 6 then
    let s := if st = 4 then s.raise 111 else s
    ((s.mediaGate n).raise 108).lockStart n false true
  else s

/-! ## Reaction of a media PLL to its input (13 R575 to R584) -/

/-- The monitor of a PLL's reference (13 R574). -/
def State.pllInput (s : State) (n : Fin 2) : Option Nat :=
  match s.reg CLK_MPLL_CFG_REF n.val with
  | 1 => some 0
  | 2 => some (2 + s.reg CLK_MPLL_CFG_PORT n.val)
  | _ => none

/-- Media PLLs whose reference is monitored input `i`. -/
def State.inputPlls (s : State) (i : Nat) : List (Fin 2) := (List.finRange 2).filter fun n => s.pllInput n == some i

/-- A media PLL enters holdover on its last W (13 R575, R576, R578); a rejoin ends. -/
def State.pllHoldover (s : State) (n : Fin 2) : State :=
  let st := s.pllState n
  if st = 2 ∨ st = 4 then
    let s := if st = 4 then s.raise 111 else s
    (s.setPllState n 3).count CLK_MPLL_HOLD_CNT n.val
  else s

/-- The loop error of a media PLL as PHASE shows it, units of 2^-8 ns (13 R566). -/
def State.pllError (s : State) (n : Fin 2) : Int := (BitVec.ofNat 32 (s.reg CLK_MPLL_PHASE_ERR n.val)).toInt

/-- The input of a PLL in holdover or fallback is OK again: it rejoins, or re-anchors (13 R578, R580, R581, R584). -/
def State.pllReturn (s : State) (n : Fin 2) : State :=
  let st := s.pllState n
  if (st = 3 ∧ !(s.pll n).rateRamp) ∨ st = 6 then
    let s := s.raise 111
    if s.flag CLK_REJOIN_MODE then
      ((s.setPll n { s.pll n with target := some (s.pllError n) }).setPllState n 2).raise 111
    else s.setPllState n 4
  else s

/-- A rate change of a PLL's reference starts (13 R579 step 1): its groups ramp down from their next tick. -/
def State.rateChange (s : State) (n : Fin 2) : State :=
  let st := s.pllState n
  if st = 2 ∨ st = 3 ∨ st = 4 then
    let s := (s.pllHoldover n).raise 110
    let s := s.setPll n { s.pll n with rateRamp := true }
    (s.pllGroups n).foldl (fun (s : State) g => s.setGroup g { s.group g with gateReq := some (true, 0) }) s
  else s

/-! ## Input monitors (13 R574 to R577) -/

/-- Expected period of an input in thirds of a nanosecond (13 R574). -/
def State.expectedThirds (s : State) (i : Nat) : Nat :=
  if i = 0 then 3000000000 / (if s.flag CLK_WCLK_IN_FAM then 44100 else 48000)
  else if i = 1 then 3000000000
  else match toFin? 16 (i - 2) with
    | some p => 3000000000 / max 1 (s.fs (s.sapGroup p))
    | none => 0

/-- A period in thirds of a nanosecond is IN: within 5 % of the expected one (13 R574). -/
def periodIn (te p : Nat) : Bool := decide (100 * p ≤ 105 * te ∧ 95 * te ≤ 100 * p)

/-- The input is monitored (13 R574). -/
def State.monitored (s : State) (i : Nat) : Bool :=
  if i = 0 then (List.finRange 2).any fun n => s.reg CLK_MPLL_CFG_REF n.val == 1
  else if i = 1 then s.flag TIM_PPS_IN_EN
  else match toFin? 16 (i - 2) with
    | some p => !s.sapMaster p && s.flag SAP_CTL_EN p.val
    | none => false

def State.monitor (s : State) (i : Nat) : InMonitor := tabGet s.monitors i {}
def State.setMonitor (s : State) (i : Nat) (x : InMonitor) : State := { s with monitors := tabSet i x s.monitors }

/-- A monitor enters a state: EV109 (13 R577). -/
def State.monEnter (s : State) (i st : Nat) : State :=
  if s.reg CLK_IN_STATUS_STATE i = st then s
  else
    let s := (s.put CLK_IN_STATUS_STATE i st).raise 109
    (s.inputPlls i).foldl (fun (s : State) n =>
      if st = 1 then s.pllReturn n else if st = 2 ∨ st = 3 then s.pllHoldover n else if st = 4 then s.rateChange n else s) s

/-- Cycles in a second. -/
def cyclesPerSec : Nat := 600000000

/-- The 64 OUT periods of a run have one rate: each within 0.5 % of their mean (13 R577). -/
def oneRate (l : List Nat) : Bool := l.all fun p => decide (200 * (64 * p) ≤ 201 * l.sum ∧ 199 * l.sum ≤ 200 * (64 * p))

/-- A period of an input that is OK (13 R575, R577). -/
def State.okPeriod (s : State) (i p : Nat) (isIn : Bool) : State :=
  let x := s.monitor i
  if isIn then
    if x.outRun.isEmpty then s
    else
      let gl := (s.cycles :: x.glitches).filter fun t => decide (s.cycles < t + cyclesPerSec)
      let s := (s.setMonitor i { x with outRun := [], glitches := gl, inRun := 0, lastOut := s.cycles }).count CLK_IN_GLITCH_CNT i
      if 9 ≤ gl.length then s.monEnter i 3 else s
  else
    let run := p :: x.outRun
    if run.length < 64 then s.setMonitor i { x with outRun := run }
    else
      let s := s.setMonitor i { x with outRun := [], inRun := 0, lastOut := s.cycles }
      if oneRate run ∧ i ≠ 1 then ((s.put CLK_IN_PERIOD i (run.sum / 64 / 3))).monEnter i 4 else s.monEnter i 3

/-- A period of an input that is not OK yet: 64 IN periods in a row bring it back; a FAULTY one also needs a second without a
glitch before them (13 R575, R576, R579). -/
def State.badPeriod (s : State) (i : Nat) (isIn faulty : Bool) : State :=
  let x := s.monitor i
  if !isIn then s.setMonitor i { x with inRun := 0, lastOut := s.cycles }
  else if faulty ∧ s.cycles < x.lastOut + cyclesPerSec then s
  else if x.inRun + 1 < 64 then s.setMonitor i { x with inRun := x.inRun + 1 }
  else (s.setMonitor i { x with inRun := 0, glitches := [], outRun := [] }).monEnter i 1

/-- FAST follows the period of a tracked reference: more than 250 ppm fast (13 R568). -/
def State.showFast (s : State) (i te p : Nat) : State :=
  (s.inputPlls i).foldl (fun (s : State) n =>
    let fast := s.pllState n == 2 && decide (1000250 * p < 1000000 * te)
    let was := s.flag CLK_MPLL_STATUS_FAST n.val
    let s := s.putFlag CLK_MPLL_STATUS_FAST n.val fast
    if fast && !was then s.raise 110 else s) s

/-- An edge of a monitored input (13 R573 to R577). -/
def State.inputEdge (s : State) (i : Nat) : State :=
  if !s.monitored i then s
  else
    let s := (s.inputPlls i).foldl (fun (s : State) n => s.setPll n { s.pll n with waitEdge := false }) s
    let x := s.monitor i
    let st := s.reg CLK_IN_STATUS_STATE i
    let s := s.setMonitor i { x with lastEdge := some s.cycles }
    match x.lastEdge with
    | none => s
    | some t =>
      let p := 5 * (s.cycles - t)
      let te := s.expectedThirds i
      let isIn := periodIn te p
      let s := s.put CLK_IN_PERIOD i (p / 3)
      match st with
      | 0 => if isIn then s.monEnter i 1 else s
      | 1 => let s := s.okPeriod i p isIn
        if isIn then s.showFast i te p else s
      | 2 => (s.setMonitor i { s.monitor i with inRun := 0 }).monEnter i 5
      | 3 => s.badPeriod i isIn true
      | _ => s.badPeriod i isIn false

/-- No edge within 2 T_e (13 R574, R576). -/
def State.inputStopped (s : State) (i : Nat) : State :=
  let x := s.monitor i
  match x.lastEdge with
  | none => s
  | some t =>
    let st := s.reg CLK_IN_STATUS_STATE i
    if s.monitored i ∧ st ≠ 0 ∧ st ≠ 2 ∧ 2 * s.expectedThirds i ≤ 5 * (s.cycles - t) then
      ((s.setMonitor i { x with outRun := [], inRun := 0 }).count CLK_IN_STOP_CNT i).monEnter i 2
    else s

/-! ## Commands -/

/-- REFERENCE_STOP (13 R572). -/
def execReferenceStop (s : State) : Out :=
  .next (if s.flag CLK_STATUS_REF_HOLD then s else { s.putFlag CLK_STATUS_REF_HOLD 0 true with refStopped := some s.cycles })

/-- REFERENCE_RETURN (13 R572): within 100 ms. -/
def execReferenceReturn (s : State) : Out :=
  .next (match s.refStopped with
    | some t => if s.cycles < t + 100 * cyclesPerMs then { s.putFlag CLK_STATUS_REF_HOLD 0 false with refStopped := none } else s
    | none => s)

/-- REFERENCE_CHECK (13 R570): `within` tells whether the reference lies within 10 % of nominal against the AON oscillator. -/
def execReferenceCheck (within : Bool) (s : State) : Out := .next (if within then s else s.raise 108)

/-- MEDIA_MONITOR_FAIL (13 R573). -/
def execMediaMonitorFail (n : Fin 2) (s : State) : Out := .next (s.mediaFail n)

/-- INPUT_EDGE (13 R574). -/
def execInputEdge (k : Fin 18) (s : State) : Out := .next (s.inputEdge k.val)

/-- INPUT_STOPPED (13 R576). -/
def execInputStopped (k : Fin 18) (s : State) : Out := .next (s.inputStopped k.val)

/-- RATE_CHANGE_GATE (13 R579 step 2): every group of the family has made its ramp. -/
def execRateChangeGate (n : Fin 2) (s : State) : Out :=
  .next (if (s.pll n).rateRamp ∧ s.pllState n = 3 ∧ (s.pllGroups n).all (fun g => (s.group g).gated) then
      (s.mediaGate n).setPllState n 5
    else s)

/-- The gated PLL relocks (13 R579 step 3): at once under FALLBACK, else when its input is OK. -/
def State.rateRelock (s : State) (n : Fin 2) : State :=
  let fb := s.flag CLK_MPLL_CFG_FALLBACK n.val
  let ok : Bool := match s.pllInput n with
    | some i => s.reg CLK_IN_STATUS_STATE i == 1
    | none => true
  if s.pllState n == 5 && (fb || ok) then
    let s := s.lockStart n fb true
    s.setPll n { s.pll n with rateRamp := true }
  else s

/-- RATE_CHANGE_RELOCK (13 R579). -/
def execRateChangeRelock (n : Fin 2) (s : State) : Out := .next (s.rateRelock n)

/-- A slewing rejoin has brought the offset below 100 ns: 0 = the time base, 1 and 2 = MC0 and MC1 (13 R582). -/
def State.rejoinEnd (s : State) (which : Fin 3) : State :=
  if which = 0 then
    let th := (BitVec.ofNat 32 (s.reg TIM_THETA)).toInt
    if s.time.rejoin = some .slew ∧ th.natAbs < 25600 then s.rejoinDone else s
  else
    let n : Fin 2 := if which = 1 then 0 else 1
    if s.pllState n = 4 then (s.setPllState n 2).raise 111 else s

/-- REJOIN_END (13 R582). -/
def execRejoinEnd (which : Fin 3) (s : State) : Out := .next (s.rejoinEnd which)

end Sys2Proof.Machine
end

