-- ==== Sys2Proof/Machine/Faults.lean ====
section
/-!
DEFINITION. Crossbar retries and the re-read of a core-memory word (18 R738, R748, R752).
-/

namespace Sys2Proof.Machine

open Sys2Proof

/-- A failed retry is counted and summed up (18 R748). -/
def State.xbarFailed (s : State) : State := ((s.count FLT_XBAR_FAIL_CNT).putFlag FLT_SUM_XBAR 0 true).raise 45

/-- A crossbar parity error is retried once; `again` says that the retry fails too (18 R748). -/
def State.crossbarRetry (s : State) (x : XbarAccess) (again : Bool) : State :=
  let s := s.count FLT_XBAR_RETRY_CNT
  if !again then s
  else
    let s := s.xbarFailed
    match x with
    | .coreRead c due =>
      let core := s.core c
      s.setCore c { core with run := core.run.map fun y =>
        { y with reads := y.reads.map fun r => if r.due + y.off = due then { r with failed := true } else r } }
    | .coreWrite c b =>
      let q := (s.bank b).queue
      let s := match (q.reverse.find? fun r => r.write && r.who == c.val) with
        | some r => s.setBank b { s.bank b with queue := (q.reverse.erase r).reverse }
        | none => s
      s.setCore c { s.core c with xbarFail := (s.core c).run.isSome }
    | .other who b w write => { s with xbarFails := s.xbarFails ++ [(who, b, w, write)] }

/-- The re-read of a corrected word of a core memory classes the error (18 R738). -/
def State.coreReRead (s : State) (c : CoreId) (m : CoreMem) (word : Half) (half again : Bool) : State :=
  if again then
    (((s.count FLT_CORE_LLAST_CNT c.val).captureLocal c m word half).putFlag FLT_SUM_LOCAL_LASTING 0 true).raise c.val
  else s.count FLT_CORE_LCE_CNT c.val

/-- CROSSBAR_RETRY (18 R748). -/
def execCrossbarRetry (x : XbarAccess) (again : Bool) (s : State) : Out := .next (s.crossbarRetry x again)

/-- CORE_MEMORY_RE_READ (18 R738). -/
def execCoreMemoryReRead (c : CoreId) (m : CoreMem) (word : Half) (half again : Bool) (s : State) : Out :=
  .next (s.coreReRead c m word half again)

end Sys2Proof.Machine
end

