-- ==== Sys2Proof/Machine/HostPort.lean ====
section
/-!
DEFINITION. How accesses of the host interfaces end: the device phase of a QSPI transaction, words that time out
(16 R663 to R668, R672).
-/

namespace Sys2Proof.Machine

open Sys2Proof

/-- The device phase: STATUS, then the words and their CRC-16 where a read answers 0x80; sticky error and EV125 by status
(16 R663, R665, R666, R700). -/
def State.qspiEnd (s : State) (write crc : Bool) (status : Nat) (words : List Word) : State :=
  let good : Bool := !write && status == 0x80
  let body : List Byte := BitVec.ofNat 8 status :: words.flatMap wordBytes
  let r : QspiReply := { status := status, words := if good then words else [], crc := if good && crc then some (crc16 body) else none }
  let s : State := { s with qspi := none, qspiReply := some r }
  let s := if status = 0x81 ∨ status = 0x82 ∨ status = 0x84 then s.putFlag HST_STATUS_QSPI_ERR 0 true else s
  if status = 0x80 ∨ status = 0x83 then s else s.raise 125

/-- Words of an I2C read that are not ready in time (16 R672). -/
def State.i2cLate (s : State) (n : Nat) : State :=
  (({ s with i2cOut := s.i2cOut ++ List.replicate n 0xFFFFFFFF } : State).putFlag HST_STATUS_I2C_TIMEOUT 0 true).raise 126

/-- Every waiting access times out: reads make none, written words still land later (16 R668, R672). -/
def State.busTimeout (s : State) : State :=
  let l := s.hostBus
  if l.isEmpty then s
  else
    let n := (l.filter fun w => w.iface == 1 && !w.write).length
    let s : State := { s with hostBus := [], lateBus := s.lateBus ++ l.filter fun w => w.write }
    let s := match s.qspi with
      | some q => s.qspiEnd q.write q.crc 0x82 []
      | none => s
    if n = 0 then s else s.i2cLate n

end Sys2Proof.Machine
end

