-- ==== Sys2Proof/Machine/Image.lean ====
section
/-!
DEFINITION. Registers as words: which fields lie at a host address, the word they make, and images written into them
(00 R7, R10, R14; 14 R605; 20 R767, R768).
-/

namespace Sys2Proof.Machine

open Sys2Proof

/-- The element of a field that lies at an address. -/
def Field.indexAt (f : Field) (addr : Nat) : Option Nat :=
  let d := addr - f.addr
  let i := if f.count ≤ 1 then 0 else d / f.stride
  let r := if f.count ≤ 1 then d else d % f.stride
  let k := if f.count2 ≤ 1 then 0 else r / f.stride2
  let r' := if f.count2 ≤ 1 then r else r % f.stride2
  if f.addr ≤ addr ∧ r' = 0 ∧ i < max 1 f.count ∧ k < max 1 f.count2 then some (i * f.count2 + k) else none

/-- The fields at an address. -/
def fieldsAt (addr : Nat) : List (Field × Nat) := fieldTable.filterMap fun f => (f.indexAt addr).map fun i => (f, i)

/-- The bits of a field in a word. -/
def Field.bits (f : Field) (w : Word) : Nat := w.toNat / 2 ^ f.lo % 2 ^ f.width

/-- A value that a write may give the field (00 R10). -/
def Field.legal (f : Field) (v : Nat) : Bool := decide (f.minV ≤ v) && decide (v ≤ f.maxV)

/-- The word of a register as its fields hold it. -/
def State.rawWord (s : State) (addr : Nat) : Word :=
  BitVec.ofNat 32 ((fieldsAt addr).map fun p => s.reg p.1 p.2 * 2 ^ p.1.lo).sum

/-- The loader writes an image: every field at the address takes its bits. -/
def State.putImage (s : State) (addr : Nat) (w : Word) : State :=
  (fieldsAt addr).foldl (fun (s : State) p => s.put p.1 p.2 (p.1.bits w)) s

/-- Images at consecutive registers. -/
def State.putImages (s : State) (addr : Nat) : List Word → State
  | [] => s
  | w :: t => (s.putImage addr w).putImages (addr + 4) t

/-- The bits of a register that no field takes. -/
def reservedBits (addr : Nat) : Nat := 2 ^ 32 - 1 - ((fieldsAt addr).map fun p => (2 ^ p.1.width - 1) * 2 ^ p.1.lo).sum

/-- An image sets no reserved bit and no reserved encoding (14 R603). -/
def imageOk (addr : Nat) (w : Word) : Bool :=
  w.toNat &&& reservedBits addr == 0 && (fieldsAt addr).all fun p => p.1.legal (p.1.bits w)

/-- A field takes a masked part of a word. -/
def State.putMasked (s : State) (addr : Nat) (mask v : Word) : State :=
  (fieldsAt addr).foldl (fun (s : State) p => if p.1.bits mask = 0 then s else s.put p.1 p.2 (p.1.bits v)) s

end Sys2Proof.Machine
end

