-- ==== Sys2Proof/Machine/Probe.lean ====
section
/-!
DEFINITION. The live probe: sequences, weir, correlation, results and the closed loop (chapter 08).
-/

namespace Sys2Proof.Machine

open Sys2Proof

def State.probeGroup (s : State) : GroupId := Fin.ofNat 4 (s.reg PRB_CTL_GROUP)
def State.probeRate (s : State) : Nat := s.reg SE_RG_CFG_RATE s.probeGroup.val
def State.pout (s : State) (o : Nat) : ProbeOut := tabGet s.probe.outs o {}
def State.setPout (s : State) (o : Nat) (x : ProbeOut) : State := { s with probe := { s.probe with outs := tabSet o x s.probe.outs } }

/-- Outputs that are defined. -/
def State.poutList (s : State) : List Nat := (List.range 64).filter fun o => s.flag PRB_OUT_CFG_VALID o

/-! ## Sequences (08 R339 to R343) -/

/-- Exponents of the recurrence of order m below m: x^m is their sum (08 R340). -/
def mlsTaps (m : Nat) : List Nat :=
  match m with
  | 14 => [5, 3, 1, 0]
  | 15 => [14, 0]
  | 16 => [15, 13, 4, 0]
  | 17 => [14, 0]
  | 18 => [11, 0]
  | 19 => [6, 2, 1, 0]
  | _ => [17, 0]

/-- x^m modulo the recurrence, as bits. -/
def mlsPoly (m : Nat) : Nat := ((mlsTaps m).map fun e => 2 ^ e).sum

/-- Multiply by x modulo the recurrence. -/
def mlsStep (m v : Nat) : Nat := let w := 2 * v; if w.testBit m then (w - 2 ^ m) ^^^ mlsPoly m else w

/-- Product modulo the recurrence; `n` bits of `b` are left. -/
def mlsMul (m a : Nat) : Nat → Nat → Nat
  | 0, _ => 0
  | n + 1, b => (if b % 2 = 1 then a else 0) ^^^ mlsStep m (mlsMul m a n (b / 2))

/-- x^k modulo the recurrence, for k below 2^n. -/
def mlsPow (m : Nat) : Nat → Nat → Nat
  | 0, _ => 1
  | n + 1, k =>
    let h := mlsPow m n (k / 2)
    let q := mlsMul m h m h
    if k % 2 = 1 then mlsStep m q else q

/-- Parity of the bits of a number below 2^n. -/
def parityOf : Nat → Nat → Bool
  | 0, _ => false
  | n + 1, v => (v % 2 == 1) != parityOf n (v / 2)

/-- a_k of the sequence of order m with its seed (08 R340). -/
def mlsBit (m seed k : Nat) : Bool := parityOf m (mlsPow m m k &&& (seed % 2 ^ m))

/-- The MLS value at an index (08 R340). -/
def mlsValue (m seed k : Nat) : Int := if mlsBit m seed (k % (2 ^ m - 1)) then -0x10000000 else 0x10000000

/-- One step of the Gaussian generator's register (08 R342; log entry 27). -/
def gaussStep (w : Word) : Word := if w.msb then (w <<< 1) ^^^ 0x00400007 else w <<< 1

def iterate (f : Word → Word) : Nat → Word → Word
  | 0, w => w
  | n + 1, w => iterate f n (f w)

/-- Twelve draws: the sum and the register (08 R342). -/
def gaussDraw : Nat → Word → Nat × Word
  | 0, w => (0, w)
  | n + 1, w =>
    let w := iterate gaussStep 16 w
    let (g, w') := gaussDraw n w
    (w.toNat % 2 ^ 16 + g, w')

/-- One value of a Gaussian generator in Q1.31 (08 R342). -/
def gaussValue (w : Word) : Int × Word :=
  let (g, w) := gaussDraw 12 w
  (((g : Int) - 393210) * 4096, w)

/-- The seed of generator `k` (08 R343). -/
def State.sgSeed (s : State) (k : Nat) : Nat :=
  if s.flag PRB_SG_CFG_SEED_SRC k then 0x10000 * (1 + s.reg RLK_GLB_CFG_DEV_ID) + k else s.reg PRB_SG_SEED k

def State.sgOrder (s : State) (k : Nat) : Nat := 14 + s.reg PRB_SG_CFG_ORDER k
def State.sgGauss (s : State) (k : Nat) : Bool := s.flag PRB_SG_CFG_KIND k

/-- Length of a steep of output `o` (08 R357). -/
def State.steepLength (s : State) (o : Nat) : Nat :=
  let n := s.reg PRB_STEEP_SECONDS * s.fs s.probeGroup
  let k := s.reg PRB_OUT_CFG_SG o
  if s.sgGauss k then n
  else
    let p := 2 ^ s.sgOrder k - 1
    max 1 (n / p) * p

/-! ## Weir and mix (08 R344 to R351) -/

/-- The linear gain of a level, units of 2^-40; off is 0. -/
def linGain : Option Int → Int
  | none => 0
  | some g => Config.dbGain g

/-- The probe value of an output from its band signals in a weir block's sample `i` (08 R347). -/
def mixBands (old new : List (Option Int)) (u : List Int) (i : Nat) : Int :=
  roundHalfEven (((old.zip new).zip u).foldl (fun a p =>
    a + (16 * linGain p.1.1 + (linGain p.1.2 - linGain p.1.1) * (i + 1)) * p.2) 0) (2 ^ 60)

/-- One step of a band's power in units of 2^-62 (08 R345; log entry 28). -/
def trackPower (ka kr : Nat) (pb : Nat) (x : Int) : Nat :=
  let p : Int := x * x
  ((pb : Int) + (p - pb) / 2 ^ (if (pb : Int) < p then ka else kr)).toNat

/-- A_b of a band (08 R377). -/
def State.attenOf (s : State) (o b : Nat) : Nat := s.reg PRB_OUT_ATTEN_A (4 * o + b / 4) / 256 ^ (b % 4) % 256

/-- The new gain of a band from its power and the gain it held (08 R346), levels in 0.01 dB. -/
def State.bandGain (s : State) (o b : Nat) (power : Nat) (prev : Option Int) : Option Int :=
  let a := s.attenOf o b
  let e : Int := if power = 0 then -20000 else Config.powerDb power
  let c := e - 50 * s.reg PRB_WEIR_MARGIN
  let c := if s.flag PRB_WEIR_FLOOR_EN then max c (-(50 * s.reg PRB_WEIR_FLOOR : Int)) else c
  let t := min (-2408 - 50 * (a : Int)) c
  let g := min ((t + 2408) / 50) (min 0 ((prev.getD (-192)) + 1))
  if g < -192 ∨ a = 0xFF then none else some g

/-- The probe is added: the group is in RUN without a ramp, not held, and not in the dip of a CUT (08 R351). -/
def State.probeAllowed (s : State) : Bool :=
  let g := s.probeGroup
  s.rgState g == 1 && !s.flag SE_RG_STATUS_RAMPING g.val && !(s.group g).heldLast && (s.group g).out.ramp.isNone && (s.group g).out.dip.isNone

/-- The next value of every generator: Gaussian registers advance (08 R341, R342). -/
def State.gaussValues (s : State) : List Int × State :=
  (List.finRange 4).foldr (fun (k : Fin 4) (p : List Int × State) =>
    let s := p.2
    if s.sgGauss k.val then
      let (v, w) := gaussValue s.probe.lfsr[k]
      (v :: p.1, { s with probe := { s.probe with lfsr := s.probe.lfsr.set k w } })
    else (0 :: p.1, s)) ([], s)

/-- A steep of an output starts at sample `m` (08 R357). -/
def State.steepBegin (s : State) (o m no : Nat) : State :=
  let len := s.steepLength o
  let s := s.setPout o { s.pout o with steepNo := no, steepStart := m, steepLen := len }
  let k := s.reg PRB_OUT_IR_K o
  let fresh : SteepSum := { no := no, start := m, len := len, num := List.replicate k 0, den := List.replicate k 0 }
  ((List.range 16).filter fun i => s.maskBit PRB_OUT_MASK_MICS i o).foldl (fun (s : State) i =>
    let key := 16 * o + i
    { s with probe := { s.probe with pairs := tabSet key ((fresh :: tabGet s.probe.pairs key []).take 3) s.probe.pairs } }) s

/-- A steep that has run its length gives way to the next (08 R357). -/
def State.steepRoll (s : State) (o m : Nat) : State :=
  let x := s.pout o
  if x.steepStart + x.steepLen ≤ m then s.steepBegin o (x.steepStart + x.steepLen) (x.steepNo + 1) else s

/-- One output at sample `m`: its probe value, and the weir's powers from the mask value `v` (08 R344 to R347, R358). -/
def State.outSample (s : State) (o m : Nat) (gauss : List Int) (v : Int) : Int × State :=
  let s := s.steepRoll o m
  let x := s.pout o
  let k := s.reg PRB_OUT_CFG_SG o
  let q := if s.sgGauss k then gauss.getD k 0 else mlsValue (s.sgOrder k) (s.sgSeed k) (m + s.reg PRB_OUT_SHIFT o)
  let (sm, u) := Config.probeShaper s.probeRate x.shaper q
  let moving := match s.probe.block with
    | some b => b + 1 == m / 16
    | none => false
  let p := mixBands (if moving then x.oldGain else x.gain) x.gain u (m % 16)
  let (wm, xs) := Config.weirBands s.probeRate x.weir v
  let pw := (x.power.zip xs).map fun r => trackPower s.probe.ka s.probe.kr r.1 r.2
  let keep := s.reg PRB_OUT_IR_K o + s.reg PRB_OUT_IR_OFS o + 131072
  (p, s.setPout o { x with shaper := sm, weir := wm, power := pw,
                           sent := (tabSet m p x.sent).filter fun e => decide (m < e.1 + keep) })

/-- All outputs at sample `m`; `v4` gives the value of an egress channel after the ramps. The result lists the probe values by sink
channel (08 R345, R350). -/
def State.probeSample (s : State) (m : Nat) (v4 : Nat → Int) : Tab Int × State :=
  if !s.probe.running then ([], s)
  else
    let (gs, s) := s.gaussValues
    let s := if s.probeAllowed then s else { s with probe := { s.probe with disturbed := true } }
    let (l, s) := s.poutList.foldl (fun (p : Tab Int × State) o =>
      let s := p.2
      let (v, s) := s.outSample o m gs (v4 (s.reg PRB_OUT_MASK_MASK_CH o))
      (tabSet (s.reg PRB_OUT_CFG_SINK_CH o) v p.1, s)) ([], s)
    (l, { s with probe := { s.probe with last := some m } })

/-- A sample of sink channel `c` was clamped at the mix (08 R350, R365). -/
def State.probeClip (s : State) (c : Nat) : State :=
  let s := s.count PRB_CLIP_CNT
  let s := if s.probe.clamped then s else ({ s with probe := { s.probe with clamped := true } } : State).raise 51
  (s.poutList.filter fun o => s.reg PRB_OUT_CFG_SINK_CH o == c).foldl (fun (s : State) o =>
    { s with probe := { s.probe with pairs := s.probe.pairs.map fun p =>
      if p.1 / 16 = o then (p.1, p.2.map fun q => if q.no = (s.pout o).steepNo then { q with clipped := true } else q) else p } }) s

/-- The mix of R350: the sum, clamped. -/
def probeMix (x : Word) (p : Int) : Word × Bool :=
  let y := x.toInt + p
  (BitVec.ofInt 32 (sat32 y), sat32 y != y)

/-- Gains of one output for the coming weir block (08 R346, R351, R352). -/
def State.fixGains (s : State) (o : Nat) (off : Bool) : State :=
  let x := s.pout o
  let new := (List.range 16).map fun b =>
    if off then none else s.bandGain o b (x.power.getD b 0) (x.gain.getD b none)
  let s := s.setPout o { x with oldGain := x.gain, gain := new }
  s.putFlag PRB_OUT_STATUS_ACTIVE o (new.any Option.isSome)

/-- The probe is idle: nothing is kept (08 R352, R375). -/
def State.probeIdle (s : State) : State :=
  let s := { s with probe := { pairs := s.probe.pairs.map fun (p : Nat × List SteepSum) => (p.1, []), sp := none } }
  let s := (s.putFlag PRB_STATUS_RUN 0 false).putFlag PRB_STATUS_BACKLOG 0 false
  (List.range 64).foldl (fun (s : State) o => (s.putFlag PRB_OUT_STATUS_ACTIVE o false).putFlag PRB_OUT_STATUS_SUPPRESSED o false) s

/-- s_p of a write registered now (08 R349). -/
def State.probeSchedule (s : State) : State :=
  let (nr, s) := s.regTick s.probeGroup
  { s with probe := { s.probe with sp := some (nextMultiple 16 (nr + 17)) } }

/-- The weir block that ends with the last sample processed is fixed, once (08 R346, R351, R352). -/
def State.weirBlock (s : State) : State :=
  match s.probe.last with
  | none => s
  | some m =>
    if !s.probe.running ∨ m % 16 ≠ 15 ∨ s.probe.block = some (m / 16) then s
    else
      let stopping := match s.probe.stopAt with
        | some a => decide (a ≤ m + 1)
        | none => false
      let past := match s.probe.stopAt with
        | some a => decide (a ≤ m)
        | none => false
      if past then
        let s := s.probeIdle
        if s.flag PRB_CTL_EN then s.probeSchedule else s
      else
        let bad := s.probe.disturbed || !s.probeAllowed
        let s := s.poutList.foldl (fun (s : State) o =>
          (s.fixGains o (bad || stopping)).putFlag PRB_OUT_STATUS_SUPPRESSED o bad) s
        { s with probe := { s.probe with block := some (m / 16), disturbed := false, clamped := false,
                                         ka := s.reg PRB_WEIR_KA, kr := s.reg PRB_WEIR_KR } }

/-- The probe starts at s_p: gains off, powers 0, Gaussian registers loaded, steeps begun (08 R342, R345, R349, R357). -/
def State.probeStart (s : State) : State :=
  match s.probe.sp with
  | none => s
  | some a =>
    if s.probe.running ∨ s.tickNow s.probeGroup < a then s
    else
      let seeds : Vector Word 4 := Vector.ofFn fun k => BitVec.ofNat 32 (s.sgSeed k.val)
      let s := { s with probe := { s.probe with running := true, outs := [], pairs := [], notes := [], lfsr := seeds, last := none,
                                                block := none, ka := s.reg PRB_WEIR_KA, kr := s.reg PRB_WEIR_KR } }
      let s := s.putFlag PRB_STATUS_RUN 0 true
      s.poutList.foldl (fun (s : State) o => s.steepBegin o a 0) s

/-! ## Microphones and the own correlator (08 R355 to R360) -/

/-- Window offset O of a pair, and whether it was negative (08 R355). -/
def State.windowOfs (s : State) (o i : Nat) : Nat × Bool :=
  let v : Int := s.reg PRB_OUT_IR_OFS o + (BitVec.ofNat 16 (s.reg PRB_MIC_OFS i)).toInt
  (v.toNat, decide (v < 0))

/-- The pair uses the block convolution engine (08 R359). -/
def State.bcePath (s : State) (o : Nat) : Bool := decide (2048 < s.reg PRB_OUT_IR_K o) || s.flag PRB_OUT_CFG_FORCE_BCE o

/-- Sample index, in the probe's group, of the capture time of a microphone sample `m` (08 R355; 09 R390). -/
def State.captureIndex (s : State) (c m : Nat) : Nat :=
  let ch := tabGet s.ingress c {}
  let bs := blockSize ch
  let w := ch.sbase + 2 * stampSlot ch (m / bs)
  let ns := (s.bankWord ch.bank w).toNat
  let sec := (s.bankWord ch.bank (w + 1)).toNat / 2 ^ 16 % 256
  let fs := max 1 (s.fs ch.group)
  let x := s.group ch.group
  let back := (x.tickTim / timPerSec + 256 - sec) % 256
  let cap := (x.tickTim / timPerSec - back) * timPerSec + ns * timPerNs + m % bs * timPerSec / fs
  x.n - ((x.tickTim - cap) * fs + timPerSec / 2) / timPerSec

/-- One microphone sample enters the sums of one steep: tap k pairs it with reference n = j - O - k (08 R355, R359). -/
def addTaps (q : SteepSum) (sent : Tab Int) (j ofs : Nat) (y : Option Int) : SteepSum :=
  let idx (k : Nat) : Option Int :=
    if ofs + k ≤ j ∧ q.start ≤ j - ofs - k ∧ j - ofs - k < q.start + q.len then tabGet? (j - ofs - k) sent else none
  let touched := (List.range q.num.length).any fun k => (idx k).isSome
  match y with
  | none => if touched then { q with partly := true } else q
  | some y =>
    { q with num := q.num.zipIdx.map fun p => p.1 + match idx p.2 with
               | some x => y * x
               | none => 0
             den := q.den.zipIdx.map fun p => p.1 + match idx p.2 with
               | some x => (x * x).toNat
               | none => 0
             samples := q.samples + if (idx 0).isSome then 1 else 0 }

/-- A steep's last microphone sample is present (08 R359, R362, R363). -/
def noteDone (q : SteepSum) (j ofs cycles : Nat) : SteepSum :=
  if q.doneAt.isNone ∧ q.start + q.len - 1 + ofs + q.num.length - 1 ≤ j then { q with doneAt := some cycles } else q

/-- An excluded microphone sample is counted; EV54 once for each steep (08 R356). -/
def State.exclude (s : State) (i : Nat) : State :=
  let s := s.count PRB_MIC_EXCL_CNT i
  let now := ((s.poutList.filter fun o => s.maskBit PRB_OUT_MASK_MICS i o).map fun o => (o, (s.pout o).steepNo)).filter
    fun e => !s.probe.exclSteeps.contains e
  if now.isEmpty then s
  else ({ s with probe := { s.probe with exclSteeps := (now ++ s.probe.exclSteeps).take 256 } } : State).raise 54

/-- Microphone `i` at tick `m`: its word, unless the stream mover concealed it, its block came late or the
read gave 0 (08 R355, R356; 18 R750). -/
def State.micSample (s : State) (i m : Nat) : State :=
  let c := s.reg PRB_MIC_CFG_CH i
  let ch := tabGet s.ingress c {}
  let k := m / blockSize ch
  let (w, s) := s.readAs 18 ch.bank (chanWord ch m)
  let (lost, s) := s.takeBad
  let out := lost || s.stampHas c k stConcealed || s.stampHas c k stLate
  let j := s.captureIndex c m
  let s := { s with probe := { s.probe with micAt := tabSet i j s.probe.micAt } }
  let s := if out then s.exclude i else s
  (s.poutList.filter fun o => s.maskBit PRB_OUT_MASK_MICS i o).foldl (fun (s : State) o =>
    let (ofs, neg) := s.windowOfs o i
    let s := if neg then s.putFlag PRB_STATUS_OFS_CLAMP 0 true else s
    let key := 16 * o + i
    let l := (tabGet s.probe.pairs key []).map fun q => noteDone (addTaps q (s.pout o).sent j ofs (if out then none else some w.toInt)) j ofs s.cycles
    { s with probe := { s.probe with pairs := tabSet key l s.probe.pairs } }) s

/-- All microphones at tick `m` of the probe's group. -/
def State.micTick (s : State) (m : Nat) : State :=
  if !s.probe.running then s
  else ((List.range 16).filter fun i => s.flag PRB_MIC_CFG_VALID i).foldl (fun (s : State) i => s.micSample i m) s

/-! ## Results (08 R361 to R368) -/

/-- h[k] as a fraction; a tap without reference energy, or of the engine's path, is a free value (log entry 29). -/
def State.tapFractions (s : State) (free : Bool) (q : SteepSum) : List (Int × Nat) × State :=
  (q.num.zip q.den).foldr (fun p (r : List (Int × Nat) × State) =>
    if free ∨ p.2 = 0 then
      let (w, s) := r.2.chooseWord
      ((w.toInt, 2 ^ 31) :: r.1, s)
    else (p :: r.1, r.2)) ([], s)

/-- T[k] of a tap for exponent E (08 R365). -/
def tapWord (e : Int) (p : Int × Nat) : Int :=
  if e ≤ 31 then roundHalfEven (p.1 * 2 ^ (31 - e).toNat) p.2 else roundHalfEven p.1 (p.2 * 2 ^ (e - 31).toNat)

/-- The smallest exponent for which every tap fits (08 R365); `n` exponents from `e` upwards are left. -/
def fitExp (l : List (Int × Nat)) : Nat → Int → Int
  | 0, e => e
  | n + 1, e => if fitsAll 32 (l.map (tapWord e)) then e else fitExp l n (e + 1)

/-- Index of the largest magnitude, the first of equal ones. -/
def peakOf (l : List Int) : Nat :=
  (l.zipIdx.foldl (fun (b : Nat × Nat) p => if b.2 < p.1.natAbs then (p.2, p.1.natAbs) else b) (0, 0)).1

/-- SNR of the taps (08 R366). -/
def snrOf (t : List Int) : Int :=
  let sq (l : List Int) : Nat := (l.map fun x => x.natAbs * x.natAbs).sum
  let tail := sq (t.drop (t.length - t.length / 8))
  if tail = 0 then 0x7FFF else max (-32765) (min 32765 (Config.ratioDb (sq t) (8 * tail)))

/-- DELAY in units of 2^-8 sample (08 R367). -/
def delayOfTaps (t : List Int) (ofs : Nat) : Int :=
  let p := peakOf t
  let m (i : Nat) : Int := (t.getD i 0).natAbs
  let d := m (p - 1) - 2 * m p + m (p + 1)
  let whole : Int := 256 * (ofs + p : Nat)
  if p = 0 ∨ p + 1 = t.length ∨ d = 0 then whole
  else
    let n := 128 * (m (p - 1) - m (p + 1))
    let (n, d) := if d < 0 then (-n, -d) else (n, d)
    roundHalfEven (whole * d + n) d.toNat

/-- Words 0 to 15 of a result record (08 R365). -/
def recordWords (o i : Nat) (bce late : Bool) (q : SteepSum) (e : Int) (t : List Int) (ofs : Nat) : List Word :=
  let bit (b : Bool) (n : Nat) : Nat := if b then 2 ^ n else 0
  let last := q.start + q.len
  [BitVec.ofNat 32 (2 ^ 24 + o * 2 ^ 18 + i * 2 ^ 14 + bit bce 13 + bit late 12 + bit q.partly 11 + bit q.clipped 10),
   BitVec.ofNat 32 (t.length + (e % 256).toNat * 2 ^ 16), BitVec.ofNat 32 q.no, BitVec.ofNat 32 last, BitVec.ofNat 32 (last / 2 ^ 32),
   BitVec.ofNat 32 q.samples, BitVec.ofNat 32 (snrOf t % 2 ^ 16).toNat, BitVec.ofInt 32 (delayOfTaps t ofs),
   BitVec.ofNat 32 (peakOf t)] ++ List.replicate 7 0

/-- Frame size of the engine's path (08 R361). -/
def frameSize (k : Nat) : Nat := max 2048 (2 ^ Nat.log2 (2 * k - 1))

/-- A pair's slot flag, and where its other slot lies (08 R364, R368, R378). -/
def State.pairSlot (s : State) (p : Nat) : Bool := s.maskBit PRB_PAIR_SLOT (p % 32) (p / 32)
def State.slotWord0 (s : State) (p : Nat) (slot : Bool) : Nat := s.reg PRB_RES_BASE + (2 * p + if slot then 1 else 0) * s.reg PRB_RES_STRIDE

/-- The oldest steep of a pair that is complete and not published. -/
def State.readyResult (s : State) (o i : Nat) : Option SteepSum :=
  (tabGet s.probe.pairs (16 * o + i) []).reverse.find? fun q => !q.published && q.doneAt.isSome
    && !(s.bcePath o && s.probe.frames.contains (o, i))

/-- A result is written and shown (08 R362 to R368). -/
def State.publish (s : State) (o i : Nat) : State :=
  match s.readyResult o i with
  | none => s
  | some q =>
    let p := 16 * o + i
    let bce := s.bcePath o
    let (h, s) := s.tapFractions bce q
    let e := fitExp h 255 (-128)
    let t := h.map (tapWord e)
    let bound := (2 * frameSize t.length * 600000000 / max 1 (s.fs s.probeGroup)) + 10 * cyclesPerMs
    let late := bce && decide (q.doneAt.getD 0 + bound < s.cycles)
    let q := if bce then { q with samples := q.len } else q
    let ws := recordWords o i bce late q e t (s.windowOfs o i).1
    let bank : BankId := Fin.ofNat 16 (s.reg PRB_RES_BASE_BANK)
    let slot := !s.pairSlot p
    let base := s.slotWord0 p slot
    let put (s : State) (k : Nat) (w : Word) : State := s.writeAs 18 bank (base + k) w
    let s := t.zipIdx.foldl (fun (s : State) x => put s (16 + x.2) (BitVec.ofInt 32 x.1)) s
    let s := (ws.zipIdx.filter fun x => x.2 != 2).foldl (fun (s : State) x => put s x.2 x.1) s
    let s := put s 2 (ws.getD 2 0)
    let s := s.putMaskBit PRB_PAIR_SLOT (p % 32) slot (p / 32)
    let s := s.raise 48
    let s := if late then (s.count PRB_LATE_CNT).raise 49 else s
    let l := (tabGet s.probe.pairs p []).map fun r => if r.no = q.no then { r with published := true } else r
    let note : ResultNote := { steep := q.no, start := q.start, fine := !q.partly && !late, snr := snrOf t }
    { s with probe := { s.probe with pairs := tabSet p l s.probe.pairs, notes := tabSet p note s.probe.notes } }

/-- A correlation frame enters the queue of 64, or is excluded (08 R362). -/
def State.queueFrame (s : State) (o i : Nat) : State :=
  if !s.probe.running then s
  else if s.probe.frames.length < 64 then
    ({ s with probe := { s.probe with frames := s.probe.frames ++ [(o, i)] } } : State).putFlag PRB_STATUS_BACKLOG 0 true
  else
    let p := 16 * o + i
    let l := (tabGet s.probe.pairs p []).map fun q => if q.no = (s.pout o).steepNo then { q with partly := true } else q
    (({ s with probe := { s.probe with pairs := tabSet p l s.probe.pairs } } : State).count PRB_DROP_CNT).raise 50

/-! ## Closed loop (08 R369 to R373) -/

/-- The loop enters HOLD (08 R373). -/
def State.loopHold (s : State) (o cause : Nat) : State :=
  if s.reg PRB_LOOP_STATUS_STATE o = 1 then ((s.put PRB_LOOP_STATUS_STATE o 2).put PRB_LOOP_STATUS_HOLD_CAUSE o cause).raise 53 else s

def State.loopCore (s : State) (o : Nat) : CoreId := Fin.ofNat 16 (s.reg PRB_LOOP_CFG_CORE o)

/-- Conditions that hold a running loop (08 R373). -/
def State.loopCheck (s : State) (o : Nat) : State :=
  let x := s.core (s.loopCore o)
  if s.reg PRB_LOOP_STATUS_STATE o ≠ 1 then s
  else if x.cpage ≠ (s.pout o).loopPage then s.loopHold o 1
  else if s.rgState (s.groupOf (s.loopCore o)) ≠ 1 then s.loopHold o 3
  else if s.reg UC_SL_STATUS_STATE (s.groupOf (s.loopCore o)).val = 3 then s.loopHold o 4
  else s

/-- All loops at a tick. -/
def State.loopWatch (s : State) : State := (List.range 64).foldl (fun (s : State) o => s.loopCheck o) s

/-- A write of LOOP_LIM.EN (08 R369, R373). -/
def State.loopEnable (s : State) (o : Nat) (en : Bool) : State :=
  let was := s.flag PRB_LOOP_LIM_EN o
  let s := s.putFlag PRB_LOOP_LIM_EN o en
  if en ∧ !was then
    if s.reg PRB_LOOP_CFG_NC o = 0 then s
    else
      let x := s.pout o
      let s := s.setPout o { x with loopGain := List.replicate 16 0, loopPage := (s.core (s.loopCore o)).cpage, loopSteep := none, loopAfter := 0 }
      s.put PRB_LOOP_STATUS_STATE o 1
  else if !en then ((s.put PRB_LOOP_STATUS_STATE o 0).put PRB_LOOP_STATUS_HOLD_CAUSE o 0).putFlag PRB_LOOP_STATUS_AT_LIMIT o false
  else s

/-- T_b of a band, units of 0.5 dB (08 R377). -/
def State.loopTarget (s : State) (o b : Nat) : Int := (BitVec.ofNat 8 (s.reg PRB_LOOP_TGT_T (4 * o + b / 4) / 256 ^ (b % 4))).toInt

/-- New band gains from the impulse responses, and whether one is held at a limit (08 R370); levels in 0.01 dB. -/
def State.loopGains (s : State) (o : Nat) (irs : List (List Int)) : List Int × Bool :=
  let nc := s.reg PRB_LOOP_CFG_NC o
  let act := (List.range 16).filter fun b => s.attenOf o b != 0xFF
  let dev (b : Nat) : Int := 50 * s.loopTarget o b - Config.loopLevel s.probeRate nc b irs
  let sum := (act.map dev).sum
  let n := max 1 act.length
  let step : Int := s.reg PRB_LOOP_LIM_STEP_MAX o
  let cut : Int := s.reg PRB_LOOP_LIM_CUT_MAX o
  let boost : Int := s.reg PRB_LOOP_LIM_BOOST_MAX o
  let res := (s.pout o).loopGain.zipIdx.map fun p =>
    if act.contains p.2 then
      let e := roundHalfEven (dev p.2 * n - sum) (50 * n)
      let g := p.1 + max (-step) (min step e)
      (max (-cut) (min boost g), decide (g < -cut) || decide (boost < g))
    else (p.1, false)
  (res.map fun r => r.1, res.any fun r => r.2)

/-- Coefficient words of the correction filter (08 R371): a pure delay when every gain is 0 dB. -/
def State.loopWords (s : State) (o : Nat) (g : List Int) : List Word :=
  let nc := s.reg PRB_LOOP_CFG_NC o
  if g.all fun x => x == 0 then (List.range nc).map fun i => if i = (nc - 1) / 2 then 0x7FFFFFFF else 0
  else ((Config.loopFilter s.probeRate nc g).take nc ++ List.replicate (nc - (Config.loopFilter s.probeRate nc g).length) 0).map
    fun x => BitVec.ofInt 32 (sat32 x)

/-- Stage the glides of a correction (08 R372); a full table holds the loop (R373). -/
def State.loopStage (s : State) (o : Nat) (ws : List Word) : State :=
  let c := s.loopCore o
  let k := s.reg PRB_LOOP_LIM_GLIDE_K o
  let base := s.reg PRB_LOOP_CFG_WORD o
  let (full, s) := ws.zipIdx.foldl (fun (p : Bool × State) w =>
    let s := p.2
    if p.1 || decide (1024 ≤ (s.core c).glides.length) then (true, s)
    else
      let e : Glide := { word := BitVec.ofNat 16 (base + w.2), target := w.1, k := k, log := false, withSluice := false, since := s.cycles }
      (false, (s.withSpare c).foldl (fun (s : State) t =>
        (s.setCore t { s.core t with glides := (s.core t).glides ++ [e] }).showGlides t) s)) (false, s)
  if full then s.loopHold o 2
  else
    let x := s.pout o
    let s := s.setPout o { x with loopAfter := (s.group s.probeGroup).n + 2 ^ k + 1 }
    (s.count PRB_LOOP_STATUS_UPDATES o).raise 52

/-- Taps of the newest result of a pair. -/
def State.resultTaps (s : State) (o i : Nat) : List Int :=
  let p := 16 * o + i
  let base := s.slotWord0 p (s.pairSlot p)
  (List.range (s.reg PRB_OUT_IR_K o)).map fun k => (s.bankWord (Fin.ofNat 16 (s.reg PRB_RES_BASE_BANK)) (base + 16 + k)).toInt

/-- The firmware acts on the newest result set of an output (08 R369 to R373). -/
def State.loopUpdate (s : State) (o : Nat) : State :=
  let s := s.loopCheck o
  let mics := (List.range 16).filter fun i => s.maskBit PRB_OUT_MASK_MICS i o
  let notes := mics.filterMap fun i => tabGet? (16 * o + i) s.probe.notes
  match notes with
  | [] => s
  | n0 :: _ =>
    if s.reg PRB_LOOP_STATUS_STATE o ≠ 1 ∨ !s.flag PRB_CTL_LOOP_EN ∨ notes.length ≠ mics.length
        ∨ !notes.all (fun n => n.steep == n0.steep) ∨ (s.pout o).loopSteep = some n0.steep then s
    else
      let s := s.setPout o { s.pout o with loopSteep := some n0.steep }
      let fine := notes.all fun n => n.fine && decide (128 * (s.reg PRB_LOOP_LIM_SNR_MIN o : Int) ≤ n.snr)
      if !fine ∨ n0.start ≤ (s.pout o).loopAfter ∧ (s.pout o).loopAfter ≠ 0 then s.count PRB_LOOP_STATUS_SKIPS o
      else
        let (g, lim) := s.loopGains o (mics.map fun i => s.resultTaps o i)
        let s := (s.setPout o { s.pout o with loopGain := g }).putFlag PRB_LOOP_STATUS_AT_LIMIT o lim
        s.loopStage o (s.loopWords o g)

/-! ## Commands -/

/-- A write of EN = 1 (08 R349). -/
def State.probeEnable (s : State) : State :=
  if s.flag PRB_CTL_EN then s
  else
    let s := s.putFlag PRB_CTL_EN 0 true
    if s.probe.running then s else s.probeSchedule

/-- A write of EN = 0 (08 R352): a probe that has not started does not start. -/
def State.probeStop (s : State) : State :=
  if !s.flag PRB_CTL_EN then s
  else
    let s := s.putFlag PRB_CTL_EN 0 false
    if s.probe.running then
      if s.probe.stopAt.isSome then s
      else
        let (nr, s) := s.regTick s.probeGroup
        { s with probe := { s.probe with stopAt := some (nextMultiple 16 (nr + 17)) } }
    else { s with probe := { s.probe with sp := none } }

/-- PROBE_ENABLE (08 R349). -/
def execProbeEnable (s : State) : Out := .next s.probeEnable

/-- PROBE_START (08 R349): at tick s_p. -/
def execProbeStart (s : State) : Out := .next s.probeStart

/-- PROBE_STOP (08 R352). -/
def execProbeStop (s : State) : Out := .next s.probeStop

/-- WEIR_BLOCK (08 R346). -/
def execWeirBlock (s : State) : Out := .next s.weirBlock

/-- STEEP_END (08 R357): the steep's last sample has been sent. -/
def execSteepEnd (o : Fin 64) (s : State) : Out :=
  .next (match s.probe.last with
    | some m => if s.probe.running then s.steepRoll o.val (m + 1) else s
    | none => s)

/-- BCE_FRAME_QUEUE (08 R362). -/
def execBceFrameQueue (o : Fin 64) (mic : Fin 16) (s : State) : Out := .next (s.queueFrame o.val mic.val)

/-- RESULT_PUBLISH (08 R368). -/
def execResultPublish (o : Fin 64) (mic : Fin 16) (s : State) : Out := .next (s.publish o.val mic.val)

/-- LOOP_UPDATE (08 R370). -/
def execLoopUpdate (o : Fin 64) (s : State) : Out := .next (s.loopUpdate o.val)

/-- LOOP_ENABLE (08 R373). -/
def execLoopEnable (o : Fin 64) (en : Bool) (s : State) : Out := .next (s.loopEnable o.val en)

/-- PROBE_PARITY_ERROR (18 R735): the probe stops, EV55. -/
def execProbeParityError (s : State) : Out := .next ((s.probeIdle.putFlag PRB_CTL_EN 0 false).raise 55)

/-- PROBE_SLICE_COMPLETE (07 R333): in the slack of the engine; the last slice of a frame takes it off the queue (08 R362). -/
def execProbeSliceComplete (frameDone : Bool) (s : State) : Out :=
  .next (if s.bce.running.isNone ∧ s.bce.ready.isEmpty ∧ frameDone then
      let fs := s.probe.frames.drop 1
      ({ s with probe := { s.probe with frames := fs } } : State).putFlag PRB_STATUS_BACKLOG 0 (!fs.isEmpty)
    else s)

end Sys2Proof.Machine
end

