-- ==== Sys2Proof/Machine/Domains.lean ====
section
/-!
DEFINITION. Power domains: which registers lie in a domain, the votes, the reset of a domain that returns to power
(17 R717 to R720; 19 R764).
-/

namespace Sys2Proof.Machine

open Sys2Proof

/-! ## Registers by domain and reset class -/

/-- The power domain of a register address (17 R717; the blocks that R717 does not name, by what they serve: log entry 39). -/
def domainOf (addr : Nat) : Nat :=
  match addr / 0x10000 with
  | 0x01 => 11
  | 0x02 => if addr < 0x028000 then 7 else 8
  | 0x04 => 11
  | 0x05 => 9
  | 0x06 => 11
  | 0x07 => 10
  | 0x08 => 11
  | 0x09 => 6
  | 0x0A => 5
  | 0x0B => 4
  | 0x0C => 3
  | 0x0D => if 0x0D0100 ≤ addr ∧ addr < 0x0D0200 then 6 else 0
  | 0x12 => 2
  | 0x13 => 1
  | _ => 0

/-- The field whose element has a place in the register file. -/
def fieldOfKey (k : Nat) : Option Field := fieldTable.find? fun f => f.lo == k % 32 && (f.indexAt (k / 32)).isSome

/-- Every field element that `drop` names, by field and address, returns to its reset value. -/
def State.resetFields (s : State) (drop : Field → Nat → Bool) : State :=
  { s with regs := s.regs.filter fun (p : Nat × Nat) => match fieldOfKey p.1 with
      | some f => !drop f (p.1 / 32)
      | none => true }

/-- Every RWS field returns to its P-class reset value (14 R592). -/
def State.resetRws (s : State) : State := s.resetFields fun f _ => f.acc == .rws

/-- What a D-class reset of one domain does to its fields: RWS fields come from the shadow (17 R719). -/
def State.resetDomainFields (s : State) (d : Nat) : State :=
  s.resetFields fun f a => domainOf a == d && f.acc != .rws && (f.by_ == .phd || f.by_ == .phwd) && f.addr != LDR_RESTORE_VALID.addr
    && f.addr != SE_QUAR.addr && !(f.addr == SE_STATUS_BIST_FAIL.addr && f.lo == SE_STATUS_BIST_FAIL.lo)

/-! ## Blocks -/

/-- A core with empty memories, no sample and nothing staged. -/
def Core.blank (x : Core) : Core := { ({} : Core) with ppage := x.ppage, cpage := x.cpage }

/-- The cores of a domain lose their memories (17 R719; 19 R764). One that failed its self-test, or is quarantined, stays so
(02 R95, R107). -/
def State.coresLost (s : State) (l : List CoreId) : State :=
  l.foldl (fun (s : State) c =>
    let s := s.setCore c {}
    if s.maskBit SE_STATUS_BIST_FAIL c.val then s.put SC_STATUS_STATE c.val 6
    else if s.maskBit SE_QUAR c.val then s.put SC_STATUS_STATE c.val 5
    else s) s

/-- The network block starts from nothing. -/
def State.netLost (s : State) : State :=
  { s with lanes := Vector.replicate 2 {}, rxs := [], txs := [], netOut := [], cc := { floors := s.cc.floors } }

/-- The links start from nothing. -/
def State.linksLost (s : State) : State :=
  { s with links := Vector.replicate 4 {}, linkBegun := false, bcSeen := [], bcSeq := 0, wakeSent := none, wakeNamed := false, unwrapAt := none,
           tunMsgs := [] }

/-- Ports and media PLLs start from nothing. -/
def State.audioLost (s : State) : State := { s with ports := Vector.replicate 16 {}, plls := Vector.replicate 2 {} }

/-- What a D-class reset of a domain does beside its fields. -/
def State.blockLost (s : State) (d : Nat) : State :=
  match d with
  | 4 => ({ s.netLost with sps := s.sps } : State).serdesStart 1
  | 5 => s.linksLost.serdesStart 0
  | 6 => s.audioLost
  | 7 => s.coresLost ((List.finRange 16).filter fun c => decide (c.val < 8))
  | 8 => s.coresLost ((List.finRange 16).filter fun c => decide (8 ≤ c.val))
  | 9 => { s with bce := {} }
  | 10 => { s with probe := {} }
  | _ => s

/-! ## Votes (17 R717, R718) -/

/-- A member or a spare of group `g` lies among the cores of a domain. -/
def State.groupUses (s : State) (g : GroupId) (lo hi : Nat) : Bool :=
  (List.finRange 16).any fun c => decide (lo ≤ c.val ∧ c.val < hi) && (s.maskBit SE_RG_STATUS_ACTIVE c.val g.val
    || (s.reg SC_CFG_ROLE c.val == 2 && s.maskBit SE_RG_STATUS_ACTIVE (s.reg SC_CFG_PRIMARY c.val) g.val))

/-- Some port or MCLK is enabled. -/
def State.audioBusy (s : State) : Bool :=
  (List.range 16).any (fun p => s.flag SAP_CTL_EN p) || (List.range 4).any fun k => s.flag SAP_MCLK_EN k

def bitIf (b : Bool) (k : Nat) : Nat := if b then 2 ^ k else 0

/-- The domain votes of a client as PWR_VOTE shows them (17 R717, R718). -/
def State.vote (s : State) (i : Nat) : Nat :=
  match i with
  | 0 => s.reg PWR_VOTE_DOMAINS 0
  | 1 => 2 ^ 2 + 2 ^ 3 + 2 ^ 11
  | 6 => bitIf (s.flag BCE_CTL_EN) 9
  | 7 => bitIf (s.flag PRB_CTL_EN) 10
  | 8 => bitIf ((List.range 2).any fun l => s.flag NET_LANE_CTL_EN l) 4
  | 9 => bitIf ((List.range 4).any fun p => s.flag RLK_CTL_EN p) 5
  | 10 => bitIf s.audioBusy 6
  | 11 => 2
  | _ =>
    match toFin? 4 (i - 2) with
    | some g => if i < 2 then 0 else bitIf (s.reg SE_RG_CFG_RATE g.val != 0) 6 + bitIf (s.groupUses g 0 8) 7 + bitIf (s.groupUses g 8 16) 8
    | none => 0

/-- A domain is on. -/
def State.domainOn (s : State) (d : Nat) : Bool := s.maskBit PWR_STATUS_DOMAINS d

/-- A demand vote for a domain stands: its last access was at most HOLD ms ago (17 R720). -/
def State.demanded (s : State) (d : Nat) : Bool := (tabGet? d s.power.demand).isSome

/-- Some client votes for a domain (17 R717). -/
def State.voted (s : State) (d : Nat) : Bool := d == 0 || s.demanded d || (List.range 12).any fun i => (s.vote i).testBit d

/-- A domain returns to power (17 R717, R719). -/
def State.domainUp (s : State) (d : Nat) : State :=
  if s.domainOn d then s else ((s.resetDomainFields d).blockLost d).putMaskBit PWR_STATUS_DOMAINS d true

/-- An access to a domain that is off wakes it by a demand vote, which counts from the last access (17 R720). -/
def State.demandUp (s : State) (d : Nat) : State :=
  if s.domainOn d && !s.demanded d then s
  else
    let s := s.domainUp d
    { s with power := { s.power with demand := tabSet d s.cycles s.power.demand } }

/-- The last vote is withdrawn: the domain turns off (17 R717). -/
def State.domainDown (s : State) (d : Nat) : State :=
  if s.domainOn d && !s.voted d then s.putMaskBit PWR_STATUS_DOMAINS d false else s

end Sys2Proof.Machine
end

