-- ==== Sys2Proof/Machine/Mailbox.lean ====
section
/-!
DEFINITION. The mailbox queue, its sources and replies, the control-channel message format with its floors, and the management
tunnel (16 R674 to R681; 12 R547 to R550).
-/

namespace Sys2Proof.Machine

open Sys2Proof

/-! ## Byte strings -/

/-- A big-endian number. -/
def beNat (l : List Byte) : Nat := l.foldl (fun n b => n * 256 + b.toNat) 0

/-- A number as `n` bytes, most significant first. -/
def beBytes (n v : Nat) : List Byte := (List.range n).map fun k => BitVec.ofNat 8 (v / 256 ^ (n - 1 - k))

/-- A little-endian number. -/
def leNat (l : List Byte) : Nat := l.foldr (fun b n => n * 256 + b.toNat) 0

/-- Consecutive groups of `n` bytes; a short last group is dropped. -/
def groupsOf (n : Nat) (l : List Byte) : List (List Byte) := (List.range (l.length / n)).map fun k => (l.drop (n * k)).take n

/-- Words of a big-endian byte string (log entry 35). -/
def beWords (l : List Byte) : List Word := (groupsOf 4 l).map fun b => BitVec.ofNat 32 (beNat b)

/-- Words of a little-endian byte string, padded with 0 (16 R679). -/
def leWords (l : List Byte) : List Word :=
  (groupsOf 4 (l ++ List.replicate ((4 - l.length % 4) % 4) 0)).map fun b => BitVec.ofNat 32 (leNat b)

/-! ## Mailbox words (16 R676) -/

def reqCmd (w : Word) : Nat := w.toNat % 2 ^ 16
def reqLen (w : Word) : Nat := w.toNat / 2 ^ 16 % 2 ^ 12
def reqTag (w : Word) : Nat := w.toNat / 2 ^ 28

/-- Reply status codes. -/
def stOk : Nat := 0
def stBusy : Nat := 1
def stBadCmd : Nat := 2
def stBadArg : Nat := 3
def stRefused : Nat := 4
def stFlashErr : Nat := 5
def stTimeout : Nat := 6
def stProtected : Nat := 7

/-- A whole reply to a request. -/
def replyWords (req : Word) (status : Nat) (ws : List Word) : List Word :=
  BitVec.ofNat 32 (status + ws.length % 2 ^ 12 * 2 ^ 16 + reqTag req * 2 ^ 28) :: ws

/-! ## Control messages (12 R547 to R549) -/

/-- A control message as it arrives: its header fields, payload and tag, and the bytes the tag covers. -/
structure CcMsg where
  key : Fin 4
  seq : Nat
  payload : List Byte
  tag : List Byte
  covered : List Byte
  deriving DecidableEq, Repr

/-- A message in the layout of R547; none where it is not one. Bytes beyond the tag are padding. -/
def ccParse (l : List Byte) : Option CcMsg :=
  let len := beNat ((l.drop 12).take 2)
  match toFin? 4 (beNat ((l.drop 3).take 1)) with
  | none => none
  | some k =>
    if l.length < 48 + len ∨ 1024 < len ∨ beNat (l.take 2) ≠ 0x4A43 ∨ beNat ((l.drop 2).take 1) ≠ 1 then none
    else some { key := k, seq := beNat ((l.drop 4).take 8), payload := (l.drop 16).take len, tag := (l.drop (16 + len)).take 32,
                covered := l.take (16 + len) }

/-- The bytes of a message under a key. -/
def ccBytes (ver : Nat) (key : Fin 4) (secret : List Byte) (seq : Nat) (payload : List Byte) : List Byte :=
  let head := beBytes 2 0x4A43 ++ beBytes 1 ver ++ beBytes 1 key.val ++ beBytes 8 seq ++ beBytes 2 payload.length ++ [0, 0] ++ payload
  head ++ Config.hmacSha256 secret head

/-- The whole seconds of elapsed time. -/
def State.second (s : State) : Nat := s.cycles / 600000000

/-- A control message is dropped and counted; EV101 at most once a second (12 R548). -/
def State.ccFail (s : State) : State :=
  let s := s.count NET_CC_FAIL_CNT
  if s.cc.failRaised = some s.second then s
  else { s with cc := { s.cc with failRaised := some s.second } }.raise 101

/-- What becomes of a control message (12 R548, R549): dropped; its SEQ too low, with the floor; or accepted. -/
inductive CcOutcome where
  | dropped
  | low (key : Fin 4) (seq floor : Nat)
  | accepted (key : Fin 4) (seq : Nat) (words : List Word)
  deriving DecidableEq, Repr

/-- Check a control message: the rate, the key, the tag and the floor, in that order; an accepted SEQ becomes the floor
(12 R548, R550; 15 R654). -/
def State.ccCheck (s : State) (l : List Byte) : CcOutcome × State :=
  let now := s.second
  let n := if s.cc.second = now then s.cc.count else 0
  if 1000 ≤ n then (.dropped, s.ccFail)
  else
    let s := { s with cc := { s.cc with second := now, count := n + 1 } }
    match ccParse l with
    | none => (.dropped, s.ccFail)
    | some m =>
      match s.sec.ccKeys[m.key] with
      | none => (.dropped, s.ccFail)
      | some secret =>
        if s.flag SEC_STATUS_KEYS_LOCKED ∨ Config.hmacSha256 secret m.covered ≠ m.tag then (.dropped, s.ccFail)
        else if m.seq ≤ s.cc.floors[m.key] then (.low m.key m.seq s.cc.floors[m.key], s.ccFail)
        else
          let cc := { s.cc with floors := s.cc.floors.set m.key m.seq, accepted := s.cc.accepted + 1 }
          (.accepted m.key m.seq (beWords m.payload), { s with cc := cc }.count NET_CC_OK_CNT)

/-- A reply in the layout of R547 under the key of a slot; nothing where the slot has lost its key. -/
def State.ccReply (s : State) (ver : Nat) (key : Fin 4) (seq : Nat) (payload : List Byte) : List Byte :=
  match s.sec.ccKeys[key] with
  | some secret => ccBytes ver key secret seq payload
  | none => []

/-- Words as a big-endian payload (log entry 35). -/
def bePayload (ws : List Word) : List Byte := ws.flatMap fun w => beBytes 4 w.toNat

/-- A lane sends. -/
def State.laneSend (s : State) (o : NetOut) : State := { s with netOut := (o :: s.netOut).take 64 }

/-! ## Tunnel sending (16 R679 to R681; 11 R503) -/

/-- Header words of a tunnel message (16 R679). -/
def tunHeader (dst src hops seq : Nat) (ack reply : Bool) : List Word :=
  [BitVec.ofNat 32 (dst % 4096 + src % 4096 * 2 ^ 12 + hops % 256 * 2 ^ 24),
   BitVec.ofNat 32 (seq % 65536 + (if ack then 2 ^ 16 else 0) + (if reply then 2 ^ 17 else 0))]

/-- A message cut into chunks of at most 40 words (11 R503). -/
def chunks (l : List Word) : List TunChunk :=
  let n := (l.length + 39) / 40
  (List.range n).map fun k => { words := (l.drop (40 * k)).take 40, start := k == 0, last := k + 1 == n }

/-- A message leaves on every UP port but one. -/
def State.tunOut (s : State) (except : Option LinkId) (l : List Word) : State :=
  ((List.finRange 4).filter fun p => some p != except && s.linkState p == 3).foldl (fun (s : State) p =>
    s.setLink p { s.link p with tunTx := (s.link p).tunTx ++ chunks l }) s

/-- A pair of source and SEQ has been handled; ACK messages have pairs of their own (log entry 36). -/
def State.tunHandled (s : State) (src key : Nat) : State :=
  { s with tunnel := { s.tunnel with seen := ((src, key) :: s.tunnel.seen).take 64 } }

/-- A message of this device's own, which waits for its ACK. -/
def State.tunSend (s : State) (dst hops : Nat) (reply command : Bool) (body : List Word) : State :=
  let own := s.reg RLK_GLB_CFG_DEV_ID
  let q := s.tunnel.seq
  let l := tunHeader dst own hops q false reply ++ body
  let m : TunSent := { dst := dst, seq := q, words := l, tries := 0, since := s.cycles, command := command }
  let s := { s with tunnel := { s.tunnel with seq := (q + 1) % 65536, sent := s.tunnel.sent ++ [m] } }
  (s.tunHandled own q).tunOut none l

/-! ## The queue (16 R674, R675) -/

/-- Entries that did not come from the host. -/
def Mailbox.remote (m : Mailbox) : Nat := (m.queue.filter fun e => e.src != .host).length

/-- The front entry runs: the host sees RUNNING for its own (16 R675). -/
def State.mbxStart (s : State) : State :=
  match s.mbx.queue.head? with
  | some e => if e.src = .host then s.put MBX_STATUS_STATE 0 2 else s
  | none => s

/-- An entry joins the queue. -/
def State.mbxPush (s : State) (e : MbxEntry) : State :=
  { s with mbx := { s.mbx with queue := s.mbx.queue ++ [e] } }.mbxStart

/-- Put reply words into MBX_RSP. -/
def State.putRsp (s : State) (ws : List Word) : State :=
  ((List.range ws.length).filter fun k => decide (k < 256)).foldl (fun (s : State) k =>
    s.put MBX_RSP_WORD k (ws.getD k 0).toNat) s

/-- A reply goes to its source (12 R549; 16 R675, R680). -/
def State.mbxReply (s : State) (src : MbxSource) (ws : List Word) : State :=
  match src with
  | .host => ((s.putRsp ws).put MBX_STATUS_STATE 0 3).raise 123
  | .control lane ip port key seq => s.laneSend (.udp lane ip port (s.ccReply 1 (Fin.ofNat 4 key) seq (bePayload ws)))
  | .tunnel id key seq => s.tunSend id 255 true false (leWords (s.ccReply 1 (Fin.ofNat 4 key) seq (bePayload ws)))

/-- A command from the control channel or the tunnel joins the queue, or is answered BUSY (16 R674). -/
def State.mbxRemote (s : State) (e : MbxEntry) : State :=
  if s.mbx.remote < 15 then s.mbxPush e else s.mbxReply e.src (replyWords (e.words.headD 0) stBusy [])

/-- The front command's reply is sent, and the next command starts (16 R674, R675). -/
def State.mbxFinish (s : State) (status : Nat) (ws : List Word) : State :=
  match s.mbx.queue with
  | [] => s
  | e :: rest =>
    let s := { s with mbx := { s.mbx with queue := rest, reply := none } }
    (s.mbxReply e.src (replyWords (e.words.headD 0) status ws)).mbxStart

/-- The front command's work is done; its reply waits for completion. -/
def State.mbxDone (s : State) (status : Nat) (ws : List Word) : State := { s with mbx := { s.mbx with reply := some (status, ws) } }

/-- A write of MBX_CTL.GO (16 R675). -/
def State.mailboxGo (s : State) : State :=
  let st := s.reg MBX_STATUS_STATE
  if st = 1 ∨ st = 2 then s.putFlag MBX_STATUS_OVR 0 true
  else
    let w0 : Word := BitVec.ofNat 32 (s.reg MBX_REQ_WORD 0)
    let ws := (List.range (min 255 (reqLen w0))).map fun k => BitVec.ofNat 32 (s.reg MBX_REQ_WORD (k + 1))
    (s.put MBX_STATUS_STATE 0 1).mbxPush { src := .host, words := w0 :: ws }

/-! ## Tunnel receipt (16 R680, R681) -/

/-- A held reply for TUNNEL_RECV; a ninth is dropped. -/
def State.holdReply (s : State) (ws : List Word) : State :=
  if 8 ≤ s.tunnel.replies.length then s.count MGT_LOG_STATUS_TUN_LOST
  else { s with tunnel := { s.tunnel with replies := s.tunnel.replies ++ [ws] } }

/-- An ACK ends the wait of its message; TUNNEL_SEND then replies with the sequence number (16 R677, R681). -/
def State.takeAck (s : State) (src seq : Nat) : State :=
  match s.tunnel.sent.find? fun m => m.dst == src && m.seq == seq with
  | none => s
  | some m =>
    let s := { s with tunnel := { s.tunnel with sent := s.tunnel.sent.filter fun q => !(q.dst == src && q.seq == seq) } }
    if m.command then s.mbxDone stOk [BitVec.ofNat 32 seq] else s

/-- A control message that arrived through the tunnel (12 R548; 16 R680). -/
def State.tunCommand (s : State) (src : Nat) (body : List Word) : State :=
  let (r, s) := s.ccCheck (body.flatMap wordBytes)
  match r with
  | .dropped => s
  | .low key seq floor => s.tunSend src 255 true false (leWords (s.ccReply 0x81 key seq (beBytes 8 floor)))
  | .accepted key seq ws => s.mbxRemote { src := .tunnel src key.val seq, words := ws }

/-- A whole tunnel message from a port (16 R680). -/
def State.tunTake (s : State) (p : LinkId) (l : List Word) : State :=
  let w0 := (l.getD 0 0).toNat
  let w1 := (l.getD 1 0).toNat
  let dst := w0 % 4096
  let src := w0 / 2 ^ 12 % 4096
  let hops := w0 / 2 ^ 24
  let seq := w1 % 65536
  let ack := w1.testBit 16
  let key := seq + (if ack then 65536 else 0)
  let own := s.reg RLK_GLB_CFG_DEV_ID
  if l.length < 2 ∨ s.tunnel.seen.contains (src, key) then s
  else
    let s := s.tunHandled src key
    if dst = own then
      if ack then s.takeAck src seq
      else
        let s := s.tunOut none (tunHeader src own 255 seq true false)
        if w1.testBit 17 then s.holdReply (l.drop 2) else s.tunCommand src (l.drop 2)
    else if 1 < hops then
      s.tunOut (some p) (BitVec.ofNat 32 (dst + src * 2 ^ 12 + (hops - 1) * 2 ^ 24) :: l.drop 1)
    else s

/-- The oldest message received through the tunnel is handled. -/
def State.tunnelMessage (s : State) : State :=
  match s.tunMsgs with
  | [] => s
  | (p, l) :: rest => { s with tunMsgs := rest }.tunTake p l

/-- The oldest message without an ACK is due: 20 ms have passed (16 R681). -/
def State.tunDue (s : State) : Option TunSent := s.tunnel.sent.find? fun m => decide (m.since + 20 * cyclesPerMs ≤ s.cycles)

/-- It is sent again with the same SEQ, up to 3 times; after that TUNNEL_SEND replies TIMEOUT (16 R681). -/
def State.tunTimeout (s : State) : State :=
  match s.tunDue with
  | none => s
  | some m =>
    let rest := s.tunnel.sent.filter fun q => q != m
    if m.tries < 3 then
      let s := { s with tunnel := { s.tunnel with sent := rest ++ [{ m with tries := m.tries + 1, since := s.cycles }] } }
      s.tunOut none m.words
    else
      let s := { s with tunnel := { s.tunnel with sent := rest } }
      if m.command then s.mbxDone stTimeout [] else s

/-! ## Commands -/

/-- MAILBOX_GO (16 R675). -/
def execMailboxGo (s : State) : Out := .next s.mailboxGo

/-- TUNNEL_MESSAGE (16 R680). -/
def execTunnelMessage (s : State) : Out := .next s.tunnelMessage

/-- TUNNEL_ACK_TIMEOUT (16 R681). -/
def execTunnelAckTimeout (s : State) : Out := .next s.tunTimeout

end Sys2Proof.Machine
end

