-- ==== Sys2Proof/Machine/Flash.lean ====
section
/-!
DEFINITION. The external flash: reading, programming, erasing and the protected region (15 R626 to R630; 16 R695).
-/

namespace Sys2Proof.Machine

open Sys2Proof

/-- A byte of the flash; an erased byte reads 0xFF. -/
def State.flashByte (s : State) (a : Nat) : Byte := memByte 0xFF s.flash a

/-- Bytes of the flash. -/
def State.flashBytes (s : State) (a n : Nat) : List Byte := (List.range n).map fun k => s.flashByte (a + k)

/-- Program a byte: bits only clear. -/
def State.flashPut (s : State) (a : Nat) (v : Byte) : State := { s with flash := memPut 0xFF s.flash a (s.flashByte a &&& v) }

/-- Program bytes upwards from an address. -/
def State.flashProgram (s : State) (a : Nat) : List Byte → State
  | [] => s
  | v :: t => (s.flashPut a v).flashProgram (a + 1) t

/-- Erase `n` bytes. -/
def State.flashErase (s : State) (a n : Nat) : State :=
  { s with flash := s.flash.filter fun c => !(decide (a ≤ c.1) && decide (c.1 < a + n)) }

/-- First byte of a slot: its state byte (15 R627, R630). -/
def slotBase (k : Fin 2) : Nat := if k = 0 then 0x10000 else 0x4010000

/-- Bytes of a slot, and the longest bundle (15 R627, R630). -/
def slotBytes : Nat := 64 * 1024 * 1024
def bundleMax : Nat := 67104768

/-- A byte that only SEC programs or erases (15 R628). -/
def isProtected (a : Nat) : Bool :=
  decide (a < 0x10000) || [(0 : Fin 2), 1].any fun k => decide (slotBase k ≤ a ∧ a < slotBase k + 4096)

/-- User space of the flash: addresses of 28 bits (14 R621; 15 R627). -/
def isUser (a : Nat) : Bool := decide (0x8110000 ≤ a) && decide (a < 2 ^ 28)

/-- A program or erase outside SEC that touches protected bytes is discarded (15 R628). -/
def State.protHit (s : State) : State := (s.putFlag HST_XSPI_STATUS_PROT_HIT 0 true).raise 127

/-- Flash writes wait while the brownout warning suspends them (15 R626; 16 R695; 17 R708). -/
def State.flashHeld (s : State) : Bool := s.flag HST_XSPI_STATUS_SUSPENDED

end Sys2Proof.Machine
end

