-- ==== Sys2Proof/Machine/LoaderFormat.lean ====
section
/-!
DEFINITION. The configuration bitstream as bytes: container and its checks, records and their framing, lengths, fields, objects and
permitted register writes (14 R596 to R608, codes 0x01 to 0x17).
-/

namespace Sys2Proof.Machine

open Sys2Proof

/-- A refusal: code of R608, record (none for the header and trailer), byte offset, object number. A part that the specification does
not fix is absent (log entry 38). -/
structure LdrErr where
  code : Nat
  index : Option Nat := none
  ofs : Option Nat := none
  arg : Nat := 0
  container : Bool := false
  deriving DecidableEq, Repr

/-- The header (14 R597). -/
structure BsHeader where
  scope : Nat
  group : Nat
  hflags : Nat
  length : Nat
  seq : Nat
  epoch : Nat
  version : Nat
  minpl : List Nat
  nrec : Nat
  iv : List Byte
  deriving DecidableEq, Repr

/-- A little-endian field of a byte string. -/
def leAt (l : List Byte) (ofs n : Nat) : Nat := leNat ((l.drop ofs).take n)

def readHeader (l : List Byte) : BsHeader :=
  { scope := leAt l 8 1, group := leAt l 9 1, hflags := leAt l 10 2, length := leAt l 12 4, seq := leAt l 16 8, epoch := leAt l 24 4,
    version := leAt l 28 4, minpl := (List.range 4).map fun k => leAt l (32 + k) 1, nrec := leAt l 36 4, iv := (l.drop 40).take 12 }

/-- The records of a record area, each with whether its RCRC holds; `whole` says that they end at its end (14 R601). -/
structure RecArea where
  recs : List (Rec × Bool)
  whole : Bool
  deriving DecidableEq, Repr

/-- Split a record area; `fuel` is its length. -/
def splitRecords : Nat → Nat → Nat → List Byte → RecArea
  | _, _, _, [] => { recs := [], whole := true }
  | 0, _, _, _ => { recs := [], whole := false }
  | fuel + 1, idx, ofs, l =>
    let n := leAt l 4 4
    if l.length < 12 + n ∨ n % 4 ≠ 0 then { recs := [], whole := false }
    else
      let r : Rec := { idx := idx, ofs := ofs, typ := leAt l 0 2, flags := leAt l 2 2, words := leWords ((l.drop 8).take n) }
      let ok := leAt l (8 + n) 4 == (crc32c (l.take (8 + n))).toNat
      let rest := splitRecords fuel (idx + 1) (ofs + 12 + n) (l.drop (12 + n))
      { rest with recs := (r, ok) :: rest.recs }

/-- The parts of a bitstream: header, record area, trailer. -/
def bsBody (l : List Byte) : List Byte := (l.drop 64).take (l.length - 232)
def bsTrailer (l : List Byte) : List Byte := l.drop (l.length - 168)

/-- The record area in clear: decrypted when ENCRYPTED (14 R599). -/
def bsPlain (l : List Byte) : Option (List Byte) :=
  if (readHeader l).hflags % 2 = 1 then
    Config.gcmOpen Config.imageKey (readHeader l).iv (l.take 64) (bsBody l) ((bsTrailer l).drop 8 |>.take 16)
  else some (bsBody l)

def bsRecords (l : List Byte) : Option RecArea := (bsPlain l).map fun b => splitRecords b.length 0 64 b

/-- DIGEST as stored, and as it must be (14 R598). -/
def bsDigest (l : List Byte) : List Byte := ((bsTrailer l).drop 24).take 48
def bsDigestOk (l : List Byte) : Bool := bsDigest l == Config.sha384 (l.take (l.length - 144))

/-- The silicon step admits the bitstream's MIN_STEP (14 R605, R608). -/
def stepOk (a : RecArea) : Bool :=
  match a.recs.find? fun p => p.1.typ == 1 with
  | some p => decide ((p.1.words.getD 4 0).toNat % 256 ≤ Config.siliconStep.toNat)
  | none => true

/-- The first failure of a list. -/
def firstErr (l : List (Bool × LdrErr)) : Option LdrErr := (l.find? fun p => p.1).map fun p => p.2

def cErr (code ofs : Nat) : LdrErr := { code := code, ofs := some ofs, container := true }

/-- A fuse slot is empty or revoked (15 R623). -/
def State.keyDead (s : State) (k : Nat) : Bool := (Config.keyDigest (Fin.ofNat 4 k)).all (· == 0) || s.fuseRevoke.testBit k

/-- What a check of the container may leave out: it is a boot, or the fast path of a wake (14 R608; 15 R656). -/
structure LoadMode where
  boot : Bool := false
  fast : Bool := false
  deriving DecidableEq, Repr

/-- Format checks of header and trailer, each with the byte offset of its field (14 R597, R598, R603; code FORMAT). -/
def formatParts (l : List Byte) : List (Bool × Nat) :=
  let h := readHeader l
  let tr := bsTrailer l
  let e := l.length - 168
  [(leAt l 4 2 != 1, 4), (decide (1 < h.scope), 8), (decide (3 < h.group) || (h.scope == 0 && h.group != 0), 9), (decide (1 < h.hflags), 10)]
    ++ (List.range 4).map (fun k => (decide (5 < h.minpl.getD k 0) || (h.scope == 1 && k != h.group && h.minpl.getD k 0 != 0), 32 + k))
    ++ [(h.hflags % 2 == 0 && h.iv.any (· != 0), 40), (leAt l 52 8 != 0, 52), (decide (3 < leAt tr 4 1), e + 4), (leAt tr 5 3 != 0, e + 5),
      (h.hflags % 2 == 0 && leAt tr 8 16 != 0, e + 8)]

/-- The first field that breaks the format. -/
def formatBad (l : List Byte) : Option Nat := ((formatParts l).find? fun p => p.1).map fun p => p.2

/-- Number of records (14 R597, R601). -/
def nrecBad (l : List Byte) (a : RecArea) : Bool := a.recs.length != (readHeader l).nrec

/-- Container checks 0x01 to 0x0B in their order (14 R600, R608; 15 R637, R653). `l` are the bytes at the source, as many as the
source says. -/
def State.containerErr (s : State) (l : List Byte) (mode : LoadMode) : Option LdrErr :=
  let h := readHeader l
  let tr := bsTrailer l
  let key := leAt tr 4 1
  let enc := h.hflags % 2 == 1
  let dev := Config.devFuse
  let clear := if enc then none else bsRecords l
  if l.length < 232 then some (cErr 0x01 0)
  else
    firstErr [
      (l.take 4 != [0x41, 0x4A, 0x42, 0x53], cErr 0x01 0), (tr.take 4 != [0x41, 0x4A, 0x42, 0x54], cErr 0x01 (l.length - 168)),
      (leAt l 6 2 != 0x1648, cErr 0x02 6), (clear.any fun a => !stepOk a, cErr 0x02 88),
      ((formatBad l).isSome, cErr 0x03 ((formatBad l).getD 4)),
      (h.length != l.length || decide (67108864 < h.length) || h.length % 4 != 0, cErr 0x04 12),
      (clear.any fun a => !a.whole, { code := 0x04, container := true }), (clear.any (nrecBad l), cErr 0x04 36),
      (leAt l 60 4 != (crc32c (l.take 60)).toNat, cErr 0x05 60),
      (!bsDigestOk l, cErr 0x06 (l.length - 144)),
      (!dev && !mode.fast && !s.keyDead key
        && (tabGet? key s.sec.pubkeys).any (fun pk => !Config.ecdsaVerify pk (bsDigest l) (tr.drop 72)), cErr 0x07 (l.length - 96)),
      ((dev && enc) || (!dev && (s.keyDead key || (tabGet? key s.sec.pubkeys).isNone)), cErr 0x08 (l.length - 164)),
      (!dev && decide (h.epoch < s.fuseEpoch), cErr 0x09 24),
      (!dev && mode.boot && decide (h.version < s.reg SEC_MINVER), cErr 0x0A 28),
      (enc && (bsRecords l).isNone, cErr 0x0B (l.length - 160)),
      (enc && (bsRecords l).any fun a => !stepOk a, cErr 0x02 88), (enc && (bsRecords l).any fun a => !a.whole, { code := 0x04, container := true }), (enc && (bsRecords l).any (nrecBad l), cErr 0x04 36)]

/-! ## Records (14 R602 to R605) -/

def rErr (code : Nat) (r : Rec) (ofs arg : Nat) : LdrErr := { code := code, index := some r.idx, ofs := some (r.ofs + ofs), arg := arg }

def Rec.w (r : Rec) (k : Nat) : Word := r.words.getD k 0
def Rec.wn (r : Rec) (k : Nat) : Nat := (r.w k).toNat
def Rec.chamber (r : Rec) : Bool := r.flags.testBit 1
def knownType (t : Nat) : Bool := decide (1 ≤ t) && decide (t ≤ 0x14)

/-- Words of the spectra of a filter: its job's partitions and their exponents (07 R308, R314). -/
def specWords (seg : Nat) : Nat :=
  let c (k : Nat) : Nat := seg / 256 ^ k % 256
  c 0 * 64 + c 1 * 256 + c 2 * 1024 + c 3 * 4096 + (c 0 + c 1 + c 2 + c 3 + 3) / 4

/-- SEG of the job of a BCE_FILTER record: of the job's own record in the bitstream, else of the running job. -/
def State.segOf (s : State) (recs : List Rec) (job : Nat) : Nat :=
  match recs.find? fun q => q.typ == 0xD && q.wn 0 % 128 == job with
  | some q => q.wn 2
  | none => s.reg BCE_JOB_SEG_C job

/-- RLEN gives the length of the record's layout (14 R605; code REC_LEN). -/
def State.lenOk (s : State) (recs : List Rec) (r : Rec) : Bool :=
  let n := r.words.length
  match r.typ with
  | 0x01 => n == 5
  | 0x02 => n == 2 + r.wn 1 % 128
  | 0x03 => n == 101 + 2 * (r.wn 0 / 2 ^ 16)
  | 0x04 => decide (3 ≤ n)
  | 0x05 => n % 2 == 1
  | 0x06 => n % 2 == 0
  | 0x07 => decide (3 ≤ n)
  | 0x08 => n % 5 == 1
  | 0x09 => n == 3
  | 0x0A => n == 9
  | 0x0B => n == (if r.wn 0 % 4 = 0 then 6 else 9)
  | 0x0C => n == 7
  | 0x0D => n == 5
  | 0x0E => n == 6 + specWords (s.segOf recs (r.wn 1 / 2 % 128))
  | 0x0F => n == 12 + 6 * (r.wn 11 % 128) + 2 * (r.wn 11 / 2 ^ 16 % 32)
  | 0x10 => n % 3 == 0
  | 0x11 => n == 3
  | 0x12 => n == 32
  | 0x13 => n % 3 == 0
  | 0x14 => true
  | _ => true

/-- A word has only bits of a mask. -/
def within (w : Word) (mask : Nat) : Bool := w.toNat &&& (2 ^ 32 - 1 - mask) == 0

/-- Images of consecutive registers from a word of the record. -/
def imagesOk (r : Rec) (k addr n : Nat) : List (Bool × Nat) :=
  (List.range n).map fun j => (imageOk (addr + 4 * j) (r.w (k + j)), k + j)

/-- An endpoint of R394: a known type, and no reserved bit. -/
def endpointOk (w : Word) : Bool :=
  match epType w with
  | 0 => w == 0
  | 1 => w.toNat % 2 ^ 28 / 2 ^ 10 == 0
  | 2 => w.toNat % 2 ^ 28 / 2 ^ 14 == 0
  | 3 => w.toNat % 2 ^ 28 / 2 ^ 13 == 0
  | 4 => w.toNat % 2 ^ 28 / 2 ^ 13 == 0
  | 5 => w.toNat % 2 ^ 28 / 2 ^ 13 == 0
  | _ => false

/-- The words of a channel descriptor (09 R383, R388). -/
def descOk (egress : Bool) (c : Nat) (w0 w1 w2 w3 : Word) : Bool :=
  let len := w1.toNat
  let base := w0.toNat % 2 ^ 20
  let valid := w0.getLsbD 26
  within w0 0x7FFFFFFF && within w1 0xFFFFF && within w2 0xFFFFF && within w3 0x3FFFFFFF
    && base % 64 == 0 && len % 64 == 0 && w2.toNat % 4 == 0
    && (!valid || (decide (64 ≤ len) && decide (base + len ≤ 786432)))
    && (!egress || (within w0 0x37FFFFFF && w2 == 0 && w3 == 0))
    && (!w3.getLsbD 29 || c % 2 == 0)

/-- The words of a route entry (09 R398). -/
def routeOk (w0 w1 w2 w3 : Word) : Bool :=
  within w0 0x0FFFFFFF && endpointOk w1 && endpointOk w2 && within w3 0x7F

/-- Every checked part of a record's payload: whether it holds, and at which word (14 R603, R605). -/
def fieldParts (r : Rec) : List (Bool × Nat) :=
  let n := r.words.length
  match r.typ with
  | 0x01 => [(imageOk 0x040048 (r.w 0), 0), (imageOk 0x04004C (r.w 1) && r.wn 1 % 4 == 0, 1),
      (within (r.w 2) 0x77777777, 2), (within (r.w 3) 0x77777777, 3), (within (r.w 4) 0xFF, 4)]
  | 0x02 => [(within (r.w 0) 0xFFFF0F1F && r.wn 0 / 8 % 4 != 3 && decide (1 ≤ r.wn 0 / 256 % 16 ∧ r.wn 0 / 256 % 16 ≤ 8), 0),
      (decide (r.wn 1 ≤ 64), 1)] ++ imagesOk r 2 0x011000 (n - 2)
  | 0x03 => [(within (r.w 0) 0xFFFF000F && decide (1 ≤ r.wn 0 / 2 ^ 16 ∧ r.wn 0 / 2 ^ 16 ≤ 32768), 0)]
      ++ (List.range 16).flatMap fun j => imagesOk r (1 + 6 * j) 0x014000 6
  | 0x04 => [(within (r.w 0) 0xFFFF, 0), (within (r.w 1) 0xFFFF && decide (r.wn 1 + (n - 2) ≤ 65536), 1)]
  | 0x05 => [(within (r.w 0) 0xFFFF, 0)]
  | 0x06 => (List.range (n / 2)).flatMap fun i => [(within (r.w (2 * i)) 0x1F, 2 * i), (imageOk 0x060100 (r.w (2 * i + 1)), 2 * i + 1)]
  | 0x07 => [(within (r.w 0) 0xF, 0), (within (r.w 1) 0xFFFFF && decide (r.wn 1 + (n - 2) ≤ 786432), 1)]
  | 0x08 => (decide (r.wn 0 ≤ 2), 0) :: (List.range (n / 5)).flatMap fun i =>
      let k := 1 + 5 * i
      if r.wn 0 = 2 then [(decide (r.wn k < 16384), k), (routeOk (r.w (k + 1)) (r.w (k + 2)) (r.w (k + 3)) (r.w (k + 4)), k + 1)]
      else [(decide (r.wn k < 8192), k), (descOk (r.wn 0 == 1) (r.wn k) (r.w (k + 1)) (r.w (k + 2)) (r.w (k + 3)) (r.w (k + 4)), k + 1)]
  | 0x09 => (within (r.w 0) 0xF, 0) :: imagesOk r 1 0x090000 2
  | 0x0A => (imageOk 0x0A1000 (r.w 0), 0) :: (List.range 4).flatMap fun p => imagesOk r (1 + 2 * p) 0x0A0000 2
      ++ [(decide (RLK_TXEQ_PRE.bits (r.w (2 + 2 * p)) + RLK_TXEQ_POST.bits (r.w (2 + 2 * p)) ≤ 20), 2 + 2 * p)]
  | 0x0B => (within (r.w 0) 0x1FF && r.wn 0 % 4 != 3 && (r.wn 0 % 4 != 0 || decide (r.wn 0 / 4 ≤ 1)), 0) ::
      (if r.wn 0 % 4 = 0 then imagesOk r 1 0x0B0000 5 else imagesOk r 1 0x0B1000 8)
  | 0x0C => [(imageOk 0x0C0000 (r.w 0), 0), (imageOk 0x0D0004 (r.w 1), 1), (within (r.w 2) 1, 2)]
      ++ imagesOk r 3 0x0D0100 2 ++ imagesOk r 5 0x0D0140 2
  | 0x0D => (within (r.w 0) 0x7F, 0) :: imagesOk r 1 0x051000 4
  | 0x0E => (within (r.w 0) 0x7F, 0) :: imagesOk r 1 0x052000 5
  | 0x0F => [(within (r.w 0) 3, 0), (r.wn 1 % 4 == 0, 1), (r.wn 2 % 64 == 0, 2)] ++ imagesOk r 1 0x070010 2 ++ (List.range 4).flatMap (fun g => imagesOk r (3 + 2 * g) 0x070100 2)
      ++ [(within (r.w 11) 0x1F007F && decide (r.wn 11 % 128 ≤ 64) && decide (r.wn 11 / 2 ^ 16 ≤ 16), 11)]
      ++ (List.range (r.wn 11 % 128)).flatMap (fun i => (within (r.w (12 + 6 * i)) 0x3F, 12 + 6 * i) :: (imagesOk r (13 + 6 * i) 0x071000 4
        ++ [(imageOk 0x071024 (r.w (17 + 6 * i)), 17 + 6 * i)]))
      ++ (List.range (r.wn 11 / 2 ^ 16 % 32)).flatMap fun i =>
        let k := 12 + 6 * (r.wn 11 % 128) + 2 * i
        [(within (r.w k) 0xF, k), (imageOk 0x072000 (r.w (k + 1)), k + 1)]
  | 0x10 => (List.range (n / 3)).flatMap fun i => (within (r.w (3 * i)) 0xFF, 3 * i) :: imagesOk r (3 * i + 1) 0x081000 2
  | 0x11 => [(within (r.w 0) 0xFFFFF && decide (r.wn 0 / 2 ^ 16 % 8 ≤ 5), 0), (within (r.w 1) 7, 1), (within (r.w 2) 0x7F, 2)]
  | 0x12 => (List.range 32).map fun k => (within (r.w k) 0x1F1F1F1F, k)
  | 0x13 => (List.range (n / 3)).flatMap fun i =>
      [(decide (r.wn (3 * i) % 4 = 0 ∧ r.wn (3 * i) < 0x400000), 3 * i),
       (r.w (3 * i + 2) &&& ~~~ r.w (3 * i + 1) == 0
         && (fieldsAt (r.wn (3 * i))).all (fun p => p.1.bits (r.w (3 * i + 1)) == 0 || p.1.legal (p.1.bits (r.w (3 * i + 2)))), 3 * i + 2)]
  | 0x14 => (List.range n).map fun k => (within (r.w k) 0xFF, k)
  | _ => []

/-- The objects a record defines, by class and number (14 R604). -/
def objects (r : Rec) : List (Nat × Nat) :=
  let n := r.words.length
  match r.typ with
  | 0x02 => [(2, r.wn 0 % 4)]
  | 0x03 => [(3, r.wn 0 % 16)]
  | 0x06 => (List.range (n / 2)).map fun i => (6, r.wn (2 * i) % 16)
  | 0x08 => (List.range (n / 5)).map fun i => (0x20 + r.wn 0, r.wn (1 + 5 * i))
  | 0x09 => [(9, r.wn 0 % 16)]
  | 0x0B => [(0x30 + r.wn 0 % 4, r.wn 0 / 4)]
  | 0x0D => [(0xD, r.wn 0)]
  | 0x0E => [(0xE, r.wn 0)]
  | 0x0F => (0xF, 0) :: (List.range (r.wn 11 % 128)).map (fun i => (0x40, r.wn (12 + 6 * i)))
      ++ (List.range (r.wn 11 / 2 ^ 16 % 32)).map fun i => (0x41, r.wn (12 + 6 * (r.wn 11 % 128) + 2 * i))
  | 0x10 => (List.range (n / 3)).map fun i => (0x10, r.wn (3 * i))
  | 0x14 => (List.range n).map fun i => (0x14, r.wn i)
  | 0x01 => [(1, 0)]
  | 0x0A => [(0xA, 0)]
  | 0x0C => [(0xC, 0)]
  | 0x11 => [(0x11, 0)]
  | 0x12 => [(0x12, 0)]
  | _ => []

/-! ## REG_WRITE (14 R607) -/

/-- Fields that a REG_WRITE may set, and whether a partial load may. -/
def regWritable : List (Field × Bool) :=
  [(SE_RG_CTL_LATE_LIMIT, true), (SE_RG_CTL_SAFE_RAMP, true), (SE_RG_SAFE_GAIN, true), (STR_HG_CFG_RAMP, true)] ++
  ([UC_CTL_SYNC_MODE, UC_CTL_JNL_EN, MEM_SCRUB_RUN_EN, MEM_SCRUB_SLEEP_EN, MEM_SCRUB_PERIOD, BCE_CTL_WARN, PRB_WEIR_MARGIN, PRB_WEIR_KA,
    PRB_WEIR_KR, PRB_WEIR_FLOOR, PRB_WEIR_FLOOR_EN, PRB_STEEP_SECONDS, PRB_OUT_ATTEN_A, PRB_LOOP_TGT_T, PRB_MIC_OFS, PRB_LOOP_LIM_STEP_MAX,
    PRB_LOOP_LIM_BOOST_MAX, PRB_LOOP_LIM_CUT_MAX, PRB_LOOP_LIM_SNR_MIN, PRB_LOOP_LIM_GLIDE_K].map fun f => (f, false)) ++
  ([TIM_SERVO_KP, TIM_SERVO_KI, TIM_LIM_FLIM, TIM_LIM_SLIM, TIM_HOLD_TMAX, TIM_GM_CLASS, TIM_PPS_IN_EN, TIM_PPS_WIDTH, CLK_REJOIN_MODE,
    CLK_REJOIN_STEP_THR, CLK_REJOIN_JUMP_THR, CLK_MPLL_LIM_FLIM, CLK_MPLL_LIM_SLIM, RLK_CTL_DOWN_ON_LASTING, RLK_ASYM, RLK_EYE_WARN_H,
    RLK_EYE_WARN_V, RLK_LASTING_LIM, SAP_MCLK_SRC, SAP_MCLK_M].map fun f => (f, false))

/-- The instances of a group's own fields: the group, or headgates of its routes (`hgs`). -/
def ownInstance (g : GroupId) (hgs : List Nat) (f : Field) (i : Nat) : Bool :=
  if f.addr = STR_HG_CFG_RAMP.addr then hgs.contains i else i == g.val

/-- Every bit a REG_WRITE entry writes belongs to a permitted field. -/
def regWriteOk (part : Option GroupId) (hgs : List Nat) (addr : Nat) (mask : Word) : Bool :=
  let ok := regWritable.filterMap fun p => match p.1.indexAt addr with
    | some i => if (match part with
        | none => true
        | some g => p.2 && ownInstance g hgs p.1 i) then some ((2 ^ p.1.width - 1) * 2 ^ p.1.lo) else none
    | none => none
  within mask ok.sum

end Sys2Proof.Machine
end

