-- ==== Sys2Proof/Machine/Net.lean ====
section
/-!
DEFINITION. The network: receive and transmit streams, lanes and their addresses, group membership, and the control channel
(12 R533 to R557).
-/

namespace Sys2Proof.Machine

open Sys2Proof

/-! ## Stream shapes (12 R536, R557) -/

/-- Samples per packet of an SPP code at a rate. -/
def sppOf (code fs : Nat) : Nat := (match code with
  | 0 => 6
  | 1 => 12
  | _ => 48) * (if fs = 96000 then 2 else 1)

def State.rxGroup (s : State) (k : Nat) : GroupId := Fin.ofNat 4 (s.reg NET_RX_CFG_GROUP k)
def State.txGroup (s : State) (k : Nat) : GroupId := Fin.ofNat 4 (s.reg NET_TX_CFG_GROUP k)
def State.rxSpp (s : State) (k : Nat) : Nat := sppOf (s.reg NET_RX_CFG_SPP k) (s.fs (s.rxGroup k))
def State.txSpp (s : State) (k : Nat) : Nat := sppOf (s.reg NET_TX_CFG_SPP k) (s.fs (s.txGroup k))

/-- Bytes of a payload sample: L16 or L24. -/
def encBytes (enc : Nat) : Nat := if enc = 0 then 2 else 3

/-! ## RTP (12 R536, R544) -/

/-- The parts of an RTP packet that are used. -/
structure Rtp where
  pt : Nat
  seq : Nat
  ts : Nat
  ssrc : Nat
  payload : List Byte
  deriving DecidableEq, Repr

/-- An RTP packet of version 2; CSRC lists, header extensions and padding are skipped (12 R536). -/
def rtpParse (l : List Byte) : Option Rtp :=
  let b0 := beNat (l.take 1)
  let b1 := beNat ((l.drop 1).take 1)
  let at1 := 12 + 4 * (b0 % 16)
  let at2 := if b0.testBit 4 then at1 + 4 + 4 * beNat ((l.drop (at1 + 2)).take 2) else at1
  let pad := if b0.testBit 5 then beNat (l.drop (l.length - 1)) else 0
  if l.length < 12 ∨ b0 / 64 ≠ 2 ∨ l.length < at2 + pad then none
  else some { pt := b1 % 128, seq := beNat ((l.drop 2).take 2), ts := beNat ((l.drop 4).take 4), ssrc := beNat ((l.drop 8).take 4),
              payload := (l.drop at2).take (l.length - at2 - pad) }

/-- An RTP packet of the device's own: no CSRC, extension, padding or marker. -/
def rtpBytes (r : Rtp) : List Byte :=
  [0x80] ++ beBytes 1 r.pt ++ beBytes 2 r.seq ++ beBytes 4 r.ts ++ beBytes 4 r.ssrc ++ r.payload

/-- A payload sample as a Q1.31 word (12 R538). -/
def payloadWord (n : Nat) (b : List Byte) : Word := BitVec.ofNat 32 (beNat b * 2 ^ (32 - 8 * n))

/-! ## Receiving (12 R539 to R543) -/

/-- Destination, port and source of a stream's path. -/
def State.rxDst (s : State) (k : Nat) (lane : Fin 2) : Nat := if lane = 0 then s.reg NET_RX_DST_A k else s.reg NET_RX_DST_B k
def State.rxSrc (s : State) (k : Nat) (lane : Fin 2) : Nat := if lane = 0 then s.reg NET_RX_SRC_A k else s.reg NET_RX_SRC_B k
def State.rxPort (s : State) (k : Nat) (lane : Fin 2) : Nat := if lane = 0 then s.reg NET_RX_PORT_PORT_A k else s.reg NET_RX_PORT_PORT_B k

/-- The stream is on, its path is enabled, and the datagram has the path's addresses (12 R539). -/
def State.rxMatches (s : State) (k : Nat) (lane : Fin 2) (d : Datagram) : Bool :=
  s.flag NET_RX_CFG_VALID k && s.flag NET_RX_CTL_EN k && s.maskBit NET_RX_CFG_PATHS lane.val k
    && d.dst == s.rxDst k lane && d.dport == s.rxPort k lane && (s.rxSrc k lane == 0 || d.src == s.rxSrc k lane)

/-- The later tests of R539: version, payload type, SSRC and length. -/
def State.rxFits (s : State) (k : Nat) (r : Rtp) : Bool :=
  r.pt == s.reg NET_RX_CFG_PT k && (!s.flag NET_RX_CFG_SSRC_CHK k || r.ssrc == s.reg NET_RX_SSRC k)
    && r.payload.length == (s.reg NET_RX_CFG_CH k + 1) * s.rxSpp k * encBytes (s.reg NET_RX_CFG_ENC k)

def State.rx (s : State) (k : Nat) : RxStream := tabGet s.rxs k {}
def State.setRx (s : State) (k : Nat) (x : RxStream) : State := { s with rxs := tabSet k x s.rxs }
def RxStream.path (x : RxStream) (lane : Fin 2) : RxPath := if lane = 0 then x.a else x.b
def RxStream.setPath (x : RxStream) (lane : Fin 2) (p : RxPath) : RxStream := if lane = 0 then { x with a := p } else { x with b := p }

/-- STATE changes with EV97 (12 R543). -/
def State.rxState (s : State) (k st : Nat) : State :=
  if s.reg NET_RX_STATUS_STATE k = st then s else (s.put NET_RX_STATUS_STATE k st).raise 97

def State.rxShowPath (s : State) (k : Nat) (lane : Fin 2) (on : Bool) : State :=
  s.putFlag (if lane = 0 then NET_RX_STATUS_PATH_A else NET_RX_STATUS_PATH_B) k on

/-- A packet that fails a later test is counted; EV98 once in a second of the time counter (12 R539). -/
def State.rxBad (s : State) (k : Nat) : State :=
  let s := s.count NET_RX_BAD_CNT k
  if s.cc.badRaised = some s.timSec then s else { s with cc := { s.cc with badRaised := some s.timSec } }.raise 98

/-- Sequence numbers, path and stream state at an accepted packet (12 R543). A number behind the last one is no gap. -/
def State.rxSeen (s : State) (k : Nat) (lane : Fin 2) (seq : Nat) : State :=
  let x := s.rx k
  let p := x.path lane
  let ahead := match p.seq with
    | some q => (seq + 65536 - q) % 65536
    | none => 1
  let s := if 1 < ahead ∧ ahead < 32768 then s.count (if lane = 0 then NET_RX_LOSS_A_CNT else NET_RX_LOSS_B_CNT) k else s
  let s := if p.lost then s.raise 99 else s
  let p' : RxPath := { seq := if ahead = 0 ∨ 32768 ≤ ahead then p.seq else some seq, at_ := s.cycles }
  let s := s.setRx k { x.setPath lane p' with at_ := s.cycles }
  (s.rxShowPath k lane true).rxState k 2

/-- Media index of a packet's first sample (12 R540). -/
def mediaIndex (n ts ofs : Nat) : Int :=
  let lo : Int := (n : Int) - 2 ^ 31
  lo + ((ts : Int) - ofs - lo) % 2 ^ 32

/-- The samples of a packet as arrivals, channel by channel within each sample (12 R538, R540; 09 R410). -/
def State.rxArrivals (s : State) (k : Nat) (u0 : Int) (payload : List Byte) : List Arrival :=
  let nch := s.reg NET_RX_CFG_CH k + 1
  let nb := encBytes (s.reg NET_RX_CFG_ENC k)
  let fs := max 1 (s.fs (s.rxGroup k))
  (List.range (s.rxSpp k)).flatMap fun (j : Nat) => (List.range nch).flatMap fun (c : Nat) =>
    let u := (u0 + (j : Int)).toNat
    let tau := u * timPerSec / fs
    (s.inRoutes (epNet k c)).map fun r =>
      let ch := epChan r.2.snk
      { c := ch, m := s.agIndex (tabGet s.ingress ch {}).ag u tau, x := payloadWord nb ((payload.drop ((j * nch + c) * nb)).take nb), cap := tau }

/-- Key of a sample of a channel. -/
def wroteKey (r : Arrival) : Nat := r.m * 8192 + r.c

/-- Samples that the other path has written are discarded and counted; the rest are placed, and what was written is noted
(12 R541). -/
def State.rxPlace (s : State) (k : Nat) (lane : Fin 2) (l : List Arrival) : State :=
  let b := lane == 1
  let x := s.rx k
  let dup (r : Arrival) : Bool := tabGet? (wroteKey r) x.wrote == some (!b)
  let s := s.count NET_RX_DUP_CNT k (l.filter dup).length
  let fresh := l.filter fun r => !dup r
  let s := s.placeAll fresh false
  let landed := fresh.filter fun r => (tabGet? r.m (s.chanSt r.c).rx).isSome
  let x := s.rx k
  let n := (s.group (s.rxGroup k)).n
  let kept := x.wrote.filter fun p => decide (n < p.1 / 8192 + 65536)
  s.setRx k { x with wrote := landed.foldl (fun t r => if (tabGet? (wroteKey r) t).isSome then t else tabSet (wroteKey r) b t) kept }

/-- A packet for stream `k` on a path (12 R539 to R541). -/
def State.rxStream (s : State) (k : Nat) (lane : Fin 2) (d : Datagram) : State :=
  match rtpParse d.payload with
  | none => s.rxBad k
  | some r =>
    if !s.rxFits k r then s.rxBad k
    else
      let s := s.rxSeen k lane r.seq
      s.rxPlace k lane (s.rxArrivals k (mediaIndex (s.group (s.rxGroup k)).n r.ts (s.reg NET_RX_TS_OFS k)) r.payload)

/-- A datagram on a lane, for every stream it matches. -/
def State.rxPacket (s : State) (lane : Fin 2) (d : Datagram) : State :=
  if !s.flag NET_LANE_CTL_EN lane.val then s
  else ((List.range 128).filter fun k => s.rxMatches k lane d).foldl (fun (s : State) k => s.rxStream k lane d) s

/-- Four packet times have passed since a moment (12 R543). -/
def State.rxOver (s : State) (k since : Nat) : Bool :=
  decide (4 * s.rxSpp k * 600000000 ≤ (s.cycles - since) * s.fs (s.rxGroup k))

/-- Paths and stream without a packet for four packet times are lost (12 R543). -/
def State.streamLost (s : State) (k : Nat) : State :=
  let s := [(0 : Fin 2), 1].foldl (fun (s : State) lane =>
    let p := (s.rx k).path lane
    let on := if lane = 0 then s.flag NET_RX_STATUS_PATH_A k else s.flag NET_RX_STATUS_PATH_B k
    if on && s.rxOver k p.at_ then
      ((s.rxShowPath k lane false).setRx k ((s.rx k).setPath lane { p with lost := true })).raise 99
    else s) s
  if s.reg NET_RX_STATUS_STATE k = 2 ∧ s.rxOver k (s.rx k).at_ then s.rxState k 3 else s

/-! ## Group membership (12 R535) -/

/-- An IPv4 multicast address. -/
def isMulticast (ip : Nat) : Bool := ip / 2 ^ 28 == 14

/-- The groups a lane has joined for its streams that are on: group and source. -/
def State.joined (s : State) (lane : Fin 2) : List (Nat × Nat) :=
  ((List.range 128).filter fun k => s.flag NET_RX_CTL_EN k && s.maskBit NET_RX_CFG_PATHS lane.val k && isMulticast (s.rxDst k lane)).map
    fun k => (s.rxDst k lane, s.rxSrc k lane)

/-- The firmware reports a join or a leave of a stream's groups on the lanes that are on. -/
def State.igmpReport (s : State) (k : Nat) (join : Bool) : State :=
  [(0 : Fin 2), 1].foldl (fun (s : State) lane =>
    if s.flag NET_LANE_CTL_EN lane.val && s.maskBit NET_RX_CFG_PATHS lane.val k && isMulticast (s.rxDst k lane) then
      s.laneSend (.igmp lane (s.rxDst k lane) (s.rxSrc k lane) join s.lanes[lane].v2)
    else s) s

/-- A write of RX_CTL.EN (12 R535, R543). -/
def State.rxEnable (s : State) (k : Nat) (on : Bool) : State :=
  if s.flag NET_RX_CTL_EN k = on then s
  else if on then
    let s := (s.putFlag NET_RX_CTL_EN k true).setRx k {}
    if s.flag NET_RX_CFG_VALID k then (s.rxState k 1).igmpReport k true else s
  else
    let s := s.igmpReport k false
    let s := ((s.putFlag NET_RX_CTL_EN k false).rxShowPath k 0 false).rxShowPath k 1 false
    (s.setRx k {}).rxState k 0

/-! ## Transmitting (12 R544, R545) -/

def State.tx (s : State) (k : Nat) : TxStream := tabGet s.txs k {}
def State.setTx (s : State) (k : Nat) (x : TxStream) : State := { s with txs := tabSet k x s.txs }

/-- A write of TX_CTL.EN: n_r by the 200 ns rule; the first sequence number is free (12 R545). -/
def State.txEnable (s : State) (k : Nat) (on : Bool) : State :=
  if s.flag NET_TX_CTL_EN k = on then s
  else if on then
    let s := s.putFlag NET_TX_CTL_EN k true
    let (seq, s) := s.chooseNat 65536
    if (s.group (s.txGroup k)).begun then
      let (nr, s) := s.regTick (s.txGroup k)
      s.setTx k { first := some (nextMultiple (s.txSpp k) (nr + 1)), seq := seq }
    else s.setTx k { seq := seq }
  else (s.putFlag NET_TX_CTL_EN k false).setTx k {}

/-- The value of a stream's channel for sample `m`: what R399 gives on its route, 0 without one (12 R544). -/
def State.txValue (s : State) (k c m : Nat) : Word :=
  match s.routes.find? fun r => (r.2.kind == 1 || r.2.kind == 2) && r.2.snk == epNet k c with
  | some r => (s.sentOf r.1 m).getD 0
  | none => 0

/-- The payload of the packet whose first sample is `m` (12 R538, R544). -/
def State.txPayload (s : State) (k m : Nat) : List Byte :=
  let nb := encBytes (s.reg NET_TX_CFG_ENC k)
  (List.range (s.txSpp k)).flatMap fun j => (List.range (s.reg NET_TX_CFG_CH k + 1)).flatMap fun c =>
    beBytes nb (sapOut (s.flag NET_TX_CFG_ORND k) (8 * nb) (s.txValue k c (m + j)))

/-- A packet on each enabled path whose lane has a link; the others are counted as dropped (12 R545). -/
def State.txSend (s : State) (k : Nat) (bytes : List Byte) : State :=
  [(0 : Fin 2), 1].foldl (fun (s : State) lane =>
    if !s.maskBit NET_TX_CFG_PATHS lane.val k then s
    else if s.flag NET_LANE_CTL_EN lane.val && s.flag NET_LANE_STATUS_LINK lane.val then
      let dst := if lane = 0 then s.reg NET_TX_DST_A k else s.reg NET_TX_DST_B k
      let port := if lane = 0 then s.reg NET_TX_PORT_PORT_A k else s.reg NET_TX_PORT_PORT_B k
      (s.laneSend (.udp lane dst port bytes)).count NET_TX_LOSS_A_CNT k
    else s.count NET_TX_LOSS_B_CNT k) s

/-- The packet that is due after the last tick begun, if any (12 R544, R545). -/
def State.txPacket (s : State) (k : Nat) : State :=
  let g := s.txGroup k
  let n := (s.group g).n
  let spp := s.txSpp k
  let x := s.tx k
  if !s.flag NET_TX_CTL_EN k ∨ !s.flag NET_TX_CFG_VALID k ∨ !(s.group g).begun then s
  else
    match x.first with
    | none => s.setTx k { x with first := some (nextMultiple spp n) }
    | some first =>
      let m := n / spp * spp - spp
      if n / spp = 0 ∨ m < first ∨ x.last = some m then s
      else
        let r : Rtp := { pt := s.reg NET_TX_CFG_PT k, seq := x.seq, ts := (m + s.reg NET_TX_TS_OFS k) % 2 ^ 32, ssrc := s.reg NET_TX_SSRC k,
                         payload := s.txPayload k m }
        (s.setTx k { x with seq := (x.seq + 1) % 65536, last := some m }).txSend k (rtpBytes r)

/-! ## Lanes (12 R533, R534, R555) -/

/-- An address is held, or none. -/
def State.laneAddr (s : State) (lane : Fin 2) (ip : Nat) : State :=
  (s.put NET_LANE_IP_NOW_IP lane.val ip).putFlag NET_LANE_STATUS_ADDR_OK lane.val (ip != 0)

/-- A free link-local address, 169.254.1.0 to 169.254.254.255. -/
def State.linkLocal (s : State) (lane : Fin 2) : State :=
  let (k, s) := s.chooseNat (254 * 256)
  s.laneAddr lane (0xA9FE0100 + k)

/-- The lane's link has come up: static and link-local addresses are held at once (log entry 37). -/
def State.laneAcquire (s : State) (lane : Fin 2) : State :=
  if s.flag NET_LANE_STATUS_ADDR_OK lane.val then s
  else match s.reg NET_LANE_IPCFG_SRC lane.val with
    | 0 => s.laneAddr lane (s.reg NET_LANE_IP lane.val)
    | 2 => s.linkLocal lane
    | _ => s

/-- LINK changes, with EV96 (12 R555). -/
def State.laneLink (s : State) (lane : Fin 2) (up : Bool) : State :=
  let up := up && s.flag NET_LANE_CTL_EN lane.val && s.reg NET_LANE_CFG_MODE lane.val != 0
  if s.flag NET_LANE_STATUS_LINK lane.val = up then s
  else
    let s := (s.putFlag NET_LANE_STATUS_LINK lane.val up).raise 96
    if up then { s with lanes := s.lanes.set lane { s.lanes[lane] with upSince := s.cycles } }.laneAcquire lane else s

/-- A write of LANE_CTL.EN: a lane that is off has no link and no address. -/
def State.laneEnable (s : State) (lane : Fin 2) (on : Bool) : State :=
  let s := s.putFlag NET_LANE_CTL_EN lane.val on
  if on then s
  else
    let s := s.laneLink lane false
    { s.laneAddr lane 0 with lanes := s.lanes.set lane {} }

/-- Ten seconds without a lease (12 R534). -/
def State.linkLocalFallback (s : State) (lane : Fin 2) : State :=
  if s.flag NET_LANE_STATUS_LINK lane.val && s.reg NET_LANE_IPCFG_SRC lane.val == 1 && !s.flag NET_LANE_STATUS_ADDR_OK lane.val
      && decide (s.lanes[lane].upSince + 10000 * cyclesPerMs ≤ s.cycles) then s.linkLocal lane
  else s

/-- A frame that the lane's own logic or the firmware deals with (12 R533 to R535). -/
def State.laneFrame (s : State) (lane : Fin 2) (f : LaneFrame) : State :=
  let vidOk := if s.flag NET_LANE_CFG_VLAN_EN lane.val then f.vid == some (s.reg NET_LANE_CFG_VID lane.val) else true
  if !s.flag NET_LANE_CTL_EN lane.val ∨ !s.flag NET_LANE_STATUS_LINK lane.val then s
  else if !f.fcsOk then s.count NET_LANE_FCS_CNT lane.val
  else if !vidOk then s
  else
    let own := s.reg NET_LANE_IP_NOW_IP lane.val
    match f.kind with
    | .pause => s
    | .multicast group => if (s.joined lane).any fun j => j.1 == group then s else s.count NET_LANE_FILT_CNT lane.val
    | .fragment => s.count NET_LANE_FRAG_CNT lane.val
    | .arp ip asker => if own ≠ 0 ∧ ip = own then s.laneSend (.arp lane ip asker) else s
    | .icmpEcho src dst data => if own ≠ 0 ∧ dst = own then s.laneSend (.icmp lane src data) else s
    | .igmpQuery v2 =>
      let s := { s with lanes := s.lanes.set lane { s.lanes[lane] with v2 := v2 } }
      (s.joined lane).foldl (fun (s : State) j => s.laneSend (.igmp lane j.1 j.2 true v2)) s
    | .dhcpAck ip => if s.reg NET_LANE_IPCFG_SRC lane.val = 1 then s.laneAddr lane ip else s
    | .other => s

/-! ## Control channel (12 R547 to R549) -/

/-- A datagram to the control port of a lane that accepts control messages. -/
def State.controlMessage (s : State) (lane : Fin 2) (d : Datagram) : State :=
  let port := s.reg NET_CC_CFG_PORT
  if port = 0 ∨ d.dport ≠ port ∨ !s.maskBit NET_CC_CFG_LANES lane.val ∨ !s.flag NET_LANE_CTL_EN lane.val
      ∨ !s.flag NET_LANE_STATUS_ADDR_OK lane.val ∨ d.dst ≠ s.reg NET_LANE_IP_NOW_IP lane.val then s
  else
    let (r, s) := s.ccCheck d.payload
    match r with
    | .dropped => s
    | .low key seq floor => s.laneSend (.udp lane d.src d.sport (s.ccReply 0x81 key seq (beBytes 8 floor)))
    | .accepted key seq ws => s.mbxRemote { src := .control lane d.src d.sport key.val seq, words := ws }

/-! ## Commands -/

/-- RX_PACKET (12 R540). -/
def execRxPacket (lane : Fin 2) (d : Datagram) (s : State) : Out := .next (s.rxPacket lane d)

/-- TX_PACKET (12 R544). -/
def execTxPacket (k : Fin 128) (s : State) : Out := .next (s.txPacket k.val)

/-- STREAM_LOST (12 R543). -/
def execStreamLost (k : Fin 128) (s : State) : Out := .next (s.streamLost k.val)

/-- RX_ENABLE (12 R535). -/
def execRxEnable (k : Fin 128) (on : Bool) (s : State) : Out := .next (s.rxEnable k.val on)

/-- TX_ENABLE (12 R545). -/
def execTxEnable (k : Fin 128) (on : Bool) (s : State) : Out := .next (s.txEnable k.val on)

/-- LANE_ENABLE (12 R553). -/
def execLaneEnable (lane : Fin 2) (on : Bool) (s : State) : Out := .next (s.laneEnable lane on)

/-- LANE_LINK_CHANGE (12 R555). -/
def execLaneLinkChange (lane : Fin 2) (up : Bool) (s : State) : Out := .next (s.laneLink lane up)

/-- CONTROL_MESSAGE (12 R548). -/
def execControlMessage (lane : Fin 2) (d : Datagram) (s : State) : Out := .next (s.controlMessage lane d)

/-- LANE_FRAME_RECEIVE (12 R534). -/
def execLaneFrameReceive (lane : Fin 2) (f : LaneFrame) (s : State) : Out := .next (s.laneFrame lane f)

/-- LINK_LOCAL_FALLBACK (12 R534). -/
def execLinkLocalFallback (lane : Fin 2) (s : State) : Out := .next (s.linkLocalFallback lane)

end Sys2Proof.Machine
end

