-- ==== Sys2Proof/Machine/LoaderApply.lean ====
section
/-!
DEFINITION. The apply pass of the configuration loader: what each record writes, the removal of a group's objects, and what the loader
computes at the end (14 R592, R605 to R614; 06 R238 to R241, R276; 09 R400).
-/

namespace Sys2Proof.Machine

open Sys2Proof

/-! ## Records as structures -/

/-- A generator from its six images (04 R191). -/
def recGen (w : Nat → Word) : GenDesc :=
  { kind := bitsOf (w 0).toNat 0 1, tapmode := bitsOf (w 0).toNat 1 2, tcf := bitsOf (w 0).toNat 3 1, bank0 := bitsOf (w 0).toNat 4 4,
    nbank := bitsOf (w 0).toNat 8 5, ptab := bitsOf (w 0).toNat 16 16, base := (w 1).toNat % 2 ^ 20, len := (w 2).toNat % 2 ^ 20,
    origin := (w 3).toNat % 2 ^ 20, step := (w 4).toNat % 2 ^ 20, lines := bitsOf (w 5).toNat 0 14, ch := bitsOf (w 5).toNat 16 13 }

/-- The pointer set of a PROGRAM record (14 R605). -/
def recPtr (r : Rec) : PtrSet :=
  { gens := (List.range 16).map fun j => recGen fun k => r.w (1 + 6 * j + k),
    kinit := (List.range 8).map fun k => (r.w (97 + k / 2)).extractLsb' (16 * (k % 2)) 16 }

/-- The program page of a PROGRAM record, with the figures that the loader counts (02 R57; 04 R192; 14 R605). -/
def pageOf (r : Rec) : ProgPage :=
  let len := r.wn 0 / 2 ^ 16
  let pg : ProgPage := { mem := memSetWords [] 0 (r.words.drop 101), len := len, ptr := recPtr r, verified := true }
  let bs := pageBundles pg
  { pg with stwr := stateWrites bs, taps := tapCount bs, winmax := windowOps bs }

/-- A channel descriptor (09 R388). -/
def descOf (w0 w1 w2 w3 : Word) : ChanDesc :=
  { base := w0.toNat % 2 ^ 20, bank := Fin.ofNat 16 (bitsOf w0.toNat 20 4), group := Fin.ofNat 4 (bitsOf w0.toNat 24 2),
    valid := w0.getLsbD 26, stampEn := w0.getLsbD 27, bs := Fin.ofNat 4 (bitsOf w0.toNat 28 2), seals := w0.getLsbD 30,
    len := w1.toNat % 2 ^ 20, sbase := w2.toNat % 2 ^ 20, reach := w3.toNat % 2 ^ 20, ag := bitsOf w3.toNat 20 8,
    agEn := w3.getLsbD 28, naDet := w3.getLsbD 29 }

/-- A route (09 R398). -/
def routeOf (w0 w1 w2 w3 : Word) : Route :=
  { kind := Fin.ofNat 4 (bitsOf w0.toNat 1 2), hgEn := w0.getLsbD 3, hg := bitsOf w0.toNat 4 8, nslot := bitsOf w0.toNat 12 3,
    seals := w0.getLsbD 15, sslot := bitsOf w0.toNat 16 12, src := w1, snk := w2, spos := w3.toNat % 2 ^ 7 }

/-- Records of a type. -/
def ofType (recs : List Rec) (t : Nat) : List Rec := recs.filter fun r => r.typ == t

/-! ## What each record writes (14 R605, R611) -/

/-- A load fills chamber pages (14 R593). -/
def Load.isChamber (ld : Load) : Bool := match ld.kind with
  | .chamber _ => true
  | _ => false

/-- The core that takes what a record writes to a core: the spare that took its place (02 R95). -/
def targetOf (m : List (CoreId × CoreId)) (c : CoreId) : CoreId := ((m.find? fun p => p.1 == c).map fun p => p.2).getD c

def Load.cores (ld : Load) (mask : Nat) : List CoreId := (maskCores mask).map (targetOf ld.remap)

/-- DEVICE. -/
def State.recDevice (s : State) (r : Rec) : State :=
  ((s.putImages 0x040048 [r.w 0, r.w 1]).putImages 0x050020 [r.w 2, r.w 3])

/-- MEMBERS of a group with spares in the place of failed members (02 R95). -/
def Load.members (ld : Load) (mask : Nat) : Nat := orBits ((ld.cores mask).map fun c => c.val)

/-- RATEGROUP (02 R61, R96, R110). -/
def State.recRateGroup (s : State) (ld : Load) (r : Rec) : State :=
  let g := r.wn 0 % 4
  let n := r.wn 1 % 128
  let m := ld.members (r.wn 0 / 2 ^ 16)
  let s := (s.put SE_RG_CFG_RATE g (bitsOf (r.wn 0) 8 4)).put SE_RG_CFG_MINPL g (ld.minpl.getD g 0)
  let s := (s.put SE_RG_CFG_MEMBERS g m).put SE_RG_SAFEMAP_CNT g n
  let s := (List.range n).foldl (fun (s : State) i => s.putImage (0x011000 + 0x100 * g + 4 * i) (r.w (2 + i))) s
  let s := (maskCores m).foldl (fun (s : State) c => (s.put SC_CFG_ROLE c.val 1).put SC_CFG_GROUP c.val g) s
  match toFin? 4 g with
  | some g => s.setGroup g { s.group g with autorun := r.words.getD 0 0 |>.getLsbD 2, autoMode := bitsOf (r.wn 0) 3 2 }
  | none => s

/-- PROGRAM: the active page, or the chamber page of a chamber load, whose CH_VERIFIED changes only at its end (06 R238, R239). -/
def State.recProgram (s : State) (ld : Load) (r : Rec) : State :=
  let c := targetOf ld.remap (Fin.ofNat 16 (r.wn 0 % 16))
  let x := s.core c
  let pg : Fin 2 := if ld.isChamber then other x.ppage else x.ppage
  s.setCore c { x with prog := x.prog.set pg { pageOf r with verified := !ld.isChamber || x.prog[pg].verified } }

/-- COEF. -/
def State.recCoef (s : State) (ld : Load) (r : Rec) : State :=
  (ld.cores (r.wn 0)).foldl (fun (s : State) c =>
    let x := s.core c
    let pg : Fin 2 := if ld.isChamber then other x.cpage else x.cpage
    s.setCore c { x with coef := x.coef.set pg (memSetWords x.coef[pg] (r.wn 1) (r.words.drop 2)) }) s

/-- The pairs of a STATE_INIT record. -/
def statePairs : List Word → List (Half × Word)
  | a :: v :: t => (BitVec.ofNat 16 a.toNat, v) :: statePairs t
  | _ => []

/-- STATE_INIT: state memory, or the chamber list (06 R246). -/
def State.recStateInit (s : State) (ld : Load) (r : Rec) : State :=
  let ps := statePairs (r.words.drop 1)
  (ld.cores (r.wn 0)).foldl (fun (s : State) c =>
    let x := s.core c
    s.setCore c (if ld.isChamber then { x with chInit := x.chInit ++ ps }
      else { x with state := ps.foldl (fun (m : Mem) p => memSetWord m p.1.toNat p.2) x.state })) s

/-- Banks that a BANK_MAP record names, with ZERO and the image. -/
def bankEntries : List Word → List (Nat × Bool × Word)
  | a :: v :: t => (a.toNat % 16, a.getLsbD 4, v) :: bankEntries t
  | _ => []

/-- BANK_MAP. -/
def State.recBankMap (s : State) (r : Rec) : State :=
  (bankEntries r.words).foldl (fun (s : State) e => s.putImage (0x060100 + 0x40 * e.1) e.2.2) s

/-- BANK_INIT. -/
def State.recBankInit (s : State) (r : Rec) : State :=
  let b : BankId := Fin.ofNat 16 (r.wn 0 % 16)
  s.setBank b { s.bank b with mem := memSetWords (s.bank b).mem (r.wn 1) (r.words.drop 2) }

/-- Put an entry, or take it out where its VALID is 0. -/
def tabPut {α : Type} (k : Nat) (valid : Bool) (v : α) (t : Tab α) : Tab α := if valid then tabSet k v t else tabErase k t

/-- The entries of a ROUTE record. -/
def routeEntries : List Word → List (Nat × Word × Word × Word × Word)
  | i :: a :: b :: c :: d :: t => (i.toNat, a, b, c, d) :: routeEntries t
  | _ => []

/-- ROUTE. -/
def State.recRoute (s : State) (r : Rec) : State :=
  (routeEntries (r.words.drop 1)).foldl (fun (s : State) e =>
    let (i, a, b, c, d) := e
    match r.wn 0 % 4 with
    | 0 => { s with ingress := tabPut i (a.getLsbD 26) (descOf a b c d) s.ingress }
    | 1 => { s with egress := tabPut i (a.getLsbD 26) (descOf a b c d) s.egress }
    | _ => { s with routes := tabPut i (a.getLsbD 0) (routeOf a b c d) s.routes }) s

/-- PORT. -/
def State.recPort (s : State) (r : Rec) : State := s.putImages (0x090000 + 0x100 * (r.wn 0 % 16)) [r.w 1, r.w 2]

/-- LINK. -/
def State.recLink (s : State) (r : Rec) : State :=
  (List.range 4).foldl (fun (s : State) p => s.putImages (0x0A0000 + 0x400 * p) [r.w (1 + 2 * p), r.w (2 + 2 * p)]) (s.putImage 0x0A1000 (r.w 0))

/-- First register of what a NET_STREAM record defines. -/
def netAddr (r : Rec) : Nat :=
  match r.wn 0 % 4 with
  | 0 => 0x0B0000 + 0x100 * (r.wn 0 / 4)
  | 1 => 0x0B1000 + 0x40 * (r.wn 0 / 4)
  | _ => 0x0B3000 + 0x40 * (r.wn 0 / 4)

/-- NET_STREAM. -/
def State.recNet (s : State) (r : Rec) : State := s.putImages (netAddr r) (r.words.drop 1)

/-- TIME. -/
def State.recTime (s : State) (r : Rec) : State :=
  let s := ((s.putImage 0x0C0000 (r.w 0)).putImage 0x0D0004 (r.w 1)).put CLK_WCLK_IN_FAM 0 (r.wn 2 % 2)
  (s.putImages 0x0D0100 [r.w 3, r.w 4]).putImages 0x0D0140 [r.w 5, r.w 6]

/-- BCE_JOB. -/
def State.recJob (s : State) (r : Rec) : State := s.putImages (0x051000 + 0x20 * (r.wn 0 % 128)) (r.words.drop 1)

/-- BCE_FILTER: its descriptor. -/
def State.recFilter (s : State) (r : Rec) : State := s.putImages (0x052000 + 0x40 * (r.wn 0 % 128)) ((r.words.drop 1).take 5)

/-- BCE_FILTER: its spectra (07 R308, R318). -/
def State.recSpectra (s : State) (r : Rec) : State :=
  let base := bitsOf (r.wn 2) 0 21
  match toFin? 16 (bitsOf (r.wn 2) 24 5) with
  | some b => s.setBank b { s.bank b with mem := memSetWords (s.bank b).mem base (r.words.drop 6) }
  | none => { s with bce := { s.bce with priv := memSetWords s.bce.priv base (r.words.drop 6) } }

/-- PROBE. -/
def State.recProbe (s : State) (r : Rec) : State :=
  let nout := r.wn 11 % 128
  let s := (s.put PRB_CTL_GROUP 0 (r.wn 0 % 4)).putImages 0x070010 [r.w 1, r.w 2]
  let s := (List.range 4).foldl (fun (s : State) g => s.putImages (0x070100 + 0x10 * g) [r.w (3 + 2 * g), r.w (4 + 2 * g)]) s
  let s := (List.range nout).foldl (fun (s : State) i =>
    let a := 0x071000 + 0x40 * (r.wn (12 + 6 * i) % 64)
    (s.putImages a ((r.words.drop (13 + 6 * i)).take 4)).putImage (a + 0x24) (r.w (17 + 6 * i))) s
  (List.range (r.wn 11 / 2 ^ 16 % 32)).foldl (fun (s : State) i =>
    let k := 12 + 6 * nout + 2 * i
    s.putImage (0x072000 + 0x10 * (r.wn k % 16)) (r.w (k + 1))) s

/-- The entries of records of three words. -/
def triples : List Word → List (Word × Word × Word)
  | a :: b :: c :: t => (a, b, c) :: triples t
  | _ => []

/-- ALIGN_GROUP. -/
def State.recAlign (s : State) (r : Rec) : State :=
  (triples r.words).foldl (fun (s : State) e => s.putImages (0x081000 + 0x20 * (e.1.toNat % 256)) [e.2.1, e.2.2]) s

/-- POWER_POLICY. -/
def State.recPower (s : State) (r : Rec) : State :=
  let s := ((s.put MEM_RET_MASK 0 (bitsOf (r.wn 0) 0 16)).put PWR_CFG_PL_DEFAULT 0 (bitsOf (r.wn 0) 16 3)).put PWR_CFG_RETAIN_ON_PINRST 0 (bitsOf (r.wn 0) 19 1)
  let s := ((s.put PWR_CFG_BO_MUTE 0 (bitsOf (r.wn 1) 0 1)).put PWR_CFG_BO_DROP 0 (bitsOf (r.wn 1) 1 1)).put PWR_CFG_BO_FLASH 0 (bitsOf (r.wn 1) 2 1)
  s.put PWR_CFG_WAKE_SRC 0 (bitsOf (r.wn 2) 0 7)

/-- EVENT_MAP. -/
def State.recEvents (s : State) (r : Rec) : State := s.putImages 0x100040 r.words

/-- REG_WRITE (14 R607). -/
def State.recRegWrite (s : State) (r : Rec) : State :=
  (triples r.words).foldl (fun (s : State) e => s.putMasked e.1.toNat e.2.1 e.2.2) s

/-- SPARE; a spare that took its primary's place is a member (02 R95, R96). -/
def State.recSpare (s : State) (ld : Load) (r : Rec) : State :=
  r.words.foldl (fun (s : State) w =>
    let p := w.toNat % 16
    let t := w.toNat / 16 % 16
    if ld.remap.any fun m => m.2.val == t then s else (s.put SC_CFG_ROLE t 2).put SC_CFG_PRIMARY t p) s

/-- What a record writes. -/
def State.applyRec (s : State) (ld : Load) (r : Rec) : State :=
  match r.typ with
  | 0x01 => s.recDevice r
  | 0x02 => s.recRateGroup ld r
  | 0x03 => s.recProgram ld r
  | 0x04 => s.recCoef ld r
  | 0x05 => s.recStateInit ld r
  | 0x06 => s.recBankMap r
  | 0x07 => s.recBankInit r
  | 0x08 => s.recRoute r
  | 0x09 => s.recPort r
  | 0x0A => s.recLink r
  | 0x0B => s.recNet r
  | 0x0C => s.recTime r
  | 0x0D => s.recJob r
  | 0x0E => s.recFilter r
  | 0x0F => s.recProbe r
  | 0x10 => s.recAlign r
  | 0x11 => s.recPower r
  | 0x12 => s.recEvents r
  | 0x13 => s.recRegWrite r
  | 0x14 => s.recSpare ld r
  | _ => s

/-- The steps of an apply pass, in the order of R611. -/
def loadSteps (kind : LoadKind) (recs : List Rec) : List LoadStep :=
  match kind with
  | .chamber _ => recs.map LoadStep.record
  | _ =>
    let late (r : Rec) : Bool := [0x04, 0x05, 0x07, 0x13].contains r.typ
    (recs.filter fun r => !late r).map LoadStep.record ++ [.structured, .zeroBanks] ++ (ofType recs 7).map LoadStep.record
      ++ (recs.filter fun r => r.typ == 4 || r.typ == 5).map LoadStep.record ++ [.chamberCopy, .zeroBce]
      ++ (ofType recs 0xE).map LoadStep.spectra ++ (ofType recs 0x13).map LoadStep.record

/-! ## Removal (14 R611 step 1, R613) -/

/-- A field returns to its reset value. -/
def State.clearField (s : State) (f : Field) (i : Nat) : State := { s with regs := tabErase (f.key i) s.regs }

/-- The fields of a register return to their reset values. -/
def State.clearWord (s : State) (addr : Nat) : State := (fieldsAt addr).foldl (fun (s : State) p => s.clearField p.1 p.2) s

/-- The fields of `n` registers in a row. -/
def State.clearWords (s : State) (addr n : Nat) : State := (List.range n).foldl (fun (s : State) k => s.clearWord (addr + 4 * k)) s

/-- The images at consecutive registers differ from the registers. -/
def State.imagesDiffer (s : State) (addr : Nat) (ws : List Word) : Bool := (ws.zipIdx.any fun p => s.rawWord (addr + 4 * p.2) != p.1)

/-- A port closes at once and its configuration goes (10 R460; 14 R613). -/
def State.portRemove (s : State) (p : PortId) : State :=
  let s := s.putFlag SAP_CTL_EN p.val false
  let s := if s.sapState p != 0 then s.sapClose p else s
  s.clearWords (0x090000 + 0x100 * p.val) 2

/-- A stream's EN is cleared and its configuration goes (14 R613). -/
def State.streamRemove (s : State) (rx : Bool) (k : Nat) : State :=
  if rx then (s.rxEnable k false).clearWords (0x0B1000 + 0x40 * k) 8 else (s.txEnable k false).clearWords (0x0B3000 + 0x40 * k) 8

/-- Ports and streams whose record differs from the running one are removed; with `all` those without a record too. -/
def State.removeChanged (s : State) (all : Bool) (g : Option GroupId) (recs : List Rec) : State :=
  let own (k : Nat) : Bool := match g with
    | some g => k == g.val
    | none => true
  let s := (List.finRange 16).foldl (fun (s : State) p =>
    let changed := match (ofType recs 9).find? fun r => r.wn 0 % 16 == p.val with
      | some r => s.imagesDiffer (0x090000 + 0x100 * p.val) [r.w 1, r.w 2]
      | none => all
    if own (s.reg SAP_CFG_GROUP p.val) && changed then s.portRemove p else s) s
  let stream (rx : Bool) (s : State) (k : Nat) : State :=
    let valid := if rx then s.flag NET_RX_CFG_VALID k else s.flag NET_TX_CFG_VALID k
    let grp := if rx then s.reg NET_RX_CFG_GROUP k else s.reg NET_TX_CFG_GROUP k
    let changed := match (ofType recs 0xB).find? fun r => r.wn 0 % 4 == (if rx then 1 else 2) && r.wn 0 / 4 == k with
      | some r => s.imagesDiffer (netAddr r) (r.words.drop 1)
      | none => all
    if valid && own grp && changed then s.streamRemove rx k else s
  let s := (List.range 128).foldl (fun s k => stream true s k) s
  (List.range 128).foldl (fun s k => stream false s k) s

/-- BCE filters and jobs of a group go (14 R612, R613). -/
def State.bceRemove (s : State) (own : GroupId → Bool) : State :=
  let jobs := (List.range 128).filter fun j => s.jobValid j && own (s.jobGroup j)
  let fs := (List.range 128).filter fun f => s.flag BCE_FLT_CFG_VALID f && jobs.contains (s.fltJob f)
  let s := fs.foldl (fun (s : State) f => ((s.putFlag BCE_FLT_CTL_EN f false).setFlt f 0).clearWords (0x052000 + 0x40 * f) 5) s
  let s := jobs.foldl (fun (s : State) j => (s.put BCE_JOB_STATUS_STATE j 0).clearWords (0x051000 + 0x20 * j) 4) s
  let jobOf (x : Slice) : Nat := match x with
    | .forward j _ _ => j
    | .multiply j _ _ _ _ => j
    | .inverse j _ _ _ => j
  let b := s.bce
  let keepF (f : Nat) : Bool := !fs.contains f
  { s with bce := { b with
      running := b.running.filter fun x => !jobs.contains (jobOf x), ready := b.ready.filter fun x => !jobs.contains (jobOf x),
      on := b.on.filter fun (p : Nat × Nat) => keepF p.1, off := b.off.filter fun (p : Nat × Nat) => keepF p.1,
      zeroed := b.zeroed.filter fun (p : Nat × Nat × Nat) => !jobs.contains p.1, drops := b.drops.filter fun (p : Nat × Nat × Nat) => keepF p.1,
      closed := b.closed.filter fun (p : Nat × Nat × Nat) => keepF p.1, acc := b.acc.filter fun (p : Nat × List Int) => keepF (p.1 / 4),
      released := b.released.filter fun (p : Nat × Nat) => !jobs.contains (p.1 / 4),
      delivered := b.delivered.filter fun (p : Nat × Nat) => !own (Fin.ofNat 4 p.1), stop := b.stop.filter fun (p : Nat × Nat) => !own (Fin.ofNat 4 p.1) } }

/-- A core's memories, sample, chamber lists and glides go; it is idle unless it is quarantined or failed its self-test (02 R23). -/
def State.coreRemove (s : State) (c : CoreId) : State :=
  let x := s.core c
  let s := s.setCore c { x.blank with sync := x.sync }
  let s := ((s.clearField SC_CFG_ROLE c.val).clearField SC_CFG_GROUP c.val).clearField SC_CFG_PRIMARY c.val
  let s := if s.reg SC_STATUS_STATE c.val = 5 ∨ s.reg SC_STATUS_STATE c.val = 6 then s else s.put SC_STATUS_STATE c.val 0
  (s.showCore c).showGlides c

/-- Channels, routes and alignment groups that `own` names by group go (14 R613). -/
def State.tablesRemove (s : State) (own : GroupId → Bool) : State :=
  let dead (p : Nat × Route) : Bool := p.2.kind != 3 && own (s.routeChan p.2).group
  let armed := s.hgs.filter fun (p : Nat × Headgate) => s.routes.any fun q => dead q && q.2.hgEn && q.2.hg == p.1
  let s := armed.foldl (fun (s : State) p =>
    { s.put STR_HG_STATUS_STATE p.1 (match s.hgState p.1 with
        | 1 => 0
        | 3 => 2
        | k => k) with hgs := tabErase p.1 s.hgs }) s
  let routes := s.routes.filter fun p => !dead p
  let ags := (List.range 256).filter fun k => s.flag STR_AG_CFG_VALID k && own (Fin.ofNat 4 (s.reg STR_AG_CFG_GROUP k))
  let s := ags.foldl (fun (s : State) k => s.clearWords (0x081000 + 0x20 * k) 2) s
  let keep (p : Nat × ChanDesc) : Bool := !own p.2.group
  let gone := (s.ingress.filter fun p => !keep p).map fun p => p.1
  { s with routes := routes, ingress := s.ingress.filter keep, egress := s.egress.filter keep,
           chans := s.chans.filter fun (p : Nat × ChanState) => !gone.contains p.1,
           sent := s.sent.filter fun (p : Nat × SentList) => routes.any fun q => q.1 == p.1,
           sealTx := s.sealTx.filter fun (p : Nat × SealTx) => routes.any fun q => q.1 == p.1 }

/-- The slot of a group ends whatever it is doing (06 R281): an armed sluice with cause GROUP. -/
def State.slotEnd (s : State) (g : GroupId) : State := if s.reg UC_SL_STATUS_STATE g.val = 1 then s.sluiceDrop g 3 else s.sluiceIdle g

/-- Cores of a group: members as loaded and as they are now, and spares of either (14 R613). -/
def State.groupCores (s : State) (g : GroupId) : List CoreId :=
  let m (c : Nat) : Bool := s.maskBit SE_RG_CFG_MEMBERS c g.val || s.maskBit SE_RG_STATUS_ACTIVE c g.val
  (List.finRange 16).filter fun c => m c.val || (s.reg SC_CFG_ROLE c.val == 2 && m (s.reg SC_CFG_PRIMARY c.val))

/-- The membership and the pass map of a group go. -/
def State.membersRemove (s : State) (g : GroupId) : State :=
  let s := (s.groupCores g).foldl (fun s c => s.coreRemove c) s
  let s := ((s.put SE_RG_CFG_MEMBERS g.val 0).put SE_RG_STATUS_ACTIVE g.val 0).put SE_RG_SAFEMAP_CNT g.val 0
  s.clearWords (0x011000 + 0x100 * g.val) 64

/-- The probe ends when it serves a group that `own` names (14 R612). -/
def State.probeRemove (s : State) (own : GroupId → Bool) : State :=
  if s.flag PRB_CTL_EN && own s.probeGroup then s.probeIdle.putFlag PRB_CTL_EN 0 false else s

/-- Every object of group `g` goes (14 R613). -/
def State.removeGroup (s : State) (g : GroupId) (recs : List Rec) : State :=
  let own (h : GroupId) : Bool := h == g
  let s := ((((s.slotEnd g).probeRemove own).bceRemove own).removeChanged false (some g) recs).tablesRemove own
  let s := s.membersRemove g
  { s with loader := { s.loader with remap := s.loader.remap.filter fun (p : CoreId × CoreId) => !(s.groupCores g).contains p.2 } }

/-- What the state is before the load changes it (06 R241; 13 R810). -/
def State.beforeLoad (s : State) (kind : LoadKind) : Before :=
  { plls := [0x0D0100, 0x0D0104, 0x0D0140, 0x0D0144].map s.rawWord,
    owners := (List.range 16).map fun b => s.reg MEM_BANK_CFG_OWNER b,
    loads := (List.finRange 16).map fun b => s.bankLoad b fun _ => none,
    rate := match kind with
      | .part g => s.reg SE_RG_CFG_RATE g.val
      | _ => 0 }

/-- Domains of the registers and memories that a record writes, beside those of its cores and group. -/
def recDomains (r : Rec) : List Nat :=
  match r.typ with
  | 0x09 => [6]
  | 0x0A => [5]
  | 0x0B => [4]
  | 0x0C => [6]
  | 0x0D => [9]
  | 0x0E => [9]
  | 0x0F => [10]
  | 0x13 => (triples r.words).map fun e => domainOf e.1.toNat
  | _ => []

/-- Domains that the records' cores and groups need are on (17 R717); one whose registers or memories the loader writes wakes as
it does for a host access (log entry 46). -/
def State.loadDomains (s : State) (recs : List Rec) : State :=
  let cores := (ofType recs 2).flatMap (fun r => (maskCores (r.wn 0 / 2 ^ 16)).map fun c => c.val)
    ++ (ofType recs 0x14).flatMap fun r => r.words.map fun w => w.toNat / 16 % 16
  let s := if cores.any fun c => decide (c < 8) then s.domainUp 7 else s
  let s := if cores.any fun c => decide (8 ≤ c) then s.domainUp 8 else s
  let s := (if cores.isEmpty then s else s.domainUp 6).domainUp 11
  (recs.flatMap recDomains).foldl (fun (s : State) d => s.demandUp d) s

/-- The apply pass of a whole-device load starts: everything structural goes (14 R592, R611 step 1). -/
def State.beginWhole (s : State) (recs : List Rec) : State :=
  let own (_ : GroupId) : Bool := true
  let s := (List.finRange 4).foldl (fun s g => s.slotEnd g) s
  let s := ((((s.probeRemove own).bceRemove own).removeChanged true none recs).tablesRemove own)
  let s := (List.finRange 4).foldl (fun s g => s.membersRemove g) s
  let s := (List.finRange 16).foldl (fun s c => s.coreRemove c) s
  let s := { s.resetRws with routes := [], sent := [], sealTx := [] }
  let s := (List.finRange 4).foldl (fun (s : State) g => s.setGroup g {}) s
  { s with loader := { s.loader with remap := [] } }

/-! ## Steps that belong to no record (14 R611) -/

/-- Groups that a load defines. -/
def State.loadGroups (s : State) (ld : Load) : List GroupId :=
  match ld.kind with
  | .whole => (List.finRange 4).filter fun g => s.reg SE_RG_CFG_RATE g.val != 0
  | .part g => [g]
  | .chamber _ => []

/-- Banks whose owner a load sets: all of a whole-device load, or those that its BANK_MAP records name. -/
def Load.banks (ld : Load) (recs : List Rec) : List Nat :=
  match ld.kind with
  | .whole => List.range 16
  | _ => (ofType recs 6).flatMap fun r => (bankEntries r.words).map fun e => e.1

/-- OWNER_NOW takes OWNER, ACTIVE takes MEMBERS; quarantine of reassigned cores ends, spares are ready (02 R96, R100, R107; 14 R611). -/
def State.structured (s : State) (ld : Load) (banks : List Nat) : State :=
  let s := banks.foldl (fun (s : State) b =>
    let s := (s.put MEM_BANK_STATUS_OWNER_NOW b (s.reg MEM_BANK_CFG_OWNER b)).putFlag MEM_BANK_STATUS_RELEASED b false
    match toFin? 16 b with
    | some b => s.setBank b { s.bank b with releasing := false }
    | none => s) s
  (s.loadGroups ld).foldl (fun (s : State) g =>
    let s := (s.put SE_RG_STATUS_ACTIVE g.val (s.reg SE_RG_CFG_MEMBERS g.val)).put SE_RG_STATUS_MUTE_CAUSE g.val 0
    let s := (s.groupCores g).foldl (fun (s : State) c =>
      let s := s.putMaskBit SE_QUAR c.val false
      if s.reg SC_CFG_ROLE c.val = 2 then (s.setCore c { s.core c with ready := true }).put SC_STATUS_STATE c.val 3
      else s.put SC_STATUS_STATE c.val 0) s
    s.showMembers g) s

/-- Banks with ZERO = 1 are zeroed. -/
def State.zeroBanks (s : State) (ld : Load) : State :=
  ld.zero.foldl (fun (s : State) b => match toFin? 16 b with
    | some b => s.setBank b { s.bank b with mem := [] }
    | none => s) s

/-- Cores whose memories a load fills. -/
def State.loadCores (s : State) (ld : Load) : List CoreId :=
  match ld.kind with
  | .whole => List.finRange 16
  | .part g => s.groupCores g
  | .chamber _ => []

/-- A spare takes its primary's memories, and each chamber page equals its active page, verified (02 R97; 06 R241; 14 R611). -/
def State.chamberCopy (s : State) (ld : Load) : State :=
  let l := s.loadCores ld
  let s := l.foldl (fun (s : State) c =>
    if s.reg SC_CFG_ROLE c.val = 2 then
      let x := s.core (Fin.ofNat 16 (s.reg SC_CFG_PRIMARY c.val))
      s.setCore c { s.core c with prog := x.prog, coef := x.coef, state := x.state, ppage := x.ppage, cpage := x.cpage }
    else s) s
  l.foldl (fun (s : State) c =>
    let x := s.core c
    let pg := { x.active with verified := true }
    let s := s.setCore c { x with prog := Vector.replicate 2 pg, coef := Vector.replicate 2 x.coef[x.cpage], chInit := [] }
    ((s.showCore c).putFlag UC_CORE_STATUS_XF_OK c.val false).showGlides c) s

/-- FDLs, rings, tail buffers and stamp tables of the load's jobs become 0 (07 R318). -/
def State.zeroRegions (s : State) (own : GroupId → Bool) : State :=
  let zero (s : State) (loc base n : Nat) : State := (List.range n).foldl (fun (s : State) i => match toFin? 16 loc with
    | some b => s.setBankWord b (base + i) 0
    | none => s.privSet (base + i) 0) s
  let s := ((List.range 128).filter fun j => s.jobValid j && own (s.jobGroup j)).foldl (fun (s : State) j =>
    zero s (s.reg BCE_JOB_FDL_LOC j) (s.reg BCE_JOB_FDL_BASE j) (specWords (s.reg BCE_JOB_SEG_C j))) s
  ((List.range 128).filter fun f => s.flag BCE_FLT_CFG_VALID f && own (s.fltGroup f)).foldl (fun (s : State) f =>
    let s := zero s 16 (s.reg BCE_FLT_RING_BASE f) (2 ^ s.reg BCE_FLT_RING_RLOG2 f)
    let s := zero s (s.reg BCE_FLT_TAIL_TBANK f) (s.reg BCE_FLT_TAIL_TB f) 64
    zero s (s.reg BCE_FLT_STAMP_SBANK f) (s.reg BCE_FLT_STAMP_SB f) 4) s

/-- Groups of a load, as a test. -/
def Load.owns (ld : Load) (g : GroupId) : Bool :=
  match ld.kind with
  | .whole => true
  | .part h | .chamber h => h == g

/-- One step of an apply pass; `recs` are the records of the bitstream. -/
def State.loadStep (s : State) (ld : Load) (banks : List Nat) : LoadStep → State
  | .record r => s.applyRec ld r
  | .spectra r => s.recSpectra r
  | .structured => s.structured ld banks
  | .zeroBanks => s.zeroBanks ld
  | .chamberCopy => s.chamberCopy ld
  | .zeroBce => s.zeroRegions ld.owns

/-! ## What the loader computes at the end -/

/-- 64 R_b: 64 times the operations per second of the stream mover on a bank (09 R400). -/
def State.strRate64 (s : State) (b : BankId) : Nat :=
  let ing := s.ingress.filter fun (p : Nat × ChanDesc) => p.2.bank == b
  let a := (ing.map fun (p : Nat × ChanDesc) => s.fs p.2.group * (if p.2.stampEn then 64 + 128 / blockSize p.2 else 64)).sum
  let outs := s.routes.map fun (p : Nat × Route) =>
    let ch := s.routeChan p.2
    if (p.2.kind == 1 || p.2.kind == 2) && ch.bank == b then 64 * s.fs ch.group else 0
  a + outs.sum

/-- Q_b (09 R400). -/
def State.strQ (s : State) (b : BankId) : Nat := (40 * s.strRate64 b + 64 * 600000000 - 1) / (64 * 600000000)

/-- A register pair of 4 bits per bank. -/
def nibbles (f : BankId → Nat) (lo : Nat) : Nat := ((List.range 8).map fun k => min 15 (f (Fin.ofNat 16 (lo + k))) * 16 ^ k).sum

/-- Q_b of the convolution engine (07 R319). -/
def State.bceQ (s : State) (b : BankId) : Nat :=
  (if b.val < 8 then s.reg BCE_BANKQ0_Q else s.reg BCE_BANKQ1_Q) / 16 ^ (b.val % 8) % 16

/-- Static demand of the probe on a bank: its result writes (08 R368). -/
def State.probeDemand (s : State) (b : BankId) : Nat :=
  if s.reg PRB_RES_BASE_BANK == b.val && !s.poutList.isEmpty && (List.range 16).any fun i => s.flag PRB_MIC_CFG_VALID i then 1 else 0

/-- Static demand of STR, BCE and PRB (05 R209). -/
def State.nonCore (s : State) (b : BankId) : Nat := s.strQ b + s.bceQ b + s.probeDemand b

/-- p(x) of R322: BCE cycles in x sample periods with ticks 250 ppm fast. -/
def bcePeriods (x fs : Nat) : Nat := x * 600000000 * 4000 / (4001 * max 1 fs)

/-- S(N) + 1 stages cost of a forward or inverse transform (07 R320). -/
def transformCycles (cls : Nat) : Nat := match cls with
  | 0 => 80
  | 1 => 144
  | 2 => 448
  | _ => 1856

/-- ops * ceil(32 / Q) of a shared bank; 0 where the region is private. -/
def State.transferCycles (s : State) (loc ops : Nat) : Nat :=
  match toFin? 16 loc with
  | some b => ops * ((31 + max 1 (s.bceQ b)) / max 1 (s.bceQ b))
  | none => 0

/-- Costs of slices of a job's class (07 R320). -/
def State.forwardCost (s : State) (j cls : Nat) : Nat :=
  let n := classSize cls
  let bank := (tabGet s.ingress (s.reg BCE_JOB_CFG_IN_CH j) {}).bank.val
  let fdl := s.reg BCE_JOB_FDL_LOC j
  let w := n + (s.segCount j cls + 3) / 4
  let t := if fdl = bank then s.transferCycles bank (n / 2 + w) else max (s.transferCycles bank (n / 2)) (s.transferCycles fdl w)
  max (transformCycles cls) t

def State.multiplyCost (s : State) (f cls : Nat) : Nat :=
  let n := classSize cls
  let fdl := s.reg BCE_JOB_FDL_LOC (s.fltJob f)
  let spec := s.reg BCE_FLT_SPEC_LOC f
  let t := if fdl = spec then s.transferCycles fdl (n / 2) else max (s.transferCycles fdl (n / 4)) (s.transferCycles spec (n / 4))
  max (n / 16 + 4) t

/-- The terms of R322: cost, deadline, and the largest slice cost of each. -/
def State.densityTerms (s : State) : List (Nat × Nat × Nat) :=
  let jobs := (List.range 128).filter fun j => s.jobValid j
  let a := jobs.flatMap fun j => (s.jobClasses j).map fun cls =>
    let fs := s.jobFilters j
    let fwd := s.forwardCost j cls
    let muls := fs.map fun f => s.multiplyCost f cls
    let inv := transformCycles cls
    (fwd + (muls.map fun m => s.segCount j cls * m + inv).sum, bcePeriods ((s.segRatio j cls - 1) * classSize cls - 16) (s.fs (s.jobGroup j)),
      muls.foldl max (max fwd (if fs.isEmpty then 0 else inv)))
  let tails := (List.finRange 16).filterMap fun (b : BankId) =>
    let l := (List.range 128).filter fun f => s.flag BCE_FLT_CFG_VALID f && s.reg BCE_FLT_TAIL_TBANK f == b.val
    match l.head? with
    | some f =>
      let bufs := ((l.map fun h => s.reg BCE_FLT_TAIL_TB h).eraseDups).length
      some (17 * bufs * ((31 + max 1 (s.bceQ b)) / max 1 (s.bceQ b)), bcePeriods 16 (s.fs (s.fltGroup f)), 0)
    | none => none
  a ++ tails

/-- Sum of the fractions c / d over a common denominator. -/
def sumFractions : List (Nat × Nat) → Nat × Nat
  | [] => (0, 1)
  | (c, d) :: t =>
    let (n, m) := sumFractions t
    (c * m + n * max 1 d, max 1 d * m)

/-- The left-hand side of R322 as a fraction. -/
def State.densityLoad (s : State) : Nat × Nat := sumFractions (s.densityTerms.map fun t => (t.1, t.2.1))

/-- MEM_BANK_LOAD, STR_BANKQ, BCE_DENSITY.LOAD, member counts, and the figures of cores and groups. -/
def State.showLoads (s : State) : State :=
  let s := (s.put STR_BANKQ0_Q 0 (nibbles s.strQ 0)).put STR_BANKQ1_Q 0 (nibbles s.strQ 8)
  let s := s.putFlag STR_STATUS_LOADED 0 (!s.routes.isEmpty)
  let s := (List.finRange 16).foldl (fun (s : State) b =>
    (s.put MEM_BANK_LOAD_CORE b.val (min 63 (s.bankLoad b fun _ => none))).put MEM_BANK_LOAD_NONCORE b.val (min 15 (s.nonCore b))) s
  let d := s.densityLoad
  let s := s.put BCE_DENSITY_LOAD 0 (min 65535 (d.1 * 65536 / d.2))
  let s := (List.range 256).foldl (fun (s : State) k => (s.put STR_AG_STATUS_MEMBERS k (s.members k).length).showAg k) s
  s.showBudgets

/-- The banks that a program page reaches. -/
def State.pageBanks (s : State) (pg : ProgPage) : Nat := orBits ((s.charges pg).flatMap fun m => (List.range 16).filter fun b => m.testBit b)

/-- A partial load clears CH_VERIFIED of cores of other groups whose chamber program reaches a bank that it changed (06 R241). -/
def State.unverify (s : State) (g : GroupId) (old : Before) : State :=
  let changed := (List.finRange 16).filter fun (b : BankId) =>
    old.owners.getD b.val 0 != s.reg MEM_BANK_CFG_OWNER b.val || old.loads.getD b.val 0 != s.bankLoad b fun _ => none
  (List.finRange 16).foldl (fun (s : State) c =>
    let x := s.core c
    if x.chamber.verified && !(s.groupCores g).contains c && changed.any fun b => (s.pageBanks x.chamber).testBit b.val then
      let s := s.setCore c { x with prog := x.prog.set (other x.ppage) { x.chamber with verified := false } }
      (s.putFlag UC_CORE_STATUS_CH_VERIFIED c.val false).putFlag UC_CORE_STATUS_XF_OK c.val false
    else s) s

end Sys2Proof.Machine
end

