-- ==== Sys2Proof/Machine/LoaderCheck.lean ====
section
/-!
DEFINITION. The checks of the configuration loader on records (codes 0x10 to 0x17) and on the configuration that will exist after the
load (codes 0x20 to 0x2C) (14 R602 to R608).
-/

namespace Sys2Proof.Machine

open Sys2Proof

/-! ## Records -/

/-- The kind of a load (14 R593). -/
def loadKind (h : BsHeader) (recs : List Rec) : LoadKind :=
  if h.scope = 0 then .whole
  else if recs.any Rec.chamber then .chamber (Fin.ofNat 4 h.group) else .part (Fin.ofNat 4 h.group)

/-- The number that a record is about. -/
def recArg (r : Rec) : Nat :=
  match r.typ with
  | 0x04 | 0x05 => ((maskCores (r.wn 0)).head?.map fun c => c.val).getD 0
  | 0x07 => r.wn 0 % 16
  | _ => ((objects r).head?.map fun p => p.2).getD 0

/-- The first record that fails a check, with a byte offset within it. -/
def recErr (code : Nat) (recs : List Rec) (bad : Rec → Option Nat) : Option LdrErr :=
  recs.findSome? fun r => (bad r).map fun o => rErr code r o (recArg r)

/-- A test of a whole record fails at an offset. -/
def failsAt (b : Bool) (ofs : Nat) : Option Nat := if b then some ofs else none

/-- Headgates of the routes that the records define (14 R607). -/
def recGates (recs : List Rec) : List Nat :=
  ((ofType recs 8).filter fun r => r.wn 0 == 2).flatMap fun r => (routeEntries (r.words.drop 1)).filterMap fun e =>
    if e.2.1.getLsbD 0 && e.2.1.getLsbD 3 then some (bitsOf e.2.1.toNat 4 8) else none

/-- An object is defined twice, by two records or within one (14 R604). -/
def duplicateErr : List (Nat × Nat) → List Rec → Option LdrErr
  | _, [] => none
  | seen, r :: t =>
    let o := objects r
    match (o.find? fun p => seen.contains p || decide (1 < (o.filter (· == p)).length)) with
    | some p => some (rErr 0x16 r 0 p.2)
    | none => duplicateErr (seen ++ o) t

/-- MEMBERS of the RATEGROUP record of group `g`. -/
def recMembers (recs : List Rec) (g : GroupId) : Nat :=
  (((ofType recs 2).find? fun r => r.wn 0 % 4 == g.val).map fun r => r.wn 0 / 2 ^ 16).getD 0

/-- A mask names only cores of another. -/
def coresWithin (m all : Nat) : Bool := (maskCores m).all fun c => all.testBit c.val

/-- A port is configured. -/
def State.portSet (s : State) (p : Nat) : Bool :=
  s.rawWord (0x090000 + 0x100 * p) != State.reset.rawWord (0x090000 + 0x100 * p) || s.rawWord (0x090004 + 0x100 * p) != 0

/-- An entry of a ROUTE record lies outside group `g`: before the load (`s`) or after it (`t`) (14 R608). -/
def State.routeOutside (s t : State) (g : GroupId) (table i : Nat) : Bool :=
  let chan (d : Option ChanDesc) : Bool := d.any fun x => x.group != g
  let route (u : State) : Bool := match tabGet? i u.routes with
    | some r => r.kind == 3 || (u.routeChan r).group != g
    | none => false
  match table with
  | 0 => chan (tabGet? i s.ingress) || chan (tabGet? i t.ingress)
  | 1 => chan (tabGet? i s.egress) || chan (tabGet? i t.egress)
  | _ => route s || route t

/-- A record of a partial load of group `g` is not allowed, or defines or replaces an object outside the group. -/
def State.partOutside (s t : State) (recs : List Rec) (g : GroupId) (r : Rec) : Bool :=
  let m := recMembers recs g
  let both (f : State → Bool) : Bool := f s || f t
  match r.typ with
  | 0x02 => r.wn 0 % 4 != g.val || (ofType recs 2).head?.any fun q => q.idx != r.idx
  | 0x03 => !m.testBit (r.wn 0 % 16)
  | 0x04 | 0x05 => !coresWithin (r.wn 0) m
  | 0x06 | 0x07 => false
  | 0x08 => (routeEntries (r.words.drop 1)).any fun e => s.routeOutside t g (r.wn 0) e.1
  | 0x09 => both fun u => u.portSet (r.wn 0 % 16) && u.reg SAP_CFG_GROUP (r.wn 0 % 16) != g.val
  | 0x0B => r.wn 0 % 4 == 0 || both fun u =>
      let k := r.wn 0 / 4
      if r.wn 0 % 4 = 1 then u.flag NET_RX_CFG_VALID k && u.reg NET_RX_CFG_GROUP k != g.val
      else u.flag NET_TX_CFG_VALID k && u.reg NET_TX_CFG_GROUP k != g.val
  | 0x0D => both fun u => u.jobValid (r.wn 0) && u.jobGroup (r.wn 0) != g
  | 0x0E => both fun u => u.flag BCE_FLT_CFG_VALID (r.wn 0) && u.fltGroup (r.wn 0) != g
  | 0x10 => (triples r.words).any fun e => both fun u =>
      u.flag STR_AG_CFG_VALID e.1.toNat && u.reg STR_AG_CFG_GROUP e.1.toNat != g.val
  | 0x13 => false
  | 0x14 => r.words.any fun w => !m.testBit (w.toNat % 16)
  | _ => true

/-- SCOPE (14 R593, R604, R608): `t` is the state after the load. -/
def State.scopeErr (s t : State) (kind : LoadKind) (recs : List Rec) : Option LdrErr :=
  match kind with
  | .whole => (match recs.head? with
      | some r => if r.typ = 1 then none else some (rErr 0x14 r 0 (recArg r))
      | none => some { code := 0x14 }).or (recErr 0x14 recs fun r => failsAt r.chamber 0)
  | .part g => (if (ofType recs 2).isEmpty then some { code := 0x14, arg := g.val } else none).or
      (recErr 0x14 recs fun r => failsAt (s.partOutside t recs g r) 0)
  | .chamber g => recErr 0x14 recs fun r =>
      let m := s.reg SE_RG_STATUS_ACTIVE g.val
      failsAt (!r.chamber || !(match r.typ with
        | 0x03 => m.testBit (r.wn 0 % 16)
        | _ => coresWithin (r.wn 0) m)) 0

/-- Checks 0x10 to 0x17: `area` is the record area, `recs` its records of known types, `t` the state after the load. -/
def State.recordErr (s t : State) (kind : LoadKind) (area : RecArea) (recs : List Rec) : Option LdrErr :=
  let all := area.recs.map fun p => p.1
  let part := match kind with
    | .part g => some g
    | _ => none
  ((((((((area.recs.find? fun p => !p.2).map fun p => rErr 0x10 p.1 (8 + 4 * p.1.words.length) (recArg p.1)).or
    (recErr 0x11 all fun r => failsAt (!knownType r.typ && !r.flags.testBit 0) 0)).or
    (recErr 0x12 all fun r => failsAt (decide (4 ≤ r.flags) || (r.chamber && !(r.typ == 3 || r.typ == 4 || r.typ == 5))) 2)).or
    (recErr 0x13 recs fun r => failsAt (!s.lenOk recs r) 4)).or
    (s.scopeErr t kind recs)).or
    (recErr 0x15 recs fun r => ((fieldParts r).find? fun p => !p.1).map fun p => 8 + 4 * p.2)).or
    (duplicateErr [] recs)).or
    (recErr 0x17 (ofType recs 0x13) fun r =>
      ((triples r.words).zipIdx.find? fun p => !regWriteOk part (recGates recs) p.1.1.toNat p.1.2.1).map fun p => 8 + 12 * p.2)

/-! ## Objects agree (code 0x20) -/

/-- A cross check of numbered objects: the first that fails. -/
def numErr (code : Nat) (l : List Nat) (bad : Nat → Bool) : Option LdrErr := (l.find? bad).map fun k => { code := code, arg := k }

/-- A failure of a core's program is one of its PROGRAM record, where the load has one. -/
def pageErr (code : Nat) (recs : List Rec) (c : CoreId) : LdrErr :=
  { code := code, index := (recs.find? fun r => r.typ == 3 && r.wn 0 % 16 == c.val).map fun r => r.idx, arg := c.val }

/-- Groups that are defined. -/
def State.definedGroups (s : State) : List GroupId := (List.finRange 4).filter fun g => s.fs g != 0

/-- MEMBERS of a group. -/
def State.membersOf (s : State) (g : GroupId) : Nat := s.reg SE_RG_CFG_MEMBERS g.val

/-- Membership: 1 to 16 cores, none in two groups; in a partial load members of g or idle before (02 R61; 14 R613). -/
def State.membersBad (s t : State) (kind : LoadKind) : Option LdrErr :=
  numErr 0x20 (List.range 4) fun k =>
    let g : GroupId := Fin.ofNat 4 k
    let m := t.membersOf g
    t.fs g != 0 && (m == 0 || t.definedGroups.any (fun h => h != g && (List.range 16).any fun c => m.testBit c && (t.membersOf h).testBit c)
      || (match kind with
          | .part h => h == g && (maskCores m).any fun c => s.reg SC_CFG_ROLE c.val != 0 && !(s.groupCores g).contains c
          | _ => false))

/-- SPARE records pair an idle core with a member, each once (02 R96). -/
def State.spareBad (s t : State) (kind : LoadKind) (recs : List Rec) : Option LdrErr :=
  let pairs := (ofType recs 0x14).flatMap fun r => r.words.map fun w => (w.toNat % 16, w.toNat / 16 % 16)
  let member (c : Nat) : Bool := (ofType recs 2).any fun r => (r.wn 0 / 2 ^ 16).testBit c
  let other (c : Nat) : Bool := t.definedGroups.any fun h => (match kind with
    | .part g => h != g
    | _ => false) && (t.membersOf h).testBit c
  numErr 0x20 (pairs.map fun p => p.1) fun p =>
    let mine := pairs.filter fun q => q.1 == p
    !member p || decide (1 < mine.length) || mine.any fun q =>
      member q.2 || other q.2 || decide (1 < (pairs.filter fun z => z.2 == q.2).length)
        || (match kind with
            | .part g => s.reg SC_CFG_ROLE q.2 != 0 && !(s.groupCores g).contains (Fin.ofNat 16 q.2)
            | _ => false)

/-- OUT_CH of a pass-map entry belongs to its group (02 R110). -/
def State.passMapBad (t : State) : Option LdrErr :=
  numErr 0x20 (List.range 4) fun k => (List.range (t.reg SE_RG_SAFEMAP_CNT k)).any fun i =>
    let d := t.chan true (t.reg SE_SAFEMAP_OUT_CH (64 * k + i))
    !d.valid || d.group.val != k

/-- The pages that a load checks: active pages of members, or the chamber pages of the cores that a chamber load names. -/
def State.checkedPages (t : State) (kind : LoadKind) (named : List CoreId) : List (CoreId × GroupId × ProgPage) :=
  match kind with
  | .chamber g => named.map fun c => (c, g, (t.core c).chamber)
  | _ => t.definedGroups.flatMap fun g => (maskCores (t.membersOf g)).map fun c => (c, g, (t.core c).active)

/-- A generator in use breaks R161 or R162 (04). -/
def State.genRefBad (t : State) (g : GenDesc) : Bool :=
  g.used && (if g.kind = 1 then decide (8192 < g.ch + g.lines)
      || !(List.range g.lines).all fun l => (t.chan false (g.ch + l)).valid || (t.chan true (g.ch + l)).valid
    else decide (16 < g.bank0 + g.nbank) || decide (786432 < g.base + (g.lines + g.nbank - 1) / g.nbank * g.len)
      || decide (g.len ≤ g.origin) || decide (g.len ≤ g.step))

/-- The lines that an operation of a page can name: the known one, or all (04 R166, R185). -/
def State.usesFrom (p : PtrSet) (k : KnownLines) : List Bundle → List (GenDesc × Bool × List Nat)
  | [] => []
  | b :: t =>
    (match bundleShared b with
      | none => []
      | some u =>
        let g := p.gens.getD u.g.val {}
        [(g, u.store, match k.getD u.g.val none with
          | some l => [l]
          | none => List.range g.lines)]) ++ usesFrom p (knownAfter p b k) t

/-- Generators of a page as its operations use them. -/
def pageUses (pg : ProgPage) : List (GenDesc × Bool) :=
  ((pageBundles pg).filterMap bundleShared).map fun u => (pg.ptr.gens.getD u.g.val {}, u.store)

/-- A read through a channel array names a channel without an ingress buffer, or a store one without an egress buffer (09 R385). -/
def State.arrayBad (t : State) (pg : ProgPage) : Bool :=
  (pageUses pg).any fun u => u.1.used && u.1.kind == 1 && !((List.range u.1.lines).all fun l => (t.chan u.2 (u.1.ch + l)).valid)

/-- Sources and sinks of a route agree with its kind (09 R395, R398). -/
def State.routePairOk (t : State) (r : Route) : Bool :=
  let so := epType r.src
  let si := epType r.snk
  let io (k : Nat) : Bool := k == 1 || k == 2 || k == 3
  (match r.kind with
    | 0 => io so && si == 4 && (t.chan false (epChan r.snk)).valid
    | 1 => so == 5 && io si && (t.chan true (epChan r.src)).valid
    | 2 => so == 4 && io si && (t.chan false (epChan r.src)).valid
    | 3 => so == 2 && si == 2)
  && (!r.seals || (match r.kind with
      | 0 => so == 2
      | 1 | 2 => si == 2
      | 3 => false))
  && (r.kind != 3 || !r.hgEn)

/-- The streams that a route names exist, carry the channel, and belong to the channel's group (09 R394; 12 R537). -/
def State.routeStreamOk (t : State) (r : Route) : Bool :=
  let g := (t.routeChan r).group.val
  (epType r.src != 3 || (t.flag NET_RX_CFG_VALID (epStream r.src) && decide (epStreamChan r.src ≤ t.reg NET_RX_CFG_CH (epStream r.src))
      && t.reg NET_RX_CFG_GROUP (epStream r.src) == g))
    && (epType r.snk != 3 || (t.flag NET_TX_CFG_VALID (epStream r.snk) && decide (epStreamChan r.snk ≤ t.reg NET_TX_CFG_CH (epStream r.snk))
      && t.reg NET_TX_CFG_GROUP (epStream r.snk) == g))

/-- Slots of a route on a link (09 R398; 11 R474). -/
def State.routeSlots (t : State) (r : Route) : Nat := if r.kind = 3 then r.nslot + 1 else t.linkMult (t.routeChan r).group

/-- Slots that a route takes on port `p`, in the receive direction (`rx`) or the transmit direction: data slots and seal slots. -/
def State.slotsOn (t : State) (rx : Bool) (p : Nat) (r : Route) : List Nat × List Nat :=
  let e := if rx then r.src else r.snk
  if epType e == 2 && epLink e == p then
    let n := t.routeSlots r
    ((List.range n).map fun j => epSlot e + j,
      if r.seals && (if rx then r.kind == 0 else r.kind != 0) then (List.range n).map fun j => r.sslot + j else [])
  else ([], [])

/-- The slots of a route lie within the port's frame and start at a multiple of the rate (11 R474, R476). -/
def State.routeSlotsOk (t : State) (r : Route) : Bool :=
  let ok (e : Word) : Bool :=
    let n := t.routeSlots r
    let cap := 4096 / 2 ^ t.reg RLK_CFG_RATE (epLink e)
    epType e != 2 || (decide (epSlot e + n ≤ cap) && (r.kind == 3 || epSlot e % n == 0) && (!r.seals || decide (r.sslot + n ≤ cap)))
  ok r.src && ok r.snk

/-- Seal slots: not also channel slots, one route to a position, one block size to a slot (09 R422). -/
def State.sealSlotsBad (t : State) : Option LdrErr :=
  let dir (rx : Bool) : Option LdrErr := (List.range 4).findSome? fun p =>
    let rs := (t.routes.map fun q => (q, t.slotsOn rx p q.2)).filter fun (x : (Nat × Route) × List Nat × List Nat) => !x.2.1.isEmpty
    let sealed := rs.filter fun (x : (Nat × Route) × List Nat × List Nat) => !x.2.2.isEmpty
    (sealed.find? fun x =>
      let bs := blockSize (t.routeChan x.1.2)
      decide (2 * bs ≤ x.1.2.spos) || rs.any (fun y => y.2.1.any fun k => x.2.2.contains k)
        || sealed.any fun y => y.1.1 != x.1.1 && (y.2.2.any fun k => x.2.2.contains k)
            && ((y.1.2.sslot == x.1.2.sslot && y.1.2.spos == x.1.2.spos) || blockSize (t.routeChan y.1.2) != bs)).map fun x =>
      { code := 0x20, arg := x.1.1 }
  (dir true).or (dir false)

/-- Every transmit segment has one source (11 R475). -/
def State.segmentsBad (t : State) : Option LdrErr :=
  numErr 0x20 (List.range 4) fun p =>
    let pp : LinkId := Fin.ofNat 4 p
    let loc := (t.routes.filter fun q => q.2.kind == 1 || q.2.kind == 2).flatMap fun q => (t.slotsOn false p q.2).1 ++ (t.slotsOn false p q.2).2
    (List.range (t.linkSegs pp)).any fun sg =>
      let cul := (t.culvertSlots pp sg).map fun x => (x.2.1, x.2.2 / 64)
      !cul.isEmpty && (loc.any (fun k => k / 64 == sg) || cul.any fun x => cul.head? != some x)

/-- A route breaks R395, R396, R398, R403, R476 or names a stream it may not (09, 11). -/
def State.routeBad (t : State) (i : Nat) : Bool :=
  match tabGet? i t.routes with
  | none => false
  | some r =>
    let d := t.routeChan r
    !t.routePairOk r || !t.routeStreamOk r || !t.routeSlotsOk r
      || t.routes.any (fun q => q.1 != i && q.2.snk == r.snk)
      || (r.kind == 0 && (epType r.src == 1) == d.agEn)
      || (r.hgEn && t.routes.any fun q => q.2.hgEn && q.2.hg == r.hg && (t.routeChan q.2).group != d.group)

/-- Both channels of a pair are fed from one port, link port or stream (09 R418). -/
def State.pairFed (t : State) (c : Nat) : Bool :=
  match t.inRouteOf c, t.inRouteOf (c + 1) with
  | some a, some b => epType a.src == epType b.src && (match epType a.src with
      | 1 => epPort a.src == epPort b.src
      | 2 => epLink a.src == epLink b.src
      | _ => epStream a.src == epStream b.src)
  | _, _ => false

/-- An ingress channel breaks R382, R409, R411 or R418 (09). -/
def State.ingressBad (t : State) (c : Nat) : Bool :=
  match tabGet? c t.ingress with
  | none => false
  | some d =>
    let bs := blockSize d
    let ins := t.routes.filter fun q => q.2.kind == 0 && epChan q.2.snk == c
    t.fs d.group == 0 || decide (1 < ins.length)
      || (d.agEn && (!t.flag STR_AG_CFG_VALID d.ag || t.reg STR_AG_CFG_GROUP d.ag != d.group.val || ins.length != 1
          || decide (d.reach < bs) || decide (d.len < d.reach + bs)))
      || (d.naDet && (!(t.chan false (c + 1)).valid || !t.pairFed c || d.seals || (t.chan false (c + 1)).seals))

/-- Roles of the ports (11 R491). -/
def State.rolesBad (t : State) : Option LdrErr :=
  let role (k : Nat) : Nat := ((List.range 4).filter fun p => t.reg RLK_CFG_TOPO p == k).length
  if decide (1 < role 1) || (decide (0 < role 3) && role 4 != 1) || (decide (0 < role 1) && t.flag RLK_GLB_CFG_RING) then some { code := 0x20 }
  else none

/-- A stream breaks R536 or R537 (12). -/
def State.streamBad (t : State) (rx : Bool) (k : Nat) : Bool :=
  let ch := 1 + if rx then t.reg NET_RX_CFG_CH k else t.reg NET_TX_CFG_CH k
  let g : GroupId := if rx then t.rxGroup k else t.txGroup k
  let spp := if rx then t.rxSpp k else t.txSpp k
  let bytes := encBytes (if rx then t.reg NET_RX_CFG_ENC k else t.reg NET_TX_CFG_ENC k)
  (if rx then t.flag NET_RX_CFG_VALID k else t.flag NET_TX_CFG_VALID k)
    && (decide (1440 < ch * spp * bytes) || !([44100, 48000, 96000].contains (t.fs g)) || !t.tickFromTime g)

/-- Channels of all valid streams of a direction (12 R536). -/
def State.streamChans (t : State) (rx : Bool) : Nat :=
  ((List.range 128).map fun k =>
    if rx then (if t.flag NET_RX_CFG_VALID k then 1 + t.reg NET_RX_CFG_CH k else 0)
    else if t.flag NET_TX_CFG_VALID k then 1 + t.reg NET_TX_CFG_CH k else 0).sum

/-- The seed of a media PLL that a group uses, or that the bitstream sets, is 0 (13 R565). -/
def State.pllSeedBad (t : State) (recs : List Rec) : Option LdrErr :=
  numErr 0x20 (List.range 2) fun k => t.pllSeed (Fin.ofNat 2 k) == 0
    && (!(ofType recs 0xC).isEmpty || !(t.pllGroups (Fin.ofNat 2 k)).isEmpty)

/-- A signal generator that an output uses has a seed the loader refuses (08 R343). -/
def State.sgSeedBad (t : State) (k : Nat) : Bool :=
  t.poutList.any (fun o => t.reg PRB_OUT_CFG_SG o == k)
    && (if t.sgGauss k then t.sgSeed k == 0 else t.sgSeed k % 2 ^ t.sgOrder k == 0)

/-- REFERENCE (14 R608). -/
def State.referenceErr (s t : State) (kind : LoadKind) (recs : List Rec) (pages : List (CoreId × GroupId × ProgPage)) : Option LdrErr :=
  let page (bad : ProgPage → Bool) : Option LdrErr := (pages.find? fun p => bad p.2.2).map fun p => pageErr 0x20 recs p.1
  match kind with
  | .chamber _ => page fun pg => pg.ptr.gens.any t.genRefBad || t.arrayBad pg
  | _ =>
    ((((((((((((((s.membersBad t kind).or (s.spareBad t kind recs)).or t.passMapBad).or
      (page fun pg => pg.ptr.gens.any t.genRefBad || t.arrayBad pg)).or
      (numErr 0x20 (t.ingress.map fun p => p.1) t.ingressBad)).or
      (numErr 0x20 (t.egress.map fun p => p.1) fun c => t.fs (t.chan true c).group == 0)).or
      (numErr 0x20 (t.routes.map fun p => p.1) t.routeBad)).or t.sealSlotsBad).or t.segmentsBad).or t.rolesBad).or
      (numErr 0x20 (List.range 128) fun k => t.streamBad true k || t.streamBad false k)).or
      (if decide (1024 < t.streamChans true) || decide (1024 < t.streamChans false) then some { code := 0x20 } else none)).or
      (if (t.reg NET_LANE_CFG_MODE 0 == 1 && decide (2 ≤ t.reg NET_LANE_CFG_MODE 1))
          || (t.reg NET_LANE_CFG_MODE 1 == 1 && decide (2 ≤ t.reg NET_LANE_CFG_MODE 0)) then some { code := 0x20 } else none)).or
      (t.pllSeedBad recs)).or
      ((numErr 0x20 (List.range 4) t.sgSeedBad).or (numErr 0x20 (List.range 128) fun f => t.flag BCE_FLT_CFG_VALID f && !t.jobValid (t.fltJob f)))

/-! ## Ports (code 0x21) -/

/-- Ports that a route uses. -/
def State.portUsed (t : State) (p : Nat) : Bool :=
  t.routes.any fun q => (epType q.2.src == 1 && epPort q.2.src == p) || (epType q.2.snk == 1 && epPort q.2.snk == p)

/-- A port's configuration breaks R434, R441 or R444 (10). -/
def State.portBad (t : State) (p : PortId) : Bool :=
  let tdm := t.reg SAP_CFG_FMT p.val == 3
  let bits := t.sapSlots p * t.sapSlotBits p
  let g := t.sapGroup p
  let fs := t.fs g
  let base := if t.pllOf g = 0 then 44100 else 48000
  let sends := t.routes.any fun q => epType q.2.snk == 1 && epPort q.2.snk == p.val
  let takes := t.routes.any fun q => epType q.2.src == 1 && epPort q.2.src == p.val
  let n := t.pllOf g
  (t.portSet p.val || t.portUsed p.val) && (fs == 0
    || decide (t.sapSlotBits p < t.sapWordBits p) || (!tdm && t.sapSlots p != 2)
    || (!tdm && (t.flag SAP_CFG_FS_DLY p.val || t.flag SAP_CFG_FSW p.val)) || decide (50000000 < bits * fs)
    || (sends && !t.sapOutput p 0 && !t.sapOutput p 1) || (takes && t.sapOutput p 0 && t.sapOutput p 1)
    || (t.sapMaster p && (t.reg SAP_DIV_N p.val * 65536 + t.reg SAP_DIV_F p.val != 65536 * (8192 * base / max 1 fs) / bits
        || decide (t.reg SAP_DIV_N p.val < 8)))
    || (t.reg SAP_CFG_MODE p.val == 1 && (t.reg CLK_MPLL_CFG_REF n != 2 || t.reg CLK_MPLL_CFG_PORT n != p.val
        || (List.finRange 16).any fun q => q != p && (t.portSet q.val || t.portUsed q.val) && t.reg SAP_CFG_MODE q.val == 1
            && t.pllOf (t.sapGroup q) == n)))

/-- An endpoint of a route on a port breaks R439 (10). -/
def State.endpointBad (t : State) (r : Route) (e : Word) (out : Bool) : Bool :=
  let p : PortId := Fin.ofNat 16 (epPort e)
  epType e == 1 && (decide (t.sapSlots p ≤ epSapSlot e) || t.sapOutput p (epLine e) != out || t.sapGroup p != (t.routeChan r).group)

/-- A route between a link port and a channel breaks R467 (11). -/
def State.linkRouteBad (t : State) (r : Route) : Bool :=
  r.kind != 3 && (epType r.src == 2 || epType r.snk == 2)
    && ((if t.pllOf (t.routeChan r).group = 0 then 44100 else 48000) != t.linkBase || !t.tickFromTime (t.routeChan r).group)

def State.portErr (t : State) : Option LdrErr :=
  (numErr 0x21 (List.range 16) fun p => t.portBad (Fin.ofNat 16 p)).or
    ((t.routes.find? fun q => t.endpointBad q.2 q.2.src false || t.endpointBad q.2 q.2.snk true || t.linkRouteBad q.2).map fun q =>
      { code := 0x21, arg := q.1 })

/-! ## Ownership (code 0x22) -/

def State.loadedOwner (t : State) (b : Nat) : Nat := t.reg MEM_BANK_CFG_OWNER b
def State.published (t : State) (b cls : Nat) : Bool := (t.reg MEM_BANK_CFG_PUB b).testBit (classBit cls)

/-- A store through a generator that can reach a bank its group does not own, or a read of one neither owned nor published (04 R175). -/
def State.reachBad (t : State) (g : GroupId) (pg : ProgPage) : Bool :=
  (pageUses pg).any fun u => u.1.used && (List.range 16).any fun b => (t.genBanks u.1 u.2).testBit b
    && t.loadedOwner b != 1 + g.val && (u.2 || !t.published b (1 + g.val))

/-- A region of memory: bank (16 is the private memory of the convolution engine), first word, words. -/
abbrev Region := Nat × Nat × Nat

def Region.overlaps (a b : Region) : Bool := a.1 == b.1 && decide (a.2.1 < b.2.1 + b.2.2) && decide (b.2.1 < a.2.1 + a.2.2)

/-- Two regions of a list overlap: the object of the second. -/
def overlapOf : List (Nat × Region) → Option Nat
  | [] => none
  | (_, r) :: t => ((t.find? fun x => r.overlaps x.2).map fun x => x.1).or (overlapOf t)

/-- Buffers and stamp rings by channel (09 R383, R390). -/
def State.bufferRegions (t : State) : List (Nat × Region) :=
  (t.ingress.flatMap fun (p : Nat × ChanDesc) => (p.1, p.2.bank.val, p.2.base, p.2.len) ::
    (if p.2.stampEn then [(p.1, p.2.bank.val, p.2.sbase, 2 * (p.2.len / blockSize p.2))] else []))
  ++ t.egress.map fun (p : Nat × ChanDesc) => (p.1, p.2.bank.val, p.2.base, p.2.len)

/-- Regions of jobs and filters (07 R314): FDL; spectra, ring, tail buffer and stamp table. -/
def State.jobRegions (t : State) : List (Nat × Region) :=
  ((List.range 128).filter fun j => t.jobValid j).map fun j => (j, t.reg BCE_JOB_FDL_LOC j, t.reg BCE_JOB_FDL_BASE j, specWords (t.reg BCE_JOB_SEG_C j))

def State.validFilters (t : State) : List Nat := (List.range 128).filter fun f => t.flag BCE_FLT_CFG_VALID f

def State.filterRegions (t : State) : List (Nat × Region) :=
  t.validFilters.flatMap fun f =>
    [(f, t.reg BCE_FLT_SPEC_LOC f, t.reg BCE_FLT_SPEC_BASE f, specWords (t.reg BCE_JOB_SEG_C (t.fltJob f))),
     (f, 16, t.reg BCE_FLT_RING_BASE f, 2 ^ t.reg BCE_FLT_RING_RLOG2 f), (f, t.reg BCE_FLT_STAMP_SBANK f, t.reg BCE_FLT_STAMP_SB f, 4)]

/-- Tail buffers; filters that name one buffer share it (07 R329, R330). -/
def State.tailRegions (t : State) : List (Nat × Region) :=
  t.validFilters.filterMap fun f =>
    if t.validFilters.any fun h => decide (h < f) && t.sameTail h f then none
    else some (f, t.reg BCE_FLT_TAIL_TBANK f, t.reg BCE_FLT_TAIL_TB f, 64)

def State.bceRegions (t : State) : List (Nat × Region) := t.jobRegions ++ t.filterRegions ++ t.tailRegions

/-- Banks that a partial load names and may not (14 R608). -/
def State.partBanksBad (s : State) (kind : LoadKind) (recs : List Rec) : Option LdrErr :=
  match kind with
  | .part g =>
    let named : List (Nat × Nat) := recs.flatMap fun r =>
      if r.typ = 6 then (bankEntries r.words).map fun e => (r.idx, e.1)
      else if r.typ = 7 then [(r.idx, r.wn 0 % 16)] else []
    (named.find? fun p => s.reg MEM_BANK_STATUS_OWNER_NOW p.2 != 1 + g.val && !s.flag MEM_BANK_STATUS_RELEASED p.2).map fun p =>
      { code := 0x22, index := some p.1, arg := p.2 }
  | _ => none

/-- The journal lies in a retained bank of MGT (06 R282). -/
def State.journalBad (t : State) : Bool :=
  let b := t.reg UC_JNL_CFG_BANK
  t.reg UC_JNL_CFG_SIZE != 0 && (!t.maskBit MEM_RET_MASK b || t.loadedOwner b != 8
    || decide (bankWords < t.reg UC_JNL_BASE + 256 * t.reg UC_JNL_CFG_SIZE))

/-- Pairs of the probe that are configured (08 R355, R364). -/
def State.pairList (t : State) : List (Nat × Nat) :=
  t.poutList.flatMap fun o => ((List.range 16).filter fun i => t.flag PRB_MIC_CFG_VALID i).map fun i => (o, i)

/-- OWNERSHIP (14 R608). -/
def State.ownershipErr (s t : State) (kind : LoadKind) (recs : List Rec) (pages : List (CoreId × GroupId × ProgPage)) : Option LdrErr :=
  let reach : Option LdrErr := (pages.find? fun p => t.reachBad p.2.1 p.2.2).map fun p => pageErr 0x22 recs p.1
  match kind with
  | .chamber _ => reach
  | _ =>
    (((((((s.partBanksBad kind recs).or reach).or
      (if t.journalBad then some { code := 0x22, arg := t.reg UC_JNL_CFG_BANK } else none)).or
      (numErr 0x22 (t.ingress.map fun p => p.1) fun c =>
        let d := t.chan false c
        t.loadedOwner d.bank.val != 7 || (d.stampEn && decide (bankWords < d.sbase + 2 * (d.len / blockSize d))))).or
      (numErr 0x22 (t.egress.map fun p => p.1) fun c =>
        let d := t.chan true c
        t.loadedOwner d.bank.val != 1 + d.group.val || !t.published d.bank.val 7)).or
      ((overlapOf t.bufferRegions).map fun c => { code := 0x22, arg := c })).or
      ((t.bceRegions.find? fun x => decide (x.2.1 < 16) && t.loadedOwner x.2.1 != 5).map fun x => { code := 0x22, arg := x.1 })).or
      ((numErr 0x22 t.validFilters fun f =>
        let own := 1 + (t.fltGroup f).val
        !t.published (t.reg BCE_FLT_TAIL_TBANK f) own || !t.published (t.reg BCE_FLT_STAMP_SBANK f) own).or
      (if !t.pairList.isEmpty && t.loadedOwner (t.reg PRB_RES_BASE_BANK) != 6 then some { code := 0x22, arg := t.reg PRB_RES_BASE_BANK } else none))

/-! ## Programs, loads and budgets (codes 0x23 to 0x28) -/

/-- Ranges of a pointer set that R161 and R162 do not name (04 R160, R182, R809). -/
def State.progErr (t : State) (recs : List Rec) (pages : List (CoreId × GroupId × ProgPage)) : Option LdrErr :=
  ((pages.find? fun p => p.2.2.len != 0 && !t.programOk p.2.2).map fun p => pageErr 0x23 recs p.1).or
    (recErr 0x23 (ofType recs 5) fun r =>
      ((r.words.drop 1).zipIdx.find? fun p => p.2 % 2 == 0 && decide (16383 < p.1.toNat)).map fun p => 12 + 4 * p.2)

/-- STATE_WR (02 R57; 06 R246). -/
def State.stateWrErr (t : State) (kind : LoadKind) (recs : List Rec) (pages : List (CoreId × GroupId × ProgPage)) : Option LdrErr :=
  ((pages.find? fun p => decide (4096 < p.2.2.stwr)).map fun p => pageErr 0x24 recs p.1).or
    (match kind with
      | .chamber _ => numErr 0x24 (List.range 16) fun c => decide (2048 < (t.core (Fin.ofNat 16 c)).chInit.length)
      | _ => none)

def densityErr (recs : List Rec) (pages : List (CoreId × GroupId × ProgPage)) : Option LdrErr :=
  (pages.find? fun p => !programDense p.2.2).map fun p => pageErr 0x25 recs p.1

/-- Charge lists of a group with the chamber pages of `named` in place of the active ones. -/
def State.chamberProgs (t : State) (g : GroupId) (named : List CoreId) : List (List Nat) :=
  (maskCores (t.reg SE_RG_STATUS_ACTIVE g.val)).map fun c =>
    t.charges (if named.contains c then (t.core c).chamber else (t.core c).active)

def State.bankLoadErr (t : State) (kind : LoadKind) (named : List CoreId) : Option LdrErr :=
  let alt : GroupId → Option (List (List Nat)) := match kind with
    | .chamber g => fun h => if h = g then some (t.chamberProgs g named) else none
    | _ => fun _ => none
  numErr 0x26 (List.range 16) fun b => decide (24 < t.bankLoad (Fin.ofNat 16 b) alt)

/-- NONCORE (05 R209; 09 R400). -/
def State.nonCoreErr (t : State) : Option LdrErr :=
  numErr 0x27 (List.range 16) fun b => decide (7 < t.strQ (Fin.ofNat 16 b)) || decide (7 < t.nonCore (Fin.ofNat 16 b))

/-- BUDGET (01 R32, R33; 17 R712). -/
def State.budgetErr (t : State) (kind : LoadKind) (recs : List Rec) (pages : List (CoreId × GroupId × ProgPage)) : Option LdrErr :=
  let past (g : GroupId) (len pl : Nat) : Bool :=
    let rate := t.reg SE_RG_CFG_RATE g.val
    len != 0 && decide (budgetOf rate pl < declMin len rate pl)
  let at_ (p : CoreId × GroupId × ProgPage) : Bool :=
    past p.2.1 p.2.2.len (t.reg SE_RG_CFG_MINPL p.2.1.val) || (match kind with
      | .whole => false
      | .part g | .chamber g => g == p.2.1 && past g p.2.2.len t.pl)
  ((pages.find? at_).map fun p => pageErr 0x28 recs p.1).or
    (match kind with
      | .chamber _ => none
      | _ => numErr 0x28 (List.range 4) fun g => !t.groupAccepts (Fin.ofNat 4 g) (t.reg PWR_CFG_PL_DEFAULT))

/-! ## Block convolution and probe (codes 0x29, 0x2A) -/

/-- A job's schedule breaks R294 or R295 (07). -/
def State.scheduleBad (t : State) (j : Nat) : Bool :=
  let first := t.reg BCE_JOB_CFG_FIRST j
  t.segCount j first == 0 || (List.range first).any (fun c => t.segCount j c != 0) || t.reg BCE_JOB_HEAD_H j % classSize first != 0
    || (t.jobClasses j).any fun c => t.segOffset j c % classSize c != 0 || decide (t.segRatio j c < 2)
        || decide (32768 < t.segRatio j c * classSize c + 32)

/-- The input channel of a job breaks R316 (07). -/
def State.jobInputBad (t : State) (j : Nat) : Bool :=
  let d := t.chan false (t.reg BCE_JOB_CFG_IN_CH j)
  !d.valid || !t.published d.bank.val 5 || d.base % 4 != 0 || d.len % 4 != 0
    || (t.jobClasses j).any fun c => decide (d.len < (t.segRatio j c + 1) * classSize c)

/-- A filter's ring or tail buffer breaks R314 (07). -/
def State.filterBad (t : State) (f : Nat) : Bool :=
  let need := ((t.jobClasses (t.fltJob f)).map fun c => t.segRatio (t.fltJob f) c * classSize c).foldl max 0 + 32
  decide (2 ^ t.reg BCE_FLT_RING_RLOG2 f < need) || t.reg BCE_FLT_TAIL_TB f % 64 != 0

/-- A delivery takes more than 16 sample periods (07 R301). -/
def State.deliveryBad (t : State) (f : Nat) : Bool :=
  let b := t.reg BCE_FLT_TAIL_TBANK f
  let bufs := (t.tailRegions.filter fun x => x.2.1 == b).length
  let q := max 1 (t.bceQ (Fin.ofNat 16 b))
  decide (16 * 600000000 < (17 * bufs * ((31 + q) / q) + 48) * t.fs (t.fltGroup f))

/-- R322: the density sum exceeds 0.9 less the largest slice over the smallest deadline (07). -/
def State.bceDense (t : State) : Bool :=
  let terms := t.densityTerms
  match terms.map fun x => x.2.1 with
  | [] => true
  | d :: ds =>
    let dmin := ds.foldl min d
    let bmax := max 1024 ((terms.map fun x => x.2.2).foldl max 0)
    let (n, m) := t.densityLoad
    decide (10 * (n * dmin + bmax * m) ≤ 9 * m * dmin)

/-- BCE (07 R295, R301, R314 to R316, R319, R322). -/
def State.bceErr (t : State) : Option LdrErr :=
  let jobs := (List.range 128).filter fun j => t.jobValid j
  let regions := t.bceRegions
  let size (loc : Nat) : Nat := if loc < 16 then bankWords else 2097152
  (((((numErr 0x29 jobs fun j => t.scheduleBad j || t.jobInputBad j).or
    (numErr 0x29 t.validFilters fun f => t.filterBad f || t.deliveryBad f)).or
    ((regions.find? fun x => x.2.2.1 % 4 != 0 || decide (size x.2.1 < x.2.2.1 + x.2.2.2)).map fun x => { code := 0x29, arg := x.1 })).or
    ((overlapOf regions).map fun k => { code := 0x29, arg := k })).or
    (numErr 0x29 (List.range 16) fun b => t.bceQ (Fin.ofNat 16 b) == 0 && (regions.any (fun x => x.2.1 == b)
      || jobs.any fun j => (t.chan false (t.reg BCE_JOB_CFG_IN_CH j)).bank.val == b))).or
    (if t.bceDense then none else some { code := 0x29 })

/-- An egress channel of the probe's group. -/
def State.probeSink (t : State) (c : Nat) : Bool := (t.chan true c).valid && (t.chan true c).group == t.probeGroup

/-- An output breaks R353 or R374 (08). -/
def State.outputBad (t : State) (o : Nat) : Bool :=
  let sink := t.reg PRB_OUT_CFG_SINK_CH o
  let nc := t.reg PRB_LOOP_CFG_NC o
  !t.probeSink sink || !t.probeSink (t.reg PRB_OUT_MASK_MASK_CH o)
    || t.poutList.any (fun q => q != o && t.reg PRB_OUT_CFG_SINK_CH q == sink)
    || t.routes.any (fun q => q.2.kind == 1 && q.2.seals && epChan q.2.src == sink)
    || (t.rawWord (0x071024 + 0x40 * o) != 0
      && (nc % 2 == 0 || decide (nc < 33) || decide (65536 < t.reg PRB_LOOP_CFG_WORD o + nc)
        || !t.maskBit SE_RG_CFG_MEMBERS (t.reg PRB_LOOP_CFG_CORE o) t.probeGroup.val))

/-- A microphone breaks R355 or R393. -/
def State.micBad (t : State) (i : Nat) : Bool :=
  let d := t.chan false (t.reg PRB_MIC_CFG_CH i)
  !d.valid || t.fs d.group != t.fs t.probeGroup || !t.published d.bank.val 6 || !d.stampEn

/-- PROBE (08 R353, R355, R360, R364, R374; 09 R393). -/
def State.probeErr (t : State) : Option LdrErr :=
  let outs := t.poutList
  let pairs := t.pairList
  let kmax := (outs.map fun o => t.reg PRB_OUT_IR_K o).foldl max 0
  let own := (pairs.map fun p => if t.bcePath p.1 then 0 else t.reg PRB_OUT_IR_K p.1).sum
  if outs.isEmpty then none
  else
    ((((numErr 0x2A outs t.outputBad).or
      (numErr 0x2A ((List.range 16).filter fun i => t.flag PRB_MIC_CFG_VALID i) t.micBad)).or
      (if t.fs t.probeGroup == 0 || decide (9 * 64 * 300000000 / (10 * t.fs t.probeGroup) < own) then some { code := 0x2A } else none)).or
      ((pairs.find? fun p => decide (bankWords < t.reg PRB_RES_BASE + (2 * (16 * p.1 + p.2) + 2) * t.reg PRB_RES_STRIDE)).map fun p =>
        { code := 0x2A, arg := p.1 })).or
      (if !pairs.isEmpty && decide (t.reg PRB_RES_STRIDE < 16 + kmax) then some { code := 0x2A } else none)

/-! ## Cores and the rest of the order (codes 0x2B, 0x2C) -/

/-- A member that failed its self-test has no spare that passed (02 R95). -/
def State.coreErr (s : State) (recs : List Rec) : Option LdrErr :=
  let pairs := (ofType recs 0x14).flatMap fun r => r.words.map fun w => (w.toNat % 16, w.toNat / 16 % 16)
  let failed (c : Nat) : Bool := s.maskBit SE_STATUS_BIST_FAIL c
  let m := (ofType recs 2).flatMap fun r => (maskCores (r.wn 0 / 2 ^ 16)).map fun c => c.val
  numErr 0x2B m fun c => failed c && !(pairs.any fun p => p.1 == c && !failed p.2)

/-- Members that failed, with the spares that take their place (02 R95). -/
def State.remapOf (s : State) (recs : List Rec) : List (CoreId × CoreId) :=
  let pairs := (ofType recs 0x14).flatMap fun r => r.words.map fun w => (w.toNat % 16, w.toNat / 16 % 16)
  (pairs.filter fun p => s.maskBit SE_STATUS_BIST_FAIL p.1 && !s.maskBit SE_STATUS_BIST_FAIL p.2
      && (ofType recs 2).any fun r => (r.wn 0 / 2 ^ 16).testBit p.1).map fun p => (Fin.ofNat 16 p.1, Fin.ofNat 16 p.2)

/-- Cores that a chamber load names. -/
def namedCores (recs : List Rec) : List CoreId :=
  (List.finRange 16).filter fun c => recs.any fun r => (r.typ == 3 && r.wn 0 % 16 == c.val)
    || ((r.typ == 4 || r.typ == 5) && (r.wn 0).testBit c.val)

/-- BUSY (14 R593, R608; 06 R240). -/
def State.busyErr (s : State) (kind : LoadKind) (named : List CoreId) : Option LdrErr :=
  match kind with
  | .whole => if (List.finRange 4).any (fun g => s.rgState g != 0) || (List.range 4).any (fun p => s.flag RLK_CTL_EN p)
      || (List.range 2).any (fun l => s.flag NET_LANE_CTL_EN l) then some { code := 0x2C } else none
  | .part g => if s.rgState g = 5 then some { code := 0x2C, arg := g.val } else none
  | .chamber g =>
    let st := s.reg UC_SL_STATUS_STATE g.val
    let armed := match s.sluices[g] with
      | some u => named.any fun c => u.cores.testBit c.val
      | none => false
    if s.rgState g = 5 || (st == 1 && armed) || st == 2 || st == 3 then some { code := 0x2C, arg := g.val } else none

/-- The state after all of a load has been written. -/
def State.afterLoad (s : State) (ld : Load) (recs : List Rec) : State :=
  let s := match ld.kind with
    | .whole => s.beginWhole recs
    | .part g => s.removeGroup g recs
    | .chamber _ => s
  (loadSteps ld.kind recs).foldl (fun (s : State) x => s.loadStep ld (ld.banks recs) x) s

/-- Checks 0x20 to 0x2C in their order (14 R608). -/
def State.configErr (s t : State) (kind : LoadKind) (recs : List Rec) : Option LdrErr :=
  let named := namedCores recs
  let pages := t.checkedPages kind named
  let structural : Bool := match kind with
    | .chamber _ => false
    | _ => true
  let only (e : Option LdrErr) : Option LdrErr := if structural then e else none
  (((((((((((s.referenceErr t kind recs pages).or (only t.portErr)).or (s.ownershipErr t kind recs pages)).or
    (t.progErr recs pages)).or (t.stateWrErr kind recs pages)).or (densityErr recs pages)).or (t.bankLoadErr kind named)).or
    (only t.nonCoreErr)).or (t.budgetErr kind recs pages)).or (only t.bceErr)).or (only t.probeErr)).or
    ((s.coreErr recs).or (s.busyErr kind named))

end Sys2Proof.Machine
end

