-- ==== Sys2Proof/Machine/SampleEngine.lean ====
section
/-!
DEFINITION. The sample engine's commands on groups and cores, the end of a sample, and the judgement of the last sample at a
tick: late samples, faults, quarantine and takeover (02 R52 to R108; 18 R740 to R747, R753).
-/

namespace Sys2Proof.Machine

open Sys2Proof

/-! ## End of a sample -/

/-- Cycle and stall figures of a sample that ends (02 R52, R54, R111). -/
def State.noteStalls (s : State) (c : CoreId) (stalls : Nat) : State :=
  let s := s.count SC_STALL_TOTAL c.val stalls
  s.put SC_STALL_PEAK c.val (max (s.reg SC_STALL_PEAK c.val) (min stalls 65535))

/-- SC_SAT_CNT counts a sample with at least one saturation (02 R87). -/
def State.noteSat (s : State) (c : CoreId) (x : Sample) : State :=
  if x.sat || x.outSat || x.accSat then s.count SC_SAT_CNT c.val else s

/-- A spare is no longer ready (02 R100; 18 R746). -/
def State.spareNotReady (s : State) (t : CoreId) : State :=
  ((s.setCore t { s.core t with ready := false }).put SC_STATUS_STATE t.val 4).raise t.val

/-- Buffered state writes go to the state memory. -/
def commitState (m : Mem) (l : Tab Word) : Mem := l.foldl (fun m p => memSetWord m p.1 p.2) m

/-- No shared-memory write of the core waits in a bank (01 R18). -/
def State.writesLanded (s : State) (c : CoreId) : Bool :=
  (List.finRange 16).all fun b => !(s.bank b).queue.any fun r => r.write && r.who == c.val

/-- The end phase of a sample completes: `stalls` cycles were spent waiting for writes beyond it, and a mirror transfer of state
word `mirrorErr` may fail (01 R18; 02 R52, R54, R58, R98, R100, R111). -/
def State.sampleComplete (s : State) (c : CoreId) (stalls : Nat) (mirrorErr : Option Half) : State :=
  let core := s.core c
  match core.run with
  | none => s
  | some x =>
    if core.xbarFail && partDone core x && !x.dead then s.coreFault c .crossbar (x.len - 1)
    else if x.dead || x.second.isSome || !partDone core x || x.reads.any (fun r => decide (r.due < x.len)) || core.waiting.isSome
        || !s.writesLanded c then s
    else
      let x := addStalls (moveTo x (x.len - 1)) stalls
      let s := s.putSample c x
      let cyc := min 65535 (x.off + x.len + 64 + x.stalls)
      let s := (s.put SC_CYC_LAST c.val cyc).put SC_CYC_PEAK c.val (max (s.reg SC_CYC_PEAK c.val) cyc)
      let s := ((s.put SC_STALL_LAST c.val (min 65535 x.stalls)).noteStalls c x.stalls).noteSat c x
      let s := s.put SC_STWR_LAST c.val (min 8191 x.writes)
      let s := (s.putFlag SC_STATUS_LATE c.val false).putFlag SC_STATUS_FAULT c.val false
      let s := (s.withSpare c).foldl (fun (s : State) t =>
        s.setCore t { s.core t with state := commitState (s.core t).state x.commit }) s
      let s := match mirrorErr, s.spareOf c with
        | some _, some t => s.spareNotReady t
        | _, _ => s
      s.setCore c { s.core c with run := none }

/-! ## Judgement of the last sample (02 R73 to R80; 18 R740 to R747) -/

/-- The sample of a member at a tick: completed, late, or faulted (a retry that is omitted counts as faulted). -/
inductive Verdict where
  | done | late | faulted
  deriving DecidableEq, Repr

def State.verdict (s : State) (c : CoreId) : Verdict :=
  let x := s.core c
  if x.retrying && x.omitRetry then .faulted
  else match x.run with
    | none => .done
    | some r => if r.dead then .faulted else .late

/-- A late core abandons its sample: its state writes are discarded, its shared writes stand (02 R73, R77, R111). -/
def State.abandonLate (s : State) (c : CoreId) : State :=
  match (s.core c).run with
  | none => s
  | some x =>
    let s := ((s.noteStalls c x.stalls).noteSat c x).put SC_CYC_PEAK c.val 0xFFFF
    ((s.count SC_LATE_CNT c.val).putFlag SC_STATUS_LATE c.val true).putFlag SC_STATUS_FAULT c.val false

/-- A faulted sample is counted (18 R742). -/
def State.abandonFaulted (s : State) (c : CoreId) : State :=
  let s := match (s.core c).run with
    | some x => (s.noteStalls c x.stalls).noteSat c x
    | none => s
  (s.count SC_FAULT_CNT c.val).putFlag SC_STATUS_FAULT c.val true

/-- A sluice that names a core goes on with the spare that took it over (02 R97, R101). -/
def Sluice.inherit (u : Sluice) (c t : CoreId) : Sluice :=
  if (u.cores ||| u.heirs).testBit c.val then { u with heirs := u.heirs ||| 2 ^ t.val } else u

/-- A ready spare takes the place of a core (02 R101, R105). -/
def State.takeOver (s : State) (g : GroupId) (c t : CoreId) : State :=
  let s := (s.putMaskBit SE_RG_STATUS_ACTIVE c.val false g.val).putMaskBit SE_RG_STATUS_ACTIVE t.val true g.val
  let s := s.setCore t { s.core t with ready := false, run := none }
  let s : State := { s with sluices := s.sluices.set g (s.sluices[g].map fun u => u.inherit c t) }
  (s.showMembers g).raise (20 + g.val)

/-- The spare that would take over now. -/
def State.readySpare (s : State) (c : CoreId) : Option CoreId :=
  match s.spareOf c with
  | some t => if (s.core t).ready then some t else none
  | none => none

/-- A core is quarantined: a ready spare takes over, or the group mutes with cause CORE_LOSS (18 R743; 02 R72). -/
def State.quarantine (s : State) (g : GroupId) (c : CoreId) : State :=
  let t := s.readySpare c
  let s := (s.putMaskBit SE_QUAR c.val true).put SC_STATUS_STATE c.val 5
  let s := ((s.put FLT_CORE_STATUS_PHASE c.val 3).putMaskBit FLT_STATUS_RETRYING c.val false).raise c.val
  let s := s.setCore c { s.core c with retrying := false, omitRetry := false, takeover := none }
  match t with
  | some t => s.takeOver g c t
  | none =>
    let s := s.putMaskBit SE_RG_STATUS_ACTIVE c.val false g.val
    (s.setGroup g { s.group g with pendMute := some 2 }).showMembers g

/-- The fault sequence of a core goes on at a tick, by the verdict on its last sample (18 R740, R741, R747, R753). -/
def State.faultPhase (s : State) (g : GroupId) (c : CoreId) (v : Verdict) : State :=
  if s.reg FLT_CORE_STATUS_PHASE c.val != 1 then s
  else if (s.core c).retrying then
    if v = .faulted then s.quarantine g c
    else
      let s := (s.put FLT_CORE_STATUS_PHASE c.val 2).putMaskBit FLT_STATUS_RETRYING c.val false
      (s.count FLT_CORE_RETRY_OK_CNT c.val).setCore c { s.core c with retrying := false, omitRetry := false }
  else
    let s := s.setCore c { s.core c with retrying := true }
    if (s.core c).omitRetry then s.raise c.val else s

/-- A takeover asked by the host goes on at a tick (02 R102, R103). -/
def State.takeoverPhase (s : State) (g : GroupId) (c : CoreId) : State :=
  match (s.core c).takeover with
  | none => s
  | some false => s.setCore c { s.core c with takeover := some true }
  | some true =>
    let s := s.setCore c { s.core c with takeover := none }
    match s.readySpare c with
    | some t => (s.takeOver g c t).put SC_STATUS_STATE c.val 0
    | none => s

/-- At a tick the group's last sample is judged: late cores abandon it, faulted ones are retried or quarantined, and the counters
and the pending mute follow (02 R73 to R78, R102; 18 R740 to R747). -/
def State.judge (s : State) (g : GroupId) : State :=
  let cores := maskCores (s.reg SE_RG_STATUS_ACTIVE g.val)
  if !(s.group g).ran then
    cores.foldl (fun (s : State) c => s.takeoverPhase g c) (s.setGroup g { s.group g with heldLast := false })
  else
    let vs := cores.map fun c => (c, s.verdict c)
    let late := vs.any fun p => p.2 == .late
    let faulted := vs.any fun p => p.2 == .faulted
    let s := vs.foldl (fun (s : State) p => match p.2 with
      | .late => s.abandonLate p.1
      | .faulted => s.abandonFaulted p.1
      | .done => s) s
    let s :=
      if late then
        let s := (s.count SE_RG_LATE_CNT g.val).count SE_RG_STATUS_CONSEC_LATE g.val
        let s := s.raise (16 + g.val)
        let lim := s.reg SE_RG_CTL_LATE_LIMIT g.val
        if lim != 0 && decide (lim ≤ s.reg SE_RG_STATUS_CONSEC_LATE g.val) then
          s.setGroup g { s.group g with pendMute := some 1 }
        else s
      else if faulted then s
      else s.put SE_RG_STATUS_CONSEC_LATE g.val 0
    let s := vs.foldl (fun (s : State) p =>
      let x := s.core p.1
      let s := s.setCore p.1 { x with run := none, waiting := none }
      (s.faultPhase g p.1 p.2).takeoverPhase g p.1) s
    s.setGroup g { s.group g with heldLast := late || faulted }

/-! ## Host commands -/

/-- A write of RUN is ignored while a partial load waits or replaces the group (02 R69). -/
def State.runLocked (s : State) (g : GroupId) : Bool := (s.group g).waitRamp || s.rgState g == 5

/-- A write of 1 to RUN (02 R66, R69). -/
def State.runStart (s : State) (g : GroupId) : State :=
  if s.runLocked g || s.flag SE_RG_CTL_RUN g.val then s else s.putFlag SE_RG_CTL_RUN g.val true

/-- A write of 0 to RUN (02 R67, R69). -/
def State.runStop (s : State) (g : GroupId) : State :=
  if s.runLocked g || !s.flag SE_RG_CTL_RUN g.val then s
  else
    let x := s.group g
    (s.putFlag SE_RG_CTL_RUN g.val false).setGroup g { x with stopReq := s.rgState g != 0, startDue := false }

/-- A write of MODE; the reserved code leaves the field unchanged (02 R68; 00 R10). -/
def State.modeChange (s : State) (g : GroupId) (mode : Nat) : State := if mode = 3 then s else s.put SE_RG_CTL_MODE g.val mode

/-- A write of 1 to UNMUTE: it acts on a group that is MUTED, or ramps into MUTED, with cause LATE or HOST (02 R70, R71). -/
def State.unmute (s : State) (g : GroupId) : State :=
  let cause := s.reg SE_RG_STATUS_MUTE_CAUSE g.val
  if cause = 1 ∨ cause = 3 then s.setGroup g { s.group g with unmuteReq := true } else s

/-- A write of 1 to MUTE (02 R108). In OFF and LOADING there is no output to mute (log entry 19). -/
def State.muteHost (s : State) (g : GroupId) : State :=
  if s.rgState g = 0 ∨ s.rgState g = 5 then s else s.setGroup g { s.group g with muteReq := true, unmuteReq := false }

/-- RUN_START (02 R66). -/
def execRunStart (g : GroupId) (s : State) : Out := .next (s.runStart g)

/-- RUN_STOP (02 R67). -/
def execRunStop (g : GroupId) (s : State) : Out := .next (s.runStop g)

/-- MODE_CHANGE (02 R68). -/
def execModeChange (g : GroupId) (mode : Fin 4) (s : State) : Out := .next (s.modeChange g mode.val)

/-- UNMUTE (02 R70). -/
def execUnmute (g : GroupId) (s : State) : Out := .next (s.unmute g)

/-- MUTE (02 R108). -/
def execMute (g : GroupId) (s : State) : Out := .next (s.muteHost g)

/-- The ramp of a group has made its last sample. -/
def State.rampOver (s : State) (g : GroupId) : Bool :=
  match (s.group g).ramp with
  | some r => decide (s.rampLen g r ≤ r.j)
  | none => false

/-- RAMP_END (02 R64): at the coming tick the group enters the state its ramp leads to. -/
def execRampEnd (g : GroupId) (s : State) : Out :=
  .next (s.atTick g fun _ s => if s.rampOver g then s.part g .ramp (fun s => s.rampTick g) else s)

/-- LATE_LIMIT_MUTE (02 R78): at the coming tick the last sample is judged, and the group is muted when its late samples reach the
limit. -/
def execLateLimitMute (g : GroupId) (s : State) : Out :=
  .next (s.atTick g fun _ s =>
    let s := s.part g .judge (fun s => s.judge g)
    if (s.group g).pendMute = some 1 then s.part g .ramp (fun s => s.rampTick g) else s)

/-- A write of 1 to TAKEOVER: ignored without a ready spare and while a retry runs (02 R102, R104). -/
def State.takeoverAsk (s : State) (c : CoreId) : State :=
  if s.isActive c && (s.readySpare c).isSome && s.reg FLT_CORE_STATUS_PHASE c.val != 1 && (s.core c).takeover.isNone then
    s.setCore c { s.core c with takeover := some false }
  else s

/-- A write of 1 to CLR_PEAK (02 R111). -/
def State.clrPeak (s : State) (c : CoreId) : State := (s.put SC_CYC_PEAK c.val 0).put SC_STALL_PEAK c.val 0

/-- A write of 1 to TAKEOVER (02 R102, R104). -/
def execTakeover (c : CoreId) (s : State) : Out := .next (s.takeoverAsk c)

/-- CLR_PEAK (02 R111). -/
def execClrPeak (c : CoreId) (s : State) : Out := .next (s.clrPeak c)

/-- A core's self-test ends (02 R94, R95). -/
def State.selfTest (s : State) (c : CoreId) (passed : Bool) : State :=
  if passed then
    let s := s.putMaskBit SE_STATUS_BIST_FAIL c.val false
    if s.reg SC_STATUS_STATE c.val = 6 then s.put SC_STATUS_STATE c.val (if s.maskBit SE_QUAR c.val then 5 else 0) else s
  else ((s.putMaskBit SE_STATUS_BIST_FAIL c.val true).put SC_STATUS_STATE c.val 6).raise c.val

/-- SELF_TEST_COMPLETE (02 R95). -/
def execSelfTestComplete (c : CoreId) (passed : Bool) (s : State) : Out := .next (s.selfTest c passed)

/-- A read of SE_RG_TICK_LO (`time` = false) or SE_RG_TICK_NS latches the companion fields of that interface (02 R108; 16 R669). -/
def State.tickIndexRead (s : State) (g : GroupId) (time : Bool) (iface : Fin 3) : State :=
  let x := s.group g
  if time then
    let s := s.putLatch iface SE_RG_TICK_FRAC g.val (x.tickTim % timPerNs * 2 ^ 16 / timPerNs)
    let sec := x.tickTim / timPerSec % 2 ^ 48
    let s := (s.putLatch iface SE_RG_TICK_SEC_LO g.val (sec % 2 ^ 32)).putLatch iface SE_RG_TICK_SEC_HI g.val (sec / 2 ^ 32)
    { s with hostOut := [BitVec.ofNat 32 (x.tickTim % timPerSec / timPerNs)] }
  else
    { s.putLatch iface SE_RG_TICK_HI_INDEX_HI g.val (x.n / 2 ^ 32) with hostOut := [BitVec.ofNat 32 x.n] }

/-- TICK_INDEX_READ (02 R108). -/
def execTickIndexRead (g : GroupId) (time : Bool) (iface : Fin 3) (s : State) : Out := .next (s.tickIndexRead g time iface)

/-- SAMPLE_COMPLETE (02 R58). -/
def execSampleComplete (c : CoreId) (stalls : Nat) (mirrorErr : Option Half) (s : State) : Out :=
  .next (s.sampleComplete c stalls mirrorErr)

end Sys2Proof.Machine
end

