-- ==== Sys2Proof/Machine/Sec.lean ====
section
/-!
DEFINITION. The security processor: boot header, image slots and bundles, minimum-version record, floors and key store, the choice of a
slot, recovery, and the operations of R651 (chapter 15; 12 R550; 13 R560).
-/

namespace Sys2Proof.Machine

open Sys2Proof

/-- An ASCII string as bytes. -/
def asciiBytes (l : List Nat) : List Byte := l.map fun n => BitVec.ofNat 8 n

/-- A number as `n` little-endian bytes. -/
def leBytes (n v : Nat) : List Byte := (List.range n).map fun k => BitVec.ofNat 8 (v / 256 ^ k)

/-! ## Events and waits -/

/-- An event of SEC: at once when MGT runs an image, else at handover (15 R661). -/
def State.secEvent (s : State) (e : Nat) : State :=
  if s.sec.phase = .run then s.raise e else { s with sec := { s.sec with events := s.sec.events ++ [e] } }

/-- SEC starts no program or erase of its structures during a brownout warning (15 R626). -/
def State.secHeld (s : State) : Bool := s.flag PWR_STATUS_BO_WARN

/-! ## Slots and state bytes (15 R630 to R633) -/

/-- A state byte, coded as SEC_BOOT.STATE (15 R632, R660). -/
def decodeState (b : Byte) : Nat :=
  if b.toNat / 16 ≠ 15 then 5
  else if !b.getLsbD 3 then 4
  else if !b.getLsbD 2 then 3
  else if !b.getLsbD 1 then 2
  else if !b.getLsbD 0 then 1
  else 0

def State.imageState (s : State) (k : Fin 2) : Nat := decodeState (s.flashByte (slotBase k))

/-- Show both state bytes (15 R660). -/
def State.showSlots (s : State) : State := (s.put SEC_BOOT_STATE_A 0 (s.imageState 0)).put SEC_BOOT_STATE_B 0 (s.imageState 1)

/-- Program a state byte (15 R630). -/
def State.putState (s : State) (k : Fin 2) (v : Byte) : State := (s.flashPut (slotBase k) v).showSlots

/-- Reject a slot: bit 7 first, then the rest (15 R631). -/
def State.rejectSlot (s : State) (k : Fin 2) : State := ((s.putState k 0x7F).putState k 0x00).secEvent 116

/-- Erase a slot, its state sector first (15 R633). -/
def State.eraseSlot (s : State) (k : Fin 2) : State :=
  ((s.flashErase (slotBase k) 4096).flashErase (slotBase k + 4096) (slotBytes - 4096)).showSlots

def State.putFail (s : State) (k : Fin 2) (code : Nat) : State :=
  if k = 0 then s.put SEC_BOOT_LAST_FAIL_A 0 code else s.put SEC_BOOT_LAST_FAIL_B 0 code

/-! ## Manifest and bundle (15 R634 to R637) -/

def State.manifest (s : State) (k : Fin 2) : List Byte := s.flashBytes (slotBase k + 4096) 1024

def manSeq (l : List Byte) : Nat := leAt l 8 8
def manEpoch (l : List Byte) : Nat := leAt l 16 4
def manVersion (l : List Byte) : Nat := leAt l 20 4
def manFlags (l : List Byte) : Nat := leAt l 24 2
def manTrial (l : List Byte) : Nat := leAt l 26 2
def manKey (l : List Byte) : Nat := leAt l 28 1
def manKeys (l : List Byte) : Nat := leAt l 29 1
def manFwOfs (l : List Byte) : Nat := leAt l 32 4
def manFwLen (l : List Byte) : Nat := leAt l 36 4
def manBsOfs (l : List Byte) : Nat := leAt l 40 4
def manBsLen (l : List Byte) : Nat := leAt l 44 4
def manPub (l : List Byte) (k : Nat) : List Byte := (l.drop (172 + 97 * k)).take 97

/-- MAGIC, version, device, reserved fields, offsets and lengths of a manifest (15 R634). -/
def manFormatOk (l : List Byte) : Bool :=
  let fe := manFwOfs l + manFwLen l
  let be := manBsOfs l + manBsLen l
  l.take 4 == asciiBytes [0x41, 0x4A, 0x42, 0x55] && leAt l 4 2 == 1 && leAt l 6 2 == 0x1648 && decide (manFlags l ≤ 3)
    && decide (manTrial l ≤ 3600) && decide (manKey l ≤ 3) && decide (manKeys l ≤ 15) && leAt l 30 2 == 0
    && manFwOfs l % 4096 == 0 && decide (4096 ≤ manFwOfs l) && decide (4 ≤ manFwLen l) && decide (manFwLen l ≤ 2097152) && manFwLen l % 4 == 0
    && manBsOfs l % 4096 == 0 && decide (4096 ≤ manBsOfs l) && (decide (fe ≤ manBsOfs l) || decide (be ≤ manFwOfs l))
    && decide (fe ≤ bundleMax) && decide (be ≤ bundleMax)
    && (manFlags l % 2 == 1 || (((l.drop 48).take 28).all (· == 0)))
    && (List.range 4).all (fun k => if (manKeys l).testBit k then (manPub l k).headD 0 == 0x04 else (manPub l k).all (· == 0))
    && (l.drop 656).all (· == 0)

/-- The public key of a manifest's slot is present and its digest is a live fuse digest (15 R636). -/
def State.manKeyOk (s : State) (l : List Byte) (k : Nat) : Bool :=
  (manKeys l).testBit k && !s.keyDead k && Config.sha384 (manPub l k) == Config.keyDigest (Fin.ofNat 4 k)

/-- The keys that SEC holds from a manifest (15 R637). -/
def State.bundleKeys (s : State) (l : List Byte) : Tab (List Byte) :=
  ((List.range 4).filter fun k => s.manKeyOk l k).map fun k => (k, manPub l k)

/-- The firmware as stored, and in clear (15 R635; encrypted firmware fails on a development unit, R654). -/
def State.fwStored (s : State) (k : Fin 2) : List Byte := let l := s.manifest k
  s.flashBytes (slotBase k + 4096 + manFwOfs l) (manFwLen l)

def State.fwPlain (s : State) (k : Fin 2) : Option (List Byte) :=
  let l := s.manifest k
  if manFlags l % 2 = 0 then some (s.fwStored k)
  else if Config.devFuse then none
  else Config.gcmOpen Config.imageKey ((l.drop 48).take 12) (l.take 48) (s.fwStored k) ((l.drop 60).take 16)

def State.bsBytes (s : State) (k : Fin 2) : List Byte := let l := s.manifest k
  s.flashBytes (slotBase k + 4096 + manBsOfs l) (manBsLen l)

/-- The first check of R636 that a slot fails (15 R636, R653). A commit leaves out the check of the state byte, which is ERASED then
(R646; log entry 43). -/
def State.bundleErr (s : State) (k : Fin 2) (commit : Bool) : Option Nat :=
  let l := s.manifest k
  let dev := Config.devFuse
  let st := s.imageState k
  let bs := s.bsBytes k
  let h := readHeader bs
  let held := { s with sec := { s.sec with pubkeys := s.bundleKeys l } }
  let early := [(!commit && (st == 0 || st == 5), 0x38), (!manFormatOk l, 0x30), (!dev && !s.manKeyOk l (manKey l), 0x32),
    (!dev && !Config.ecdsaVerify (manPub l (manKey l)) (Config.sha384 (l.take 560)) ((l.drop 560).take 96), 0x31),
    (!dev && decide (manEpoch l < s.fuseEpoch), 0x33), (!dev && decide (manVersion l < s.reg SEC_MINVER), 0x34),
    (Config.sha384 (s.fwStored k) != (l.drop 76).take 48, 0x35), ((s.fwPlain k).isNone, 0x36)]
  let late := [((bsDigest bs != (l.drop 124).take 48) || h.scope != 0 || h.seq != manSeq l || h.epoch != manEpoch l || h.version != manVersion l, 0x37)]
  let first (l : List (Bool × Nat)) : Option Nat := (l.find? fun p => p.1).map fun p => p.2
  ((first early).or ((State.containerErr held bs { boot := true }).map fun e => e.code)).or (first late)

/-! ## Structures kept in two copies with a generation (15 R638 to R640, R652; 12 R550) -/

/-- K_MV and K_WRAP (15 R624). -/
def keyMv : List Byte := Config.hmacSha256 Config.deviceKey (asciiBytes [0x41, 0x4A, 0x2D, 0x4D, 0x56])
def keyWrapKey : List Byte := Config.hmacSha256 Config.deviceKey (asciiBytes [0x41, 0x4A, 0x2D, 0x57, 0x52, 0x41, 0x50])

/-- The copy that counts, with its generation: the valid one with the higher generation, copy 0 on a tie (15 R639). -/
def countingCopy (g0 g1 : Option Nat) : Option (Fin 2 × Nat) :=
  match g0, g1 with
  | some a, some b => if a < b then some (1, b) else some (0, a)
  | some a, none => some (0, a)
  | none, some b => some (1, b)
  | none, none => none

/-- Write the copy that does not count, with the next generation (15 R640). The first write of all goes to copy 0. -/
def State.writeTwin (s : State) (base : Nat) (cur : Option (Fin 2 × Nat)) (image : Nat → List Byte) : State :=
  let (k, gen) : Nat × Nat := match cur with
    | some (c, g) => ((1 - c : Fin 2).val, g + 1)
    | none => (0, 1)
  (s.flashErase (base + 4096 * k) 4096).flashProgram (base + 4096 * k) (image gen)

/-- Generation of a minimum-version copy, if it is valid (15 R638). -/
def State.mvGen (s : State) (k : Nat) : Option Nat :=
  let l := s.flashBytes (0x2000 + 4096 * k) 64
  if l.take 4 = asciiBytes [0x41, 0x4A, 0x4D, 0x56] ∧ Config.hmacSha256 keyMv (l.take 32) = l.drop 32 then some (leAt l 4 4) else none

def State.mvCount (s : State) : Option (Fin 2 × Nat) := countingCopy (s.mvGen 0) (s.mvGen 1)

/-- The minimum version (15 R639). -/
def State.minVersion (s : State) : Nat :=
  match s.mvCount with
  | some (k, _) => leAt (s.flashBytes (0x2000 + 4096 * k.val) 64) 8 4
  | none => 0

/-- Raise the minimum version (15 R640). -/
def State.raiseMinver (s : State) (v : Nat) : State :=
  (s.writeTwin 0x2000 s.mvCount fun gen =>
    let body := asciiBytes [0x41, 0x4A, 0x4D, 0x56] ++ leBytes 4 gen ++ leBytes 4 v ++ List.replicate 20 0
    body ++ Config.hmacSha256 keyMv body).put SEC_MINVER 0 v

/-- A copy of the control-channel floors: generation, four floors, HMAC under K_MV (log entry 41). -/
def State.floorGen (s : State) (k : Nat) : Option Nat :=
  let l := s.flashBytes (0x4000 + 4096 * k) 68
  if Config.hmacSha256 keyMv (l.take 36) = l.drop 36 then some (leAt l 0 4) else none

def State.floorCount (s : State) : Option (Fin 2 × Nat) := countingCopy (s.floorGen 0) (s.floorGen 1)

/-- The stored floors; 0 where no copy is valid (12 R550). -/
def State.storedFloors (s : State) : Vector Nat 4 :=
  match s.floorCount with
  | some (k, _) => Vector.ofFn fun j => leAt (s.flashBytes (0x4000 + 4096 * k.val) 68) (4 + 8 * j.val) 8
  | none => Vector.replicate 4 0

def State.storeFloors (s : State) (f : Vector Nat 4) : State :=
  s.writeTwin 0x4000 s.floorCount fun gen =>
    let body := leBytes 4 gen ++ f.toList.flatMap fun v => leBytes 8 v
    body ++ Config.hmacSha256 keyMv body

/-- A copy of the key store: generation, then the wrapped slots: four keys, presence and LOCK bits (15 R652; log entry 41). -/
def State.storeCopy (s : State) (k : Nat) : Option (Nat × List Byte) :=
  let l := s.flashBytes (0x6000 + 4096 * k) 148
  (Config.keyUnwrap keyWrapKey (l.drop 4)).map fun p => (leAt l 0 4, p)

def State.storeCount (s : State) : Option (Fin 2 × Nat) :=
  countingCopy ((s.storeCopy 0).map fun p => p.1) ((s.storeCopy 1).map fun p => p.1)

/-- The keys and LOCK bits of the store; empty and unlocked where no copy is valid. -/
def State.storedKeys (s : State) : Vector (Option (List Byte)) 4 × Nat :=
  match s.storeCount with
  | some (k, _) =>
    let p := ((s.storeCopy k.val).map fun q => q.2).getD []
    (Vector.ofFn fun j => if (leAt p 128 1).testBit j.val then some ((p.drop (32 * j.val)).take 32) else none, leAt p 129 1 % 16)
  | none => (Vector.replicate 4 none, 0)

/-- Show the key store (15 R660). -/
def State.showKeys (s : State) : State :=
  (s.put SEC_CC_KEYS_PRESENT 0 (((List.finRange 4).map fun k => if s.sec.ccKeys[k].isSome then 2 ^ k.val else 0).sum)).put SEC_CC_KEYS_LOCKED 0 s.sec.ccLocked

def State.writeKeys (s : State) : State :=
  let keys := s.sec.ccKeys
  (s.writeTwin 0x6000 s.storeCount fun gen =>
    leBytes 4 gen ++ (Config.keyWrap keyWrapKey (keys.toList.flatMap (fun k => k.getD (List.replicate 32 0))
      ++ [BitVec.ofNat 8 (((List.finRange 4).map fun k => if keys[k].isSome then 2 ^ k.val else 0).sum), BitVec.ofNat 8 s.sec.ccLocked]
      ++ List.replicate 6 0)).take 144).showKeys

/-! ## Boot header (15 R629; 13 R559 to R561) -/

/-- MAGIC, version, reserved bytes and CRC of a copy of the boot header. -/
def headerOk (l : List Byte) : Bool :=
  l.take 4 == asciiBytes [0x41, 0x4A, 0x42, 0x48] && leAt l 4 2 == 1 && leAt l 6 2 == 0 && ((l.drop 13).take 47).all (· == 0)
    && leAt l 60 4 == (crc32c (l.take 60)).toNat && decide (leAt l 12 1 ≤ 2)

/-- SEC accepts a clock word (13 R559 to R561). The reference that SEC measures is fixed by the board (log entry 40). -/
def clockWordOk (w : Word) : Bool :=
  let ext := w.getLsbD 0
  let mode := bitsOf w.toNat 1 2
  let khz := bitsOf w.toNat 16 16
  let pfd2 := if mode = 1 then 4 * khz else if mode = 2 then khz else 2 * khz
  let m := Config.measuredKhz ext
  bitsOf w.toNat 3 13 == 0 && mode != 3 && (if ext then decide (10000 ≤ khz) && decide (khz ≤ 50000) else khz == 25000)
    && decide (10000 ≤ pfd2) && decide (pfd2 ≤ 200000) && 9600000 % pfd2 == 0
    && decide (9 * khz ≤ 10 * m) && decide (10 * m ≤ 11 * khz)

/-- SEC reads the boot header and applies its clock word: copy 0, then copy 1, then the default word (13 R560; 15 R629). -/
def State.bootHeader (s : State) : State :=
  let copy (k : Nat) : List Byte := s.flashBytes (4096 * k) 64
  let word (k : Nat) : Word := BitVec.ofNat 32 (leAt (copy k) 8 4)
  let use (k : Nat) : State := { s.putImage 0x0D0000 (word k) with sec := { s.sec with xspiMode := leAt (copy k) 12 1 } }
  if headerOk (copy 0) && clockWordOk (word 0) then use 0
  else if headerOk (copy 1) && clockWordOk (word 1) then use 1
  else
    let s := (s.putImage 0x0D0000 (BitVec.ofNat 32 (25000 * 65536))).put CLK_FAULT_CAUSE 0 1
    { s with sec := { s.sec with xspiMode := 0, events := s.sec.events ++ [108] } }

/-! ## Boot (15 R642 to R645, R649, R653) -/

/-- SEC writes its registers at the start (15 R639, R652, R660). -/
def State.secRegs (s : State) : State :=
  let dev := Config.devFuse
  let alive := (List.range 4).map fun k => if (Config.keyDigest (Fin.ofNat 4 k)).all (· == 0) then 0 else 2 ^ k
  let s := (s.putFlag SEC_STATUS_DEV 0 dev).put SEC_EPOCH_FUSE 0 s.fuseEpoch
  let s := (s.put SEC_KEYS_PRESENT 0 alive.sum).put SEC_KEYS_REVOKED 0 s.fuseRevoke
  let s := (s.putFlag SEC_STATUS_UNVERIFIED 0 dev).putFlag SEC_STATUS_KEYS_LOCKED 0 dev
  let s := if s.mvCount.isNone then (s.putFlag SEC_STATUS_MINVER_LOST 0 true).secEvent 117 else s
  let s := (s.put SEC_MINVER 0 s.minVersion).showSlots
  let s := if s.storeCount.isNone then s.secEvent 117 else s
  let (keys, locks) := s.storedKeys
  ({ s with sec := { s.sec with ccKeys := if dev then Vector.replicate 4 none else keys, ccLocked := if dev then 0 else locks } } : State).showKeys

/-- SEC starts from its ROM: its registers and run-time state go, and the boot header is read (15 R642 steps 1 and 2, R660). -/
def State.secStart (s : State) : State :=
  let s := s.resetFields fun f _ => f.by_ == .sec && f.addr != SEC_ATTEMPTS.addr
  let sec : Sec := { phase := .start, retained := s.sec.retained, since := s.cycles }
  ({ s with sec := sec } : State).bootHeader

/-- The tries of R643 and R653 in their order. -/
def State.bootTries (s : State) : List Try :=
  let seq (k : Fin 2) : Nat := manSeq (s.manifest k)
  let both : List (Fin 2) := if seq 0 < seq 1 then [1, 0] else [0, 1]
  let l : List Try :=
    if Config.devFuse then both.map fun k => { slot := k }
    else
      ((both.filter fun k => s.imageState k == 1).map fun k => { slot := k, trial := true })
      ++ ((both.filter fun k => s.imageState k == 3).map fun k => { slot := k })
      ++ (both.filter fun k => s.imageState k == 4).map fun k => { slot := k, fallback := true }
  if s.reg SEC_ATTEMPTS % 2 = 1 then l.reverse else l

/-- What SEC writes to state bytes before the first try (15 R643, R644). -/
def State.bootBytes (s : State) : State :=
  if Config.devFuse then s
  else
    let seq (s : State) (k : Fin 2) : Nat := manSeq (s.manifest k)
    let s := if s.imageState 0 = 2 then s.rejectSlot 0 else s
    let s := if s.imageState 1 = 2 then s.rejectSlot 1 else s
    let s := if s.imageState 0 = 3 ∧ s.imageState 1 = 3 then
        (if seq s 0 < seq s 1 then s.putState 0 0xF0 else if seq s 1 < seq s 0 then s.putState 1 0xF0 else (s.putState 1 0xF0).secEvent 117)
      else s
    let old (s : State) (w c : Fin 2) : Bool := s.imageState w == 1 && s.imageState c == 3 && decide (seq s w ≤ seq s c)
    let s := if old s 0 1 then s.rejectSlot 0 else s
    if old s 1 0 then s.rejectSlot 1 else s

/-- No slot boots: a recovery window opens (15 R649). -/
def State.bootFailed (s : State) : State :=
  let s := (s.count SEC_ATTEMPTS).put SEC_RCV_STATUS_STATE 0 1
  { s with sec := { s.sec with phase := .window, tries := [], since := s.cycles } }

/-- A try fails with a code of R636 or R608 (15 R636, R643). -/
def State.tryFailed (s : State) (t : Try) (code : Nat) : State :=
  let s := s.putFail t.slot code
  if t.trial then s.rejectSlot t.slot else s

/-- A slot passed: SEC installs its firmware, hides its ROM, releases MGT and the loader; the loader verifies the bitstream
(15 R642 steps 3 and 4, R637, R645). -/
def State.bootSlot (s : State) (t : Try) (rest : List Try) : State :=
  let l := s.manifest t.slot
  let fw := (s.fwPlain t.slot).getD []
  let keys := s.bundleKeys l
  let s := (s.putFail t.slot 0).put SEC_BOOT_SLOT 0 t.slot.val
  let s := (s.put64 SEC_SEQ_LO SEC_SEQ_HI 0 (manSeq l)).put SEC_VERSION 0 (manVersion l)
  let s := (s.put SEC_IMG_EPOCH 0 (manEpoch l)).put SEC_KEYS_SIGNER 0 (manKey l)
  let s := (s.put SEC_KEYS_LOADED 0 ((keys.map fun p => 2 ^ p.1).sum)).putFlag SEC_STATUS_ROM_HIDDEN 0 true
  let sec := { s.sec with
    phase := .verify t.slot t.trial t.fallback, tries := rest, running := some t.slot, minverRaise := (manFlags l).testBit 1,
    trialSeconds := if manTrial l = 0 then 60 else manTrial l, pubkeys := keys, firmware := fw,
    retained := some (fw, Config.sha384 fw, t.slot), runSince := s.cycles }
  let load : Load := { addr := slotBase t.slot + 4096 + manBsOfs l, len := manBsLen l, boot := true }
  ({ s with sec := sec, loader := { s.loader with load := some load } } : State).put LDR_STATUS_STATE 0 1

/-- Try slots in their order (15 R643). -/
def State.trySlots (s : State) : List Try → State
  | [] => s.bootFailed
  | t :: rest =>
    match s.bundleErr t.slot false with
    | some code => (s.tryFailed t code).trySlots rest
    | none => s.bootSlot t rest

/-- The sparge of the banks that lost their content starts (05 R227 to R229; 15 R642). -/
def State.startSparge (s : State) (mask : Nat) : State :=
  (List.finRange 16).foldl (fun (s : State) b =>
    if mask.testBit b.val then
      ((s.setBank b { s.bank b with mem := [] }).putFlag MEM_BANK_STATUS_SPARGING b.val true).putMaskBit MEM_STATUS_SPARGING b.val true
    else s) { s with spargeDue := 0 }

/-- SEC reaches step 3: sparge, registers, state bytes, tries. It waits while a brownout warning holds its writes (15 R626, R642). -/
def State.secChoose (s : State) : State :=
  if s.secHeld then s
  else
    let s := (s.startSparge s.spargeDue).secRegs.bootBytes
    s.trySlots s.bootTries

/-- The running slot is TRIAL (15 R644). -/
def State.inTrial (s : State) : Bool := s.flag SEC_STATUS_TRIAL

/-- The verify pass of the boot bitstream passed: handover (15 R642 step 5, R643, R661; 17 R717). -/
def State.handover (s : State) : State :=
  match s.sec.phase with
  | .verify slot trial fallback =>
    let events := s.sec.events
    let s : State := { s with sec := { s.sec with phase := .run, events := [], tries := [] } }
    let s := s.put SEC_ATTEMPTS 0 0
    let s := [1, 2, 3, 11].foldl (fun (s : State) d => s.domainUp d) s
    let s := if trial then
        let s := ((s.putState slot 0xFC).putFlag SEC_STATUS_TRIAL 0 true).put SEC_TRIAL_SECONDS 0 s.sec.trialSeconds
        ({ s with sec := { s.sec with trialSince := s.cycles } } : State).raise 116
      else if fallback then (s.putFlag SEC_STATUS_FALLBACK 0 true).raise 116
      else s
    events.foldl (fun (s : State) e => s.raise e) s
  | _ => s

/-- The loader refused the boot bitstream with a code of R608: the slot fails and the next is tried (15 R642 step 5, R644). -/
def State.bootRefused (s : State) (code : Nat) : State :=
  match s.sec.phase with
  | .verify slot trial fallback =>
    let s : State := { s with sec := { s.sec with phase := .start, running := none, firmware := [] } }
    (s.tryFailed { slot := slot, trial := trial, fallback := fallback } code).trySlots s.sec.tries
  | _ => s

/-- SEC restarts without a reset of the device, after a recovery window (15 R649, R650). -/
def State.secRestart (s : State) : State := s.secStart.secChoose

/-! ## Recovery (15 R649, R650) -/

/-- The window ends with the slot erased. -/
def State.recoveryEnd (s : State) (k : Fin 2) : State :=
  let s := (s.eraseSlot k).putFlag SEC_RCV_STATUS_ERR 0 true
  ({ s with sec := { s.sec with phase := .window, since := s.cycles } } : State).put SEC_RCV_STATUS_STATE 0 1

/-- SEC_RCV_CTL.START: the named slot is erased and a transfer begins. -/
def State.recoveryStart (s : State) : State :=
  match s.sec.phase with
  | .window =>
    if s.secHeld then s
    else
      let k : Fin 2 := Fin.ofNat 2 (s.reg SEC_RCV_CTL_SLOT)
      let s := (s.eraseSlot k).put SEC_RCV_STATUS_STATE 0 2
      { s with sec := { s.sec with phase := .receive k 0, since := s.cycles } }
  | _ => s

/-- SEC_RCV_DATA: the next word, while the bundle has room. -/
def State.recoveryData (s : State) (w : Word) : State :=
  match s.sec.phase with
  | .receive k n =>
    let s := s.put SEC_RCV_DATA 0 w.toNat
    if 4 * n < min (s.reg SEC_RCV_LEN) bundleMax then
      let s := s.flashProgram (slotBase k + 4096 + 4 * n) (leBytes 4 w.toNat)
      { s with sec := { s.sec with phase := .receive k (n + 1), since := s.cycles } }
    else { s with sec := { s.sec with since := s.cycles } }
  | _ => s

/-- Commit a slot: verify it, write WRITTEN or REJECTED, and give the code of R636 (15 R646 step 3). -/
def State.commitSlot (s : State) (k : Fin 2) : Nat × State :=
  match s.bundleErr k true with
  | none => (0, (s.putFail k 0).putState k 0xFE)
  | some code => (code, (s.putFail k code).rejectSlot k)

/-- SEC_RCV_CTL.DONE: the slot is committed and SEC restarts. -/
def State.recoveryDone (s : State) : State :=
  match s.sec.phase with
  | .receive k _ => if s.secHeld then s else (s.commitSlot k).2.secRestart
  | _ => s

def State.recoveryAbort (s : State) : State :=
  match s.sec.phase with
  | .receive k _ => if s.secHeld then s else s.recoveryEnd k
  | _ => s

/-- 10 s without a data write. -/
def State.recoveryTimeout (s : State) : State :=
  match s.sec.phase with
  | .receive k _ => if s.sec.since + 10 * 600000000 ≤ s.cycles ∧ !s.secHeld then s.recoveryEnd k else s
  | _ => s

/-- The window of 2 s ends without a transfer. -/
def State.recoveryExpiry (s : State) : State :=
  match s.sec.phase with
  | .window => if s.sec.since + 2 * 600000000 ≤ s.cycles then s.secRestart else s
  | _ => s

/-! ## Operations (15 R651, R654) -/

/-- An operation of R651. -/
inductive SecOp where
  | eraseSlot (k : Fin 2)
  | commitSlot (k : Fin 2)
  | confirm
  | raiseMinver
  | raiseEpoch
  | revoke (k : Fin 4)
  | writeHeader (clk : Word) (mode : Byte)
  | writeFloors
  | keyInstall (slot : Fin 4) (key : BitVec 256) (auth : Option (Fin 4))
  | keyLock (slot : Fin 4)
  deriving DecidableEq, Repr

/-- Its place in the table of R651. -/
def SecOp.index : SecOp → Nat
  | .eraseSlot _ => 0
  | .commitSlot _ => 1
  | .confirm => 2
  | .raiseMinver => 3
  | .raiseEpoch => 4
  | .revoke _ => 5
  | .writeHeader _ _ => 6
  | .writeFloors => 7
  | .keyInstall _ _ _ => 8
  | .keyLock _ => 9

/-- State of the running slot; 0 where none runs. -/
def State.runningState (s : State) : Nat :=
  match s.sec.running with
  | some k => s.imageState k
  | none => 0

/-- The floors that the firmware asks SEC to store (12 R550). -/
def State.askedFloors (s : State) : Vector Nat 4 := s.cc.floors.map fun f => f + 65536

/-- SEC accepts an operation (15 R651, R654). -/
def State.secAccepts (s : State) (op : SecOp) : Bool :=
  let idle (k : Fin 2) : Bool := s.sec.running != some k && s.imageState k != 2
  match op with
  | .eraseSlot k | .commitSlot k => idle k
  | .writeHeader _ _ => true
  | .confirm => !Config.devFuse && s.runningState == 2
  | .raiseMinver => !Config.devFuse && s.runningState == 3 && decide (s.reg SEC_MINVER < s.reg SEC_VERSION)
  | .raiseEpoch => !Config.devFuse && s.runningState == 3 && decide (s.fuseEpoch < min (s.reg SEC_IMG_EPOCH) 32)
  | .revoke k => !Config.devFuse && s.runningState == 3 && s.reg SEC_KEYS_SIGNER != k.val
      && (List.range 4).any fun j => j != k.val && !s.keyDead j
  | .writeFloors => !Config.devFuse && (List.finRange 4).all fun j => decide (s.storedFloors[j] ≤ s.askedFloors[j])
  | .keyInstall slot _ auth => !Config.devFuse && (!s.sec.ccLocked.testBit slot.val || auth == some slot)
  | .keyLock slot => !Config.devFuse && s.sec.ccKeys[slot].isSome

/-- The copy of the boot header that SEC rewrites: copy 1 when both agree, else the one that is not valid, else either (15 R629;
log entry 44). -/
def State.headerCopy (s : State) : Nat × State :=
  let a := s.flashBytes 0 64
  let b := s.flashBytes 4096 64
  if a = b then (1, s)
  else if headerOk a && !headerOk b then (1, s)
  else if headerOk b && !headerOk a then (0, s)
  else s.chooseNat 2

/-- What an accepted operation does, and the code of R636 of a commit (15 R625, R629, R640, R646, R647, R651). -/
def State.secDo (s : State) (op : SecOp) : Nat × State :=
  match op with
  | .eraseSlot k => (0, s.eraseSlot k)
  | .commitSlot k => s.commitSlot k
  | .confirm => match s.sec.running with
    | none => (0, s)
    | some k =>
      let s := s.putState k 0xF8
      let s := if s.imageState (1 - k) = 3 then s.putState (1 - k) 0xF0 else s
      let s := if s.sec.minverRaise && decide (s.reg SEC_MINVER < s.reg SEC_VERSION) then s.raiseMinver (s.reg SEC_VERSION) else s
      (0, ((s.putFlag SEC_STATUS_TRIAL 0 false).put SEC_TRIAL_SECONDS 0 0).raise 116)
  | .raiseMinver => (0, s.raiseMinver (s.reg SEC_VERSION))
  | .raiseEpoch =>
    let e := min (s.reg SEC_IMG_EPOCH) 32
    (0, { s.put SEC_EPOCH_FUSE 0 e with fuseEpoch := e })
  | .revoke k =>
    let s : State := { s with fuseRevoke := setBitTo s.fuseRevoke k.val true, sec := { s.sec with pubkeys := tabErase k.val s.sec.pubkeys } }
    (0, (s.put SEC_KEYS_REVOKED 0 s.fuseRevoke).putMaskBit SEC_KEYS_LOADED k.val false)
  | .writeHeader clk mode =>
    let (k, s) := s.headerCopy
    let body := asciiBytes [0x41, 0x4A, 0x42, 0x48] ++ leBytes 2 1 ++ [0, 0] ++ leBytes 4 clk.toNat ++ [mode] ++ List.replicate 47 0
    (0, (s.flashErase (4096 * k) 4096).flashProgram (4096 * k) (body ++ leBytes 4 (crc32c body).toNat))
  | .writeFloors => (0, { s.storeFloors s.askedFloors with cc := { s.cc with accepted := 0 } })
  | .keyInstall slot key _ =>
    let bytes := (List.range 32).map fun j => key.extractLsb' (8 * j) 8
    (0, ({ s with sec := { s.sec with ccKeys := s.sec.ccKeys.set slot (some bytes) } } : State).writeKeys)
  | .keyLock slot => (0, ({ s with sec := { s.sec with ccLocked := setBitTo s.sec.ccLocked slot.val true } } : State).writeKeys)

/-- MGT asks SEC for an operation: whether it was carried out, its code, and the state after it, with EV118 and a log entry
(15 R651, R661; 16 R691; log entry 42). Nothing is asked unless MGT runs an image; SEC waits during a brownout warning (R626). -/
def State.secAsk (s : State) (op : SecOp) : Option (Bool × Nat) × State :=
  if s.sec.phase ≠ .run ∨ s.secHeld then (none, s)
  else
    let ok := s.secAccepts op
    let (code, s) := if ok then s.secDo op else (0, s)
    let (w, s) := s.chooseNat (2 ^ 16)
    let (a, s) := s.chooseNat (2 ^ 32)
    (some (ok, code), (s.logAppend 0x04 w a).raise 118)

/-! ## Commands -/

/-- ERASE_SLOT (15 R646). -/
def execEraseSlot (k : Fin 2) (s : State) : Out := .next (s.secAsk (.eraseSlot k)).2

/-- COMMIT_SLOT (15 R646). -/
def execCommitSlot (k : Fin 2) (s : State) : Out := .next (s.secAsk (.commitSlot k)).2

/-- CONFIRM (15 R647). -/
def execConfirm (s : State) : Out := .next (s.secAsk .confirm).2

/-- RAISE_MINVER (15 R640). -/
def execRaiseMinver (s : State) : Out := .next (s.secAsk .raiseMinver).2

/-- RAISE_EPOCH (15 R625). -/
def execRaiseEpoch (s : State) : Out := .next (s.secAsk .raiseEpoch).2

/-- REVOKE (15 R651). -/
def execRevoke (k : Fin 4) (s : State) : Out := .next (s.secAsk (.revoke k)).2

/-- WRITE_HEADER (15 R629). -/
def execWriteHeader (clk : Word) (mode : Byte) (s : State) : Out := .next (s.secAsk (.writeHeader clk mode)).2

/-- WRITE_FLOORS (12 R550). -/
def execWriteFloors (s : State) : Out := .next (s.secAsk .writeFloors).2

/-- KEY_INSTALL (15 R651). -/
def execKeyInstall (slot : Fin 4) (key : BitVec 256) (auth : Option (Fin 4)) (s : State) : Out := .next (s.secAsk (.keyInstall slot key auth)).2

/-- KEY_LOCK (15 R651). -/
def execKeyLock (slot : Fin 4) (s : State) : Out := .next (s.secAsk (.keyLock slot)).2

/-- RECOVERY_WINDOW_EXPIRY (15 R649). -/
def execRecoveryWindowExpiry (s : State) : Out := .next s.recoveryExpiry

/-- RECOVERY_START (15 R650). -/
def execRecoveryStart (s : State) : Out := .next s.recoveryStart

/-- RECOVERY_DATA (15 R650). -/
def execRecoveryData (w : Word) (s : State) : Out := .next (s.recoveryData w)

/-- RECOVERY_DONE (15 R650). -/
def execRecoveryDone (s : State) : Out := .next s.recoveryDone

/-- RECOVERY_ABORT (15 R650). -/
def execRecoveryAbort (s : State) : Out := .next s.recoveryAbort

/-- RECOVERY_TIMEOUT (15 R650). -/
def execRecoveryTimeout (s : State) : Out := .next s.recoveryTimeout

end Sys2Proof.Machine
end

