-- ==== Sys2Proof/Machine/Loader.lean ====
section
/-!
DEFINITION. The configuration loader at work: GO, the verify pass, waiting and LOADING, the apply pass, its end, and the restore list
(14 R592 to R620; 06 R238 to R241, R276; 13 R810; 17 R716).
-/

namespace Sys2Proof.Machine

open Sys2Proof

/-! ## What a load reads -/

/-- The bitstream of a load, its record area, and its records of known types. -/
def State.loadBytes (s : State) (ld : Load) : List Byte := s.flashBytes ld.addr ld.len

def State.loadArea (s : State) (ld : Load) : RecArea := (bsRecords (s.loadBytes ld)).getD { recs := [], whole := false }

def State.loadRecs (s : State) (ld : Load) : List Rec := ((s.loadArea ld).recs.map fun p => p.1).filter fun r => knownType r.typ

/-- What the loader takes from a bitstream before it applies it (14 R593, R597; 02 R95). -/
def State.loadPlan (s : State) (ld : Load) : Load :=
  let l := s.loadBytes ld
  let h := readHeader l
  let recs := s.loadRecs ld
  let kind := loadKind h recs
  { ld with
    kind := kind, seq := h.seq, digest := bsDigest l, minpl := h.minpl, steps := loadSteps kind recs,
    zero := (ofType recs 6).flatMap fun r => (bankEntries r.words).filterMap fun e => if e.2.1 then some e.1 else none,
    remap := match kind with
      | .chamber _ => []
      | _ => s.remapOf recs }

/-- The first check of R608 that a planned load fails. -/
def State.loadError (s : State) (ld : Load) (mode : LoadMode) : Option LdrErr :=
  (s.containerErr (s.loadBytes ld) mode).or
    (let recs := s.loadRecs ld
     let t := s.afterLoad ld recs
     (s.recordErr t ld.kind (s.loadArea ld) recs).or (s.configErr t ld.kind recs))

/-- Optional records of unknown types (14 R602). -/
def State.skipCount (s : State) (ld : Load) : Nat := ((s.loadArea ld).recs.filter fun p => !knownType p.1.typ && p.1.flags.testBit 0).length

/-- A chamber load waits while a chamber sync of a core that it names runs (06 R240). -/
def State.syncWait (s : State) (ld : Load) : Bool := ld.isChamber && (namedCores (s.loadRecs ld)).any fun c => (s.core c).sync.isSome

/-- No requester reaches a bank while a sparge runs, so the apply pass waits for it (05 R229). -/
def State.sparging (s : State) : Bool := s.reg MEM_STATUS_SPARGING != 0

/-! ## Start (14 R594, R595) -/

def State.setLoad (s : State) (ld : Option Load) : State := { s with loader := { s.loader with load := ld } }

/-- A write of GO. -/
def State.loadGo (s : State) : State :=
  if s.reg LDR_STATUS_STATE != 0 then s.putFlag LDR_STATUS_GO_IGNORED 0 true
  else ((s.setLoad (some { addr := s.reg LDR_SRC_ADDR, len := s.reg LDR_SRC_LEN })).put LDR_STATUS_STATE 0 1).put LDR_STATUS_SKIPPED 0 0

/-- A load ends with a result: EV119 (14 R609, R612, R617). -/
def State.loadEnd (s : State) (result : Nat) : State :=
  (((s.setLoad none).put LDR_STATUS_STATE 0 0).put LDR_STATUS_RESULT 0 result).raise 119

/-! ## Verify pass (14 R608, R609, R612) -/

/-- LDR_ERR of a refusal; the parts that the specification leaves open are free (log entry 38). -/
def State.putErr (s : State) (e : LdrErr) : State :=
  let (idx, s) := match e.index with
    | some k => (k, s)
    | none => if e.container then (0xFFFFFF, s) else s.chooseNat (2 ^ 24)
  let (ofs, s) := match e.ofs with
    | some k => (k, s)
    | none => s.chooseNat (2 ^ 32)
  (((s.put LDR_ERR_CODE 0 e.code).put LDR_ERR_RECORD 0 idx).put LDR_ERR_OFS 0 ofs).put LDR_ERR_ARG 0 e.arg

/-- A refused load changes nothing but the loader's own registers; a boot goes on to the next slot. -/
def State.loadRefused (s : State) (ld : Load) (e : LdrErr) : State :=
  let s := (s.putErr e).loadEnd 2
  if ld.boot then s.bootRefused e.code else s

/-- The apply pass of a whole-device load starts. -/
def State.wholeBegin (s : State) (ld : Load) : State :=
  let recs := s.loadRecs ld
  let ld := { ld with before := s.beforeLoad .whole }
  (((s.loadDomains recs).beginWhole recs).setLoad (some ld)).put LDR_STATUS_STATE 0 3

/-- The apply pass of a partial load starts in LOADING: the objects of the group go (14 R612 steps 3 and 4, R613). -/
def State.partBegin (s : State) (ld : Load) (g : GroupId) : State :=
  let recs := s.loadRecs ld
  let ld := { ld with before := s.beforeLoad (.part g) }
  let s := ((s.loadDomains recs).removeGroup g recs).putFlag SE_RG_CTL_RUN g.val false
  ((s.setGroup g { s.group g with waitRamp := false }).setLoad (some ld)).put LDR_STATUS_STATE 0 3

/-- The group of a partial load has entered LOADING (14 R612). -/
def State.loadingEnter (s : State) : State :=
  match s.loader.load with
  | some ld => match ld.kind with
    | .part g => if s.reg LDR_STATUS_STATE = 2 ∧ s.rgState g = 5 then s.partBegin ld g else s
    | _ => s
  | none => s

/-- A load that passed the verify pass goes on. -/
def State.loadPassed (s : State) (ld : Load) : State :=
  let s := s.putErr { code := 0, index := some 0, ofs := some 0 }
  match ld.kind with
  | .whole => (if ld.boot then s.handover else s).wholeBegin ld
  | .chamber _ => (s.setLoad (some ld)).put LDR_STATUS_STATE 0 3
  | .part g =>
    let s := (s.setLoad (some ld)).put LDR_STATUS_STATE 0 2
    if s.fs g = 0 then (s.enterState g 5).loadingEnter else s.setGroup g { s.group g with waitRamp := true }

/-- The verify pass ends. It waits for a chamber sync (06 R240), and SEC waits with the state byte of a trial (15 R626). -/
def State.verifyComplete (s : State) : State :=
  match s.loader.load with
  | none => s
  | some ld0 =>
    let ld := s.loadPlan ld0
    let trial : Bool := match s.sec.phase with
      | .verify _ t _ => t
      | _ => false
    if s.reg LDR_STATUS_STATE != 1 || (ld.boot && trial && s.secHeld) || s.syncWait ld then s
    else
      let s := (s.putFlag LDR_STATUS_UNVERIFIED 0 Config.devFuse).putFlag LDR_STATUS_KIND 0 ld.isChamber
      let s := s.put LDR_STATUS_SKIPPED 0 (min 65535 (s.skipCount ld))
      match s.loadError ld { boot := ld.boot } with
      | some e => s.loadRefused ld e
      | none => s.loadPassed ld

/-! ## Apply pass (14 R610 to R617) -/

/-- Run the steps up to and with the next record, when it has type `typ`; the rest. -/
def State.runSteps (s : State) (ld : Load) (banks : List Nat) (typ : Nat) : List LoadStep → Option (State × List LoadStep)
  | [] => none
  | .record r :: t => if r.typ = typ then some (s.loadStep ld banks (.record r), t) else none
  | x :: t => (s.loadStep ld banks x).runSteps ld banks typ t

/-- The next record of the running apply pass is applied, when it has type `typ`. -/
def State.recordStep (s : State) (typ : Nat) : State :=
  match s.loader.load with
  | none => s
  | some ld =>
    if s.reg LDR_STATUS_STATE != 3 || s.syncWait ld || s.sparging then s
    else match s.runSteps ld (ld.banks (s.loadRecs ld)) typ ld.steps with
      | some (s, rest) => s.setLoad (some { ld with steps := rest })
      | none => s

/-- The apply pass found damage (14 R617). A chamber load leaves its group as it is (06 R238). -/
def State.loadFailed (s : State) (ld : Load) : State :=
  let off (s : State) (g : GroupId) : State :=
    let s := s.putFlag SE_RG_CTL_RUN g.val false
    if s.rgState g = 0 then s else s.enterState g 0
  (match ld.kind with
    | .whole => (List.finRange 4).foldl off s
    | .part g => off ((s.removeGroup g []).removeChanged true (some g) []) g
    | .chamber _ => s).loadEnd 4

/-- The crossfade figures of a core's chamber program against its active one (06 R276). -/
def State.xfadePasses (s : State) (g : GroupId) (c : CoreId) : Bool :=
  let x := s.core c
  let rate := s.reg SE_RG_CFG_RATE g.val
  let pl := s.reg SE_RG_CFG_MINPL g.val
  x.active.len != 0 && x.chamber.len != 0 && decide (xfadeMin x.active.len x.chamber.len rate pl ≤ budgetOf rate pl)
    && decide (x.active.stwr + x.chamber.stwr ≤ 4096) && decide (blendedStores x.active ≤ 1024) && xfadeDense x.active x.chamber
    && s.bankLoadsOk fun h => if h = g then some ((maskCores (s.reg SE_RG_STATUS_ACTIVE g.val)).map fun t =>
        s.xfadeCharges (s.core t).active (s.core t).chamber) else none

/-- A chamber load ends: CH_VERIFIED and XF_OK of the named cores; their spares receive what they received (06 R239; 02 R97). -/
def State.chamberEnd (s : State) (g : GroupId) (named : List CoreId) : State :=
  let s := named.foldl (fun (s : State) c =>
    let x := s.core c
    s.setCore c { x with prog := x.prog.set (other x.ppage) { x.chamber with verified := true } }) s
  (named.foldl (fun (s : State) c =>
    let ok := s.xfadePasses g c
    let x := s.core c
    (s.withSpare c).foldl (fun (s : State) t =>
      let y := s.core t
      let s := s.setCore t { y with
        prog := y.prog.set (other y.ppage) x.chamber, coef := y.coef.set (other y.cpage) x.coef[other x.cpage], chInit := x.chInit }
      (s.showCore t).putFlag UC_CORE_STATUS_XF_OK t.val ok) s) s).showBudgets

/-- AUTORUN of a group, as though MODE and RUN = 1 had been written (14 R611, R612 step 5, R616). -/
def State.autoRun (s : State) (ld : Load) (g : GroupId) : State :=
  let x := s.group g
  if x.autorun && !ld.noAuto then
    ((s.put SE_RG_CTL_MODE g.val x.autoMode).putFlag SE_RG_CTL_RUN g.val true).setGroup g { x with startDue := false, stopReq := false }
  else if s.rgState g = 5 then (s.putFlag SE_RG_CTL_RUN g.val false).enterState g 0
  else s

/-- Media PLLs whose family has a group start their lock when they are OFF or when the load changed them; the others are OFF
(13 R810). -/
def State.loadPlls (s : State) (old : Before) : State :=
  (List.finRange 2).foldl (fun (s : State) n =>
    let a := 0x0D0100 + 0x40 * n.val
    if (s.pllGroups n).isEmpty then s.setPllState n 0
    else if s.pllState n = 0 ∨ s.rawWord a ≠ old.plls.getD (2 * n.val) 0 ∨ s.rawWord (a + 4) ≠ old.plls.getD (2 * n.val + 1) 0 then
      s.lockStart n false false
    else s) s

/-- PWR_PL_REQ takes PL_DEFAULT (17 R716). -/
def State.defaultLevel (s : State) : State := (s.put PWR_PL_REQ_LEVEL 0 (s.reg PWR_CFG_PL_DEFAULT)).plEval

/-- The restore list after a load (14 R618). At a wake the boot bitstream takes the first place before the partial loads (R619). -/
def State.listLoad (s : State) (ld : Load) : State :=
  let e (g : Option GroupId) : RestoreEntry := { group := g, addr := ld.addr, len := ld.len, digest := ld.digest }
  if ld.restore then s
  else match ld.kind with
    | .chamber _ => s
    | .part g =>
      let l := (s.loader.list.filter fun x => x.group != some g) ++ [e (some g)]
      ({ s with loader := { s.loader with list := l } } : State).putMaskBit LDR_RESTORE_VALID g.val true
    | .whole =>
      let parts := if s.power.waking.isSome then s.loader.list.filter fun x => x.group.isSome else []
      let s : State := { s with loader := { s.loader with list := e none :: parts } }
      s.put LDR_RESTORE_VALID 0 (orBits (parts.filterMap fun x => x.group.map fun g => g.val))

/-- A wake is complete: EV114, and EV102 where a wake frame was the cause (12 R551; 17 R726). -/
def State.wakeDone (s : State) : State :=
  if s.power.waking.isNone then s
  else
    let frame := s.power.frameWake
    let s := ({ s with power := { s.power with waking := none, frameWake := false } } : State).raise 114
    if frame then s.raise 102 else s

/-- What the end of the apply pass of a whole-device or partial load does (14 R611, R612, R614). -/
def State.structuralEnd (s : State) (ld : Load) : State :=
  let s := (s.loadCores ld).foldl (fun (s : State) c => s.showCore c) s
  let s := s.loadPlls ld.before
  let s := match ld.kind with
    | .part g =>
      let s := s.unverify g ld.before
      let x := s.group g
      let s := if s.reg SE_RG_CFG_RATE g.val = ld.before.rate then s else s.setGroup g { x with begun := false, n := 0 }
      let s := if s.flag BCE_CTL_EN && !s.flag BCE_STATUS_STOPPING then
          s.jobsStart ((List.range 128).filter fun j => s.jobValid j && s.jobGroup j == g)
        else s
      s.autoRun ld g
    | _ =>
      let s := (List.finRange 4).foldl (fun (s : State) g => s.autoRun ld g) s
      (List.finRange 4).foldl (fun (s : State) (p : LinkId) => if s.flag RLK_CFG_AUTO_EN p.val then (s.domainUp 5).linkEnable p else s) s
  s.showLoads

/-- The apply pass ends: what the loader computes, AUTORUN, the restore list, RESULT = APPLIED. -/
def State.loadApplied (s : State) (ld : Load) : State :=
  let s := ld.steps.foldl (fun (s : State) x => s.loadStep ld (ld.banks (s.loadRecs ld)) x) s
  let s := match ld.kind with
    | .chamber g => s.chamberEnd g (namedCores (s.loadRecs ld))
    | _ => { s.structuralEnd ld with loader := { s.loader with remap := s.loader.remap ++ ld.remap } }
  let s := match ld.kind with
    | .whole => s.put64 LDR_BOOT_SEQ_LO LDR_BOOT_SEQ_HI 0 ld.seq
    | .part g | .chamber g => s.put64 LDR_GRP_SEQ_LO LDR_GRP_SEQ_HI g.val ld.seq
  ((s.listLoad ld).defaultLevel).loadEnd 1

/-- Work that follows a boot load: partial loads to restore at a wake, else the journal replay (06 R285; 14 R619). -/
def State.bootApplied (s : State) : State :=
  if s.loader.todo.isEmpty then s.journalReplay.wakeDone else s.put LDR_STATUS_STATE 0 4

/-- The apply pass completes: the bitstream is read again and checked (14 R610, R617). -/
def State.applyComplete (s : State) : State :=
  match s.loader.load with
  | none => s
  | some ld =>
    if s.reg LDR_STATUS_STATE != 3 || s.syncWait ld || s.sparging then s
    else
      let l := s.loadBytes ld
      if !bsDigestOk l || bsDigest l != ld.digest || (s.loadArea ld).recs.any fun p => !p.2 then s.loadFailed ld
      else
        let s := s.loadApplied ld
        if ld.boot then s.bootApplied else s

/-! ## Restore at wake (14 R619; 15 R656, R657) -/

/-- Restore one entry: whether it was applied. -/
def State.restoreEntry (s : State) (e : RestoreEntry) : Bool × State :=
  let ld := s.loadPlan { addr := e.addr, len := e.len, restore := true }
  if ld.digest != e.digest || (s.loadError ld { fast := true }).isSome then (false, s)
  else
    let s := match ld.kind with
      | .whole => s.wholeBegin ld
      | .part g => (if s.rgState g = 5 then s else s.enterState g 5).partBegin ld g
      | .chamber _ => s.setLoad (some ld)
    match s.loader.load with
    | some ld => (true, s.loadApplied ld)
    | none => (false, s)

/-- The entries in their order; a partial entry that fails is skipped. -/
def State.restoreParts (s : State) : List RestoreEntry → State
  | [] => s
  | e :: t =>
    let (ok, s) := s.restoreEntry e
    (if ok then s else match e.group with
      | some g => s.putMaskBit LDR_RESTORE_SKIP g.val true
      | none => s).restoreParts t

/-- The loader restores: the whole-device entry first; where it fails, SEC abandons the fast path and boots (15 R657). -/
def State.restore (s : State) : State :=
  if s.reg LDR_STATUS_STATE != 4 || s.sparging then s
  else
    let todo := s.loader.todo
    let s := s.put LDR_STATUS_STATE 0 0
    let finish (s : State) (parts : List RestoreEntry) : State :=
      (({ s with loader := { s.loader with todo := [] } } : State).restoreParts parts).journalReplay.wakeDone
    match todo.head? with
    | some e =>
      if e.group.isNone then
        let (ok, s) := s.restoreEntry e
        if ok then finish s (todo.drop 1)
        else
          let s : State := { s with loader := { s.loader with todo := todo.drop 1 } }
          let s := s.secStart.secEvent 117
          if s.flag CLK_STATUS_SYS_LOCK then s.secChoose else s
      else finish s todo
    | none => finish s []

/-! ## Commands -/

/-- GO (14 R594, R595). -/
def execGoLoad (s : State) : Out := .next s.loadGo

/-- VERIFY_PASS_COMPLETE (14 R610). -/
def execVerifyPassComplete (s : State) : Out := .next s.verifyComplete

/-- LOADING_ENTRY (14 R612): at a tick of the group whose ramp-down has ended, it enters LOADING. -/
def execLoadingEntry (s : State) : Out :=
  .next (match s.loader.load with
    | some ld => match ld.kind with
      | .part g => if s.reg LDR_STATUS_STATE = 2 then (s.atTick g fun _ s => s.part g .ramp fun s => s.rampTick g).loadingEnter else s
      | _ => s
    | none => s)

/-- APPLY_PASS_COMPLETE (14 R611). -/
def execApplyPassComplete (s : State) : Out := .next s.applyComplete

/-- RESTORE (14 R619). -/
def execRestore (s : State) : Out := .next s.restore

/-- DEVICE_RECORD (14 R605, R611). -/
def execDeviceRecord (s : State) : Out := .next (s.recordStep 0x01)

/-- RATEGROUP_RECORD (14 R605, R611). -/
def execRategroupRecord (s : State) : Out := .next (s.recordStep 0x02)

/-- PROGRAM_RECORD (14 R605, R611). -/
def execProgramRecord (s : State) : Out := .next (s.recordStep 0x03)

/-- COEF_RECORD (14 R605, R611). -/
def execCoefRecord (s : State) : Out := .next (s.recordStep 0x04)

/-- STATE_INIT_RECORD (14 R605, R611). -/
def execStateInitRecord (s : State) : Out := .next (s.recordStep 0x05)

/-- BANK_MAP_RECORD (14 R605, R611). -/
def execBankMapRecord (s : State) : Out := .next (s.recordStep 0x06)

/-- BANK_INIT_RECORD (14 R605, R611). -/
def execBankInitRecord (s : State) : Out := .next (s.recordStep 0x07)

/-- ROUTE_RECORD (14 R605, R611). -/
def execRouteRecord (s : State) : Out := .next (s.recordStep 0x08)

/-- PORT_RECORD (14 R605, R611). -/
def execPortRecord (s : State) : Out := .next (s.recordStep 0x09)

/-- LINK_RECORD (14 R605, R611). -/
def execLinkRecord (s : State) : Out := .next (s.recordStep 0x0A)

/-- NET_STREAM_RECORD (14 R605, R611). -/
def execNetStreamRecord (s : State) : Out := .next (s.recordStep 0x0B)

/-- TIME_RECORD (14 R605, R611). -/
def execTimeRecord (s : State) : Out := .next (s.recordStep 0x0C)

/-- BCE_JOB_RECORD (14 R605, R611). -/
def execBceJobRecord (s : State) : Out := .next (s.recordStep 0x0D)

/-- BCE_FILTER_RECORD (14 R605, R611). -/
def execBceFilterRecord (s : State) : Out := .next (s.recordStep 0x0E)

/-- PROBE_RECORD (14 R605, R611). -/
def execProbeRecord (s : State) : Out := .next (s.recordStep 0x0F)

/-- ALIGN_GROUP_RECORD (14 R605, R611). -/
def execAlignGroupRecord (s : State) : Out := .next (s.recordStep 0x10)

/-- POWER_POLICY_RECORD (14 R605, R611). -/
def execPowerPolicyRecord (s : State) : Out := .next (s.recordStep 0x11)

/-- EVENT_MAP_RECORD (14 R605, R611). -/
def execEventMapRecord (s : State) : Out := .next (s.recordStep 0x12)

/-- REG_WRITE_RECORD (14 R605, R611). -/
def execRegWriteRecord (s : State) : Out := .next (s.recordStep 0x13)

/-- SPARE_RECORD (14 R605, R611). -/
def execSpareRecord (s : State) : Out := .next (s.recordStep 0x14)

end Sys2Proof.Machine
end

