-- ==== Sys2Proof/Machine/Resets.lean ====
section
/-!
DEFINITION. Resets: what each kind keeps, clock faults, the lock of the PLLs, the trial watchdog, and the warm reset
(00 R15; 02 R94, R100, R107; 05 R206, R221, R228; 12 R531, R532; 13 R569, R572; chapter 19).
-/

namespace Sys2Proof.Machine

open Sys2Proof

/-! ## Kinds (19 R758 to R761) -/

/-- Class of a reset code: 3 = P, 2 = H, 1 = W, 0 = D (19 R758). -/
def resetClass (code : Nat) : Nat :=
  match code with
  | 1 | 2 | 0xC => 3
  | 9 => 1
  | 0xA | 0xB => 0
  | _ => 2

/-- Resets that act as the nRST pin does (19 R759). -/
def pinReset (code : Nat) : Bool := code == 3 || code == 7 || code == 8

/-- GLB_RST_HIST.SEEN takes a code (19 R761). -/
def State.resetSeen (s : State) (code : Nat) : State := if code = 1 then s.put GLB_RST_HIST_SEEN 0 1 else s.putMaskBit GLB_RST_HIST_SEEN (code - 1) true

/-- A reset is applied: GLB_RST_CAUSE, GLB_RST_HIST and the AON log (19 R761). -/
def State.resetCause (s : State) (code : Nat) : State := ((s.resetSeen code).put GLB_RST_CAUSE_LAST 0 code).logAppend 0x02 code 0

/-- The reset whose sequence runs: a P- or H-class reset until SEC has locked the SYS PLL, or a warm reset (19 R760; log entry 45). -/
def State.runningReset (s : State) : Option Nat :=
  if s.sec.phase = .held ∨ s.sec.phase = .start then some (s.reg GLB_RST_CAUSE_LAST)
  else if s.power.warm then some 9
  else none

/-! ## Time across a reset (12 R531, R532) -/

/-- Seconds of the coarse timekeeper: the counter's in S0 and S1, else its own count, within 200 ppm. -/
def State.coarseNow (s : State) : Nat × State :=
  if s.power.sleep < 2 then (s.timSec, s)
  else
    let (ppm, s) := s.chooseNat 401
    (s.coarse.1 + (s.cycles - s.coarse.2) * (999800 + ppm) / (1000000 * 600000000), s)

/-- The counter is loaded with whole seconds. -/
def State.loadTime (s : State) (sec : Nat) : State := { s.putFlag TIM_STATUS_COARSE 0 true with tim := sec * timPerSec }

/-! ## P- and H-class resets (19 R764) -/

/-- A bank keeps its content (05 R228). -/
def State.keepsBank (s : State) (code : Nat) (b : Nat) : Bool :=
  resetClass code == 2 && (!pinReset code || (s.flag PWR_CFG_RETAIN_ON_PINRST && s.maskBit MEM_RET_MASK b))

/-- Fields that show a monitor or a pin: the brownout warning, the flash writes it suspends, and the GPIO levels. -/
def liveField (f : Field) : Bool :=
  (f.addr == PWR_STATUS_BO_WARN.addr && f.lo == PWR_STATUS_BO_WARN.lo)
    || (f.addr == HST_XSPI_STATUS_SUSPENDED.addr && f.lo == HST_XSPI_STATUS_SUSPENDED.lo) || f.addr == HST_GPIO_IN.addr

/-- A field takes its reset value in a P- or H-class reset (00 R15; R761); what a monitor shows stays, but for a power-on reset. -/
def fieldResets (code : Nat) (f : Field) : Bool :=
  if liveField f then code == 1
  else match f.by_ with
  | .phd | .phwd | .ph => true
  | .p => resetClass code == 3
  | .por => code == 1
  | .sec => f.addr == SEC_ATTEMPTS.addr && (code == 1 || code == 2)
  | .never => false

/-- A bank after a reset: its content, and the map of spare rows (05 R221, R223). -/
def bankAfter (keep map : Bool) (x : Bank) : Bank := { mem := if keep then x.mem else [], remaps := if map then x.remaps else [] }

/-- A clear of the journal that a reset cuts short has zeroed some of its words (06 R287). -/
def State.cutClear (s : State) : State :=
  if s.jnlClearing then
    let (k, s) := s.chooseNat (256 * s.reg UC_JNL_CFG_SIZE)
    s.jnlZero k
  else s

/-- A P- or H-class reset; with `hold` it lasts until its cause ends (15 R642; 16 R693; 19 R764). -/
def State.hardReset (s : State) (code : Nat) (hold : Bool) : State :=
  let s := s.cutClear
  let h := resetClass code == 2
  let journal := h && s.reg UC_JNL_CFG_SIZE != 0 && s.keepsBank code (s.reg UC_JNL_CFG_BANK)
  let floors := if h then s.cc.floors else s.storedFloors
  let fresh := code == 1 || code == 2
  let (sec, s) := s.coarseNow
  let t : State := {
    pending := s.pending, cycles := s.cycles, free := s.free, regs := (s.resetFields fun f _ => fieldResets code f).regs,
    banks := Vector.ofFn fun b => bankAfter (s.keepsBank code b.val) h (s.bank b),
    replayDue := journal, spargeDue := orBits ((List.range 16).filter fun b => !s.keepsBank code b),
    cc := { floors := floors }, fuseEpoch := s.fuseEpoch, fuseRevoke := s.fuseRevoke, flash := s.flash,
    power := { wakePins := s.power.wakePins, held := if hold then some code else none },
    aonLog := if fresh then [] else s.aonLog, logPending := if fresh then 0 else s.logPending,
    sec := { phase := .held } }
  let t := (List.finRange 16).foldl (fun (t : State) b => t.showSpares b) t
  let t := (t.loadTime (if fresh then 0 else sec)).resetCause code
  let t := if fresh && s.logPending != 0 then (t.putFlag MGT_LOG_STATUS_LOST 0 true).raise 122 else t
  if hold then t else t.secStart

/-- A reset kind arises: the widest class wins, the earlier of equal class (19 R760). -/
def State.applyReset (s : State) (code : Nat) (hold : Bool) : State :=
  match s.runningReset with
  | some c => if resetClass code ≤ resetClass c then s.resetSeen code else s.hardReset code hold
  | none => s.hardReset code hold

/-- A held reset ends: SEC starts (15 R642 step 1). -/
def State.resetRelease (s : State) : State :=
  if s.sec.phase = .held then ({ s with power := { s.power with held := none } } : State).secStart else s

/-- A wake from S4 is a P-class reset (17 R723, R726); `active` are the sources that are active, `first` the first of them. -/
def State.wakeOff (s : State) (active first : Nat) : State :=
  let s := s.hardReset 0xC false
  let s := (s.put PWR_WAKE_CAUSE_ACTIVE 0 active).put PWR_WAKE_CAUSE_FIRST 0 first
  { s with power := { s.power with waking := some 4 } }

/-! ## Clock faults and locks (13 R569, R572) -/

/-- A clock fault: the SYS monitor fails, or the reference has been stopped for 100 ms. -/
def State.clockFault (s : State) (refLost : Bool) : State :=
  let due : Bool := if refLost then (match s.refStopped with
      | some t => decide (t + 100 * cyclesPerMs ≤ s.cycles)
      | none => false) else s.flag CLK_STATUS_SYS_LOCK
  if due then (s.put CLK_FAULT_CAUSE 0 (if refLost then 2 else 3)).applyReset 8 false else s

/-- The declared instant of the SYS PLL's lock, 200 microseconds after its start: SEC goes on, or the lock starts again, or the
third failure is a clock fault (13 R569; 15 R642 step 2). -/
def State.sysDeclare (s : State) (passes : Bool) : State :=
  if s.sec.phase ≠ .start ∨ s.flag CLK_STATUS_SYS_LOCK ∨ s.cycles < s.sec.since + cyclesPerMs / 5 then s
  else if passes then ({ s.putFlag CLK_STATUS_SYS_LOCK 0 true with sysAttempts := 0 } : State).secChoose
  else if s.sysAttempts < 2 then { s with sysAttempts := s.sysAttempts + 1, sec := { s.sec with since := s.cycles } }
  else (s.put CLK_FAULT_CAUSE 0 4).hardReset 8 false

/-! ## Warm reset (19 R762, R763) -/

/-- What a warm reset does to the update chamber when it is registered: armed sluices are cancelled, running glides leave their
words and write them to the journal, staged glides are freed (06 R281, R283). -/
def State.warmChamber (s : State) : State :=
  let s := (List.finRange 4).foldl (fun (s : State) g => s.sluiceDrop g 0) s
  let s := (List.finRange 16).foldl (fun (s : State) c =>
    if s.isActive c then
      (s.core c).glides.foldl (fun (s : State) e => match e.run with
        | some r => s.jnlAppend 0x3 (c.val * 2 ^ 24 + e.word.toNat) (memWord (s.core c).coef[r.page] e.word.toNat).toNat
        | none => s) s
    else s) s
  (List.finRange 16).foldl (fun (s : State) c => (s.setCore c { s.core c with glides := [] }).showGlides c) s

/-- A morph past its effect tick completes its swap, without the rest of its dip or crossfade (06 R281). -/
def State.morphFinish (s : State) (g : GroupId) : State :=
  match s.sluices[g] with
  | some u =>
    if 2 ≤ s.reg UC_SL_STATUS_STATE g.val then
      let s := if u.swapped then s else s.swapPages g (s.group g).n u
      (s.sluiceIdle g).raise 26
    else s
  | none => s

/-- A load meets a warm reset: a verify pass is aborted; a later pass goes on and ends in OFF (14 R616). -/
def State.warmLoad (s : State) : State :=
  match s.loader.load with
  | none => s
  | some ld =>
    if s.reg LDR_STATUS_STATE = 1 then s.loadEnd 3
    else if ld.isChamber then s
    else s.setLoad (some { ld with noAuto := true })

/-- A warm reset starts; it empties the mailbox queue (16 R700; 19 R762 step 1). -/
def State.warmStart (s : State) : State :=
  let s := (s.warmLoad.warmChamber).probeIdle
  let s := s.resetFields fun f _ => f.by_ == .phwd && f.addr != SE_QUAR.addr
  let s := (List.finRange 16).foldl (fun (s : State) b => (s.setBank b { s.bank b with copies := [] }).showSpares b) s
  let s := if s.reg MBX_STATUS_STATE = 1 ∨ s.reg MBX_STATUS_STATE = 2 then s.put MBX_STATUS_STATE 0 0 else s
  let sent := s.tunnel.sent.map fun m => { m with command := false }
  let bus := s.hostBus.filter fun w => w.iface != 2
  let s : State := { s with mbx := {}, hostBus := bus, tunnel := { s.tunnel with sent := sent }, power := { s.power with warm := true, warmHeld := false } }
  (List.finRange 4).foldl (fun (s : State) g => if s.rgState g = 0 then s.morphFinish g else s) s

/-- A warm reset arises: held during a sleep entry, superseded by a reset of wider class that runs (19 R760). -/
def State.warmReset (s : State) : State :=
  let s := s.resetSeen 9
  if s.sec.phase ≠ .run ∨ s.power.warm then s
  else if s.power.entry.isSome then { s with power := { s.power with warmHeld := true } }
  else s.warmStart

/-- A core in PHASE RETRYING leaves its fault sequence, and runs from the restart (18 R753). -/
def State.endRetry (s : State) (c : CoreId) : State :=
  if s.reg FLT_CORE_STATUS_PHASE c.val = 1 then
    ((s.put FLT_CORE_STATUS_PHASE c.val 0).putMaskBit FLT_STATUS_RETRYING c.val false).setCore c
      { s.core c with retrying := false, omitRetry := false }
  else s

/-- Quarantine ends, and every spare is ready with its primary's memories (02 R100, R107; 19 R762 step 3). -/
def State.warmCores (s : State) : State :=
  let s := (List.finRange 16).foldl (fun (s : State) c => s.endRetry c) s
  let s := ((List.finRange 16).filter fun c => s.maskBit SE_QUAR c.val).foldl (fun (s : State) c =>
    ((s.put SC_STATUS_STATE c.val 0).put FLT_CORE_STATUS_PHASE c.val 0).setCore c { s.core c with firstFaults := [] }) s
  let s := s.put SE_QUAR 0 0
  ((List.finRange 16).filter fun c => s.reg SC_CFG_ROLE c.val == 2 && !s.isActive c && s.reg SC_STATUS_STATE c.val != 6).foldl
    (fun (s : State) c =>
      let x := s.core (Fin.ofNat 16 (s.reg SC_CFG_PRIMARY c.val))
      (s.setCore c { s.core c with ready := true, prog := x.prog, coef := x.coef, ppage := x.ppage, cpage := x.cpage }).put SC_STATUS_STATE c.val 3) s

/-- OWNER_NOW returns to OWNER (05 R206). -/
def State.ownersBack (s : State) : State :=
  (List.finRange 16).foldl (fun (s : State) b =>
    let s := (s.put MEM_BANK_STATUS_OWNER_NOW b.val (s.reg MEM_BANK_CFG_OWNER b.val)).putFlag MEM_BANK_STATUS_RELEASED b.val false
    s.setBank b { s.bank b with releasing := false }) s

/-- The STATE_INIT records of one entry of the restore list; a partial entry that fails its DIGEST is shown as skipped (19 R763). -/
def State.reinitEntry (s : State) (e : RestoreEntry) : State :=
  let ld : Load := { addr := e.addr, len := e.len }
  let l := s.loadBytes ld
  if bsDigestOk l && bsDigest l == e.digest then
    ((ofType (s.loadRecs ld) 5).filter fun r => !r.chamber).foldl (fun (s : State) r => s.recStateInit { ld with remap := s.loader.remap } r) s
  else match e.group with
    | some g => s.putMaskBit LDR_RESTORE_SKIP g.val true
    | none => s

/-- State memory is re-initialised (19 R763). -/
def State.reinit (s : State) : State :=
  let s := (List.finRange 16).foldl (fun (s : State) c => s.setCore c { s.core c with state := [] }) s
  let s := s.loader.list.foldl (fun (s : State) e => s.reinitEntry e) s
  (List.finRange 16).foldl (fun (s : State) c =>
    if s.reg SC_CFG_ROLE c.val = 2 then s.setCore c { s.core c with state := (s.core (Fin.ofNat 16 (s.reg SC_CFG_PRIMARY c.val))).state }
    else s) s

/-- Alignment members return to normal, queues of the stream mover are emptied, headgates are closed (09 R404; 19 R762 step 4). -/
def State.warmStreams (s : State) : State :=
  let s : State := { s with chans := s.chans.map fun (p : Nat × ChanState) => (p.1, { p.2 with st := 0, fade := none, ramp := none }),
                            hgs := [], hgRamps := [], banks := s.banks.map fun x => { x with queue := x.queue.filter fun r => r.who != 16 } }
  let s := (List.range 256).foldl (fun (s : State) h => s.put STR_HG_STATUS_STATE h 0) s
  (List.range 256).foldl (fun (s : State) k => s.showAg k) s

/-- The convolution engine starts again after a warm reset (07 R332). -/
def State.warmBce (s : State) : State :=
  let s := ((s.bceIdle.tailZero).putFlag BCE_STATUS_RUN 0 false).putFlag BCE_STATUS_STOPPING 0 false
  if s.flag BCE_CTL_EN then s.bceStart else s

/-- Every group is OFF and no load keeps one from it (14 R616; 19 R762 step 2). -/
def State.warmDue (s : State) : Bool :=
  s.power.warm && s.power.sleep == 0 && ((List.finRange 4).all fun g => s.rgState g == 0)
    && !(s.reg LDR_STATUS_STATE == 2 || s.reg LDR_STATUS_STATE == 3)

/-- The rest of a warm reset (19 R762 steps 3 to 5). -/
def State.warmComplete (s : State) : State :=
  if s.warmDue then
    let s := (((s.warmCores).ownersBack).reinit).warmStreams.warmBce
    let s : State := { s.resetCause 9 with power := { s.power with warm := false } }
    (List.finRange 4).foldl (fun (s : State) g =>
      let x := s.group g
      let s := s.setGroup g { x with startDue := false, stopReq := false, muteReq := false, unmuteReq := false, pendMute := none }
      if x.autorun then (s.put SE_RG_CTL_MODE g.val x.autoMode).putFlag SE_RG_CTL_RUN g.val true else s.putFlag SE_RG_CTL_RUN g.val false) s
  else s

/-! ## Commands -/

/-- POWER_ON_RESET (19 R758). -/
def execPowerOnReset (s : State) : Out := .next (s.applyReset 1 false)

/-- NRST_PIN (19 R758; 17 R723): a pulse in S4 wakes the device. -/
def execNrstPin (s : State) : Out := .next (if s.power.sleep = 4 then s.wakeOff 0 8 else s.applyReset 3 true)

/-- HOST_FULL_RESET (19 R758). -/
def execHostFullReset (s : State) : Out := .next (s.applyReset 6 false)

/-- TRIAL_WATCHDOG (15 R644): the watchdog of an image on trial expires. -/
def execTrialWatchdog (s : State) : Out :=
  .next (if s.inTrial ∧ s.sec.trialSince + s.sec.trialSeconds * 600000000 ≤ s.cycles then s.applyReset 5 false else s)

/-- CLOCK_FAULT (13 R572). -/
def execClockFault (refLost : Bool) (s : State) : Out := .next (s.clockFault refLost)

/-- PLL_LOCK_DECLARE (13 R569): 0 SYS, 1 SP0, 2 SP1, 3 MC0, 4 MC1. -/
def execPllLockDeclare (pll : Fin 5) (passes : Bool) (s : State) : Out :=
  .next (match pll.val with
    | 0 => s.sysDeclare passes
    | 1 => s.serdesDeclare 0 passes
    | 2 => s.serdesDeclare 1 passes
    | 3 => s.mediaDeclare 0 passes
    | _ => s.mediaDeclare 1 passes)

/-- RESET_RELEASE (15 R642). -/
def execResetRelease (s : State) : Out := .next s.resetRelease

/-- WARM_RESET (19 R762). -/
def execWarmReset (s : State) : Out := .next s.warmReset

/-- WARM_RESET_COMPLETE (19 R762). -/
def execWarmResetComplete (s : State) : Out := .next s.warmComplete

end Sys2Proof.Machine
end

