-- ==== Sys2Proof/Machine/Mgt.lean ====
section
/-!
DEFINITION. The management firmware and its watchers: persistent log, sensors and thermal policy, GPIO inputs, and the
mailbox commands that need no register bus (chapter 16).
-/

namespace Sys2Proof.Machine

open Sys2Proof

/-- The management firmware runs. -/
def State.mgtRuns (s : State) : Bool := s.sec.phase == .run && s.awake

/-! ## Persistent log (16 R692, R693) -/

/-- First byte of the persistent log and its number of records: 16 sectors of 2,048 records of 32 bytes. -/
def plogBase : Nat := 0x8010000
def plogRecords : Nat := 32768
def plogSector : Nat := 0x10000

/-- The four words of an AON entry (16 R691). -/
def LogEntry.toWords (e : LogEntry) : List Word :=
  [BitVec.ofNat 32 e.sec, BitVec.ofNat 32 (e.ns % 2 ^ 30 + (if e.coarse then 2 ^ 31 else 0)),
   BitVec.ofNat 32 (e.code % 2 ^ 16 + e.kind % 256 * 2 ^ 24), BitVec.ofNat 32 e.arg]

/-- A record: the entry, its sequence, 4 reserved bytes and the CRC-32C over the first 28 bytes. -/
def plogRecord (seq : Nat) (e : LogEntry) : List Byte :=
  let body := e.toWords.flatMap wordBytes ++ leBytes 8 seq ++ leBytes 4 0
  body ++ leBytes 4 (crc32c body).toNat

/-- The bytes of a record in flash. -/
def State.plogBytes (s : State) (k : Nat) : List Byte := s.flashBytes (plogBase + 32 * k) 32

def plogBlank (l : List Byte) : Bool := l.all (· == 0xFF)

def plogOk (l : List Byte) : Bool := leAt l 28 4 == (crc32c (l.take 28)).toNat

/-- Sequence of the next record: one above the highest one held. -/
def State.plogNext (s : State) : Nat :=
  (List.range plogRecords).foldl (fun (n : Nat) k =>
    let l := s.plogBytes k
    if !plogBlank l && plogOk l then max n (leAt l 16 8 + 1) else n) 0

/-- Append records from a sequence on; a sector is erased whole before its first record is written. -/
def State.plogWrite (s : State) (seq : Nat) : List LogEntry → State
  | [] => s
  | e :: t =>
    let k := seq % plogRecords
    let s := if k % 2048 = 0 then s.flashErase (plogBase + 32 * k) plogSector else s
    (s.flashProgram (plogBase + 32 * k) (plogRecord seq e)).plogWrite (seq + 1) t

/-- The firmware copies the new AON entries; a program or erase that fails sets PLOG_FAIL and raises EV122. -/
def State.logCopy (s : State) (fails : Bool) : State :=
  if s.flashHeld || s.logPending == 0 then s
  else if fails then (s.putFlag MGT_LOG_STATUS_PLOG_FAIL 0 true).raise 122
  else { s.plogWrite s.plogNext (s.aonLog.drop (s.aonLog.length - s.logPending)) with logPending := 0 }

/-! ## Sensors (16 R686 to R690) -/

/-- A reading as a signed number. -/
def signed16 (n : Nat) : Int := (BitVec.ofNat 16 n).toInt

/-- A threshold in units of 0.125 degrees. -/
def signed8 (n : Nat) : Int := 8 * (BitVec.ofNat 8 n).toInt

/-- The thermal level after a highest temperature: rises at its thresholds, falls 3 degrees under them. -/
def thermLevel (warn hot : Int) (level : Nat) (t : Int) : Nat :=
  if hot ≤ t then 2
  else if level = 2 ∧ hot - 24 < t then 2
  else if warn ≤ t then 1
  else if 1 ≤ level ∧ warn - 24 < t then 1
  else 0

/-- What the firmware does at entry to HOT, and when it leaves HOT (16 R687; 17 R713, R732). -/
def State.thermAct (s : State) (old level : Nat) : State :=
  if level = 2 ∧ old ≠ 2 then
    match s.reg MGT_THERM_CFG_HOT_ACT with
    | 1 => ((s.put PWR_PL_MGT_LEVEL 0 s.slowest).putFlag PWR_PL_MGT_EN 0 true).plEval
    | 2 => (List.finRange 4).foldl (fun (s : State) g => s.muteHost g) s
    | _ => s
  else if old = 2 ∧ level ≠ 2 ∧ s.flag PWR_PL_MGT_EN then (s.putFlag PWR_PL_MGT_EN 0 false).plEval
  else s

/-- The thermal level changes: EV120 and a firmware record in the AON log, whose code and argument the specification leaves open. -/
def State.thermChange (s : State) (level : Nat) : State :=
  let old := s.reg MGT_THERM_STATUS_LEVEL
  if level = old then s
  else
    let (code, s) := s.chooseNat (2 ^ 16)
    let (arg, s) := s.chooseNat (2 ^ 32)
    (((s.put MGT_THERM_STATUS_LEVEL 0 level).raise 120).logAppend 0x03 code arg).thermAct old level

/-- One temperature reading. -/
def State.putTemp (s : State) (j : Nat) (t : BitVec 16) : State :=
  let s := s.put MGT_TEMP_T j t.toNat
  if signed16 (s.reg MGT_TEMP_PEAK j) < t.toInt then s.put MGT_TEMP_PEAK j t.toNat else s

/-- A supply reading lies inside its window. -/
def State.supplyInside (s : State) (j v : Nat) : Bool := decide (s.reg MGT_SUP_LIM_LO j ≤ v) && decide (v ≤ s.reg MGT_SUP_LIM_HI j)

/-- One supply reading: EV121 when it leaves its window. -/
def State.putSupply (s : State) (j : Nat) (v : BitVec 16) : State :=
  let was := s.supplyInside j (s.reg MGT_SUP_VALUE j)
  let s := s.put MGT_SUP_VALUE j v.toNat
  if was && !s.supplyInside j v.toNat then s.raise 121 else s

/-- The sensors update. -/
def State.sensorUpdate (s : State) (temps : Vector (BitVec 16) 6) (sups : Vector (BitVec 16) 8) : State :=
  if s.mgtRuns then
    let s := (List.finRange 6).foldl (fun (s : State) j => s.putTemp j.val temps[j]) s
    let s := (List.finRange 8).foldl (fun (s : State) j => s.putSupply j.val sups[j]) s
    let top := (List.finRange 6).foldl (fun (m : Int) j => max m temps[j].toInt) temps[0].toInt
    s.thermChange (thermLevel (signed8 (s.reg MGT_THERM_CFG_WARN)) (signed8 (s.reg MGT_THERM_CFG_HOT)) (s.reg MGT_THERM_STATUS_LEVEL) top)
  else s

/-- A sensor reaches the trip temperature; in S4 the comparator is off (16 R688; 17 R721). -/
def State.thermalTrip (s : State) (sensor : Fin 6) : State :=
  if s.power.sleep = 4 then s
  else (((s.putFlag MGT_THERM_STATUS_TRIPPED 0 true).put MGT_THERM_STATUS_TRIP_SENSOR 0 sensor.val).applyReset 7 true)

/-! ## GPIO inputs (16 R696) -/

/-- Function code of a GPIO pin. -/
def State.gpioFunc (s : State) (pin : Nat) : Nat := s.reg HST_GPIO_FUNC / 4 ^ pin % 4

/-- A GPIO pin is an input. -/
def State.gpioInput (s : State) (pin : Nat) : Bool := s.gpioFunc pin == 0 && !s.maskBit HST_GPIO_DIR pin

/-- The level of an input changes. -/
def State.gpioEdge (s : State) (pin : Fin 16) (level : Bool) : State :=
  if s.power.sleep = 4 ∨ s.maskBit HST_GPIO_IN pin.val = level then s
  else
    let s := s.putMaskBit HST_GPIO_IN pin.val level
    let edge := s.reg HST_GPIO_INT_EDGE / 4 ^ pin.val % 4
    let wanted := edge.testBit (if level then 0 else 1)
    if s.gpioInput pin.val && s.maskBit HST_GPIO_INT_EN pin.val && wanted then (s.putMaskBit HST_GPIO_INT_PEND pin.val true).raise 124 else s

/-! ## Mailbox commands (16 R674 to R685) -/

/-- The mailbox source's number as owner of an update (16 R682): 0 host, 1 control channel, 2 tunnel. -/
def MbxSource.kind : MbxSource → Nat
  | .host => 0
  | .control _ _ _ _ _ => 1
  | .tunnel _ _ _ => 2

/-- Commands of R677 and the sources that may send them: host, control channel, tunnel. -/
def mbxSources (cmd : Nat) : Option (List Nat) :=
  match cmd with
  | 0x0002 | 0x0003 => some [1, 2]
  | 0x0021 | 0x0030 | 0x0031 | 0x0032 | 0x0060 | 0x0061 => some [0, 1]
  | 0x0001 | 0x0010 | 0x0020 | 0x0040 | 0x0041 | 0x0042 | 0x0043 | 0x0050 | 0x0070 => some [0, 1, 2]
  | _ => none

/-- Words after the header of a request. -/
def MbxEntry.args (e : MbxEntry) : List Word := e.words.drop 1

/-- Argument `k` as a number. -/
def MbxEntry.arg (e : MbxEntry) (k : Nat) : Nat := (e.args.getD k 0).toNat

/-- The front command is worked on when it is `cmd` and its work is not done yet; a source that R677 does not mark is REFUSED. -/
def State.mbxRun (s : State) (cmd : Nat) (f : MbxEntry → State → State) : State :=
  match s.mbx.queue.head? with
  | none => s
  | some e =>
    if !s.mgtRuns || s.mbx.reply.isSome || reqCmd (e.words.headD 0) != cmd then s
    else if ((mbxSources cmd).getD []).contains e.src.kind then f e s
    else s.mbxDone stRefused []

/-- GET_INFO. -/
def State.getInfo (s : State) : State :=
  s.mbxDone stOk [s.rawWord 0x000000, Config.firmwareVersion s.sec.firmware, BitVec.ofNat 32 (s.reg SEC_SEQ_LO),
    BitVec.ofNat 32 (s.reg SEC_SEQ_HI), BitVec.ofNat 32 ((s.cycles - s.sec.runSince) / 600000000)]

/-- SENSOR_READ. -/
def State.sensorRead (s : State) : State :=
  s.mbxDone stOk (((List.range 6).map fun j => s.rawWord (0x120900 + 4 * j)) ++ (List.range 8).map fun j => s.rawWord (0x120920 + 4 * j))

/-- The records of the persistent log in the order of their sequence, from the oldest: none for one whose CRC fails. -/
def State.plogList (s : State) : List (Option (List Word)) :=
  let next := s.plogNext
  ((List.range plogRecords).map fun i => s.plogBytes ((next + i) % plogRecords)).filterMap fun l =>
    if plogBlank l then none else some (if plogOk l then some ((leWords l).take 4) else none)

/-- LOG_READ: entries counted from the oldest. A reply about the persistent log ends with the number of records skipped. -/
def State.logRead (s : State) (e : MbxEntry) : State :=
  let n := e.arg 2
  if e.args.length < 3 ∨ 1 < e.arg 0 ∨ n < 1 ∨ 62 < n then s.mbxDone stBadArg []
  else if e.arg 0 = 0 then s.mbxDone stOk (((s.aonLog.drop (e.arg 1)).take n).flatMap LogEntry.toWords)
  else
    let l := (s.plogList.drop (e.arg 1)).take n
    s.mbxDone stOk ((l.filterMap id).flatten ++ [BitVec.ofNat 32 (l.filter fun r => r.isNone).length])

/-- LOG_CLEAR: both logs. -/
def State.logClear (s : State) : State :=
  if s.flashHeld then s
  else ({ s.flashErase plogBase (16 * plogSector) with aonLog := [], logPending := 0 } : State).mbxDone stOk []

/-- FLASH_READ; a read that the flash reports as uncorrectable sets ECC_ERR and raises EV127 (16 R695). -/
def State.flashRead (s : State) (fails : Bool) (e : MbxEntry) : State :=
  let a := e.arg 0
  let n := e.arg 1
  if e.args.length < 2 ∨ n < 1 ∨ 252 < n ∨ 2 ^ 28 < a + 4 * n then s.mbxDone stBadArg []
  else if fails then (((s.putFlag HST_XSPI_STATUS_ECC_ERR 0 true).raise 127).mbxDone stFlashErr [])
  else s.mbxDone stOk (leWords (s.flashBytes a (4 * n)))

/-- FLASH_WRITE: user space only; bits only clear. -/
def State.flashWrite (s : State) (fails : Bool) (e : MbxEntry) : State :=
  let a := e.arg 0
  let ws := e.args.drop 1
  if s.flashHeld then s
  else if e.args.isEmpty then s.mbxDone stBadArg []
  else if !isUser a || decide (2 ^ 28 < a + 4 * ws.length) then s.mbxDone stProtected []
  else if fails then s.mbxDone stFlashErr []
  else (s.flashProgram a (ws.flatMap wordBytes)).mbxDone stOk []

/-- FLASH_ERASE: a sector of the user space. -/
def State.flashEraseCmd (s : State) (fails : Bool) (e : MbxEntry) : State :=
  let a := e.arg 0
  if s.flashHeld then s
  else if e.args.isEmpty ∨ a % plogSector ≠ 0 then s.mbxDone stBadArg []
  else if !isUser a then s.mbxDone stProtected []
  else if fails then s.mbxDone stFlashErr []
  else (s.flashErase a plogSector).mbxDone stOk []

/-! ### Image update (16 R682 to R685; 15 R646) -/

/-- The slot that is not running. -/
def State.updateSlot (s : State) : Fin 2 :=
  match s.sec.running with
  | some k => 1 - k
  | none => 0

/-- Another source owns the update. -/
def State.updateBusy (s : State) (e : MbxEntry) : Bool :=
  match s.update with
  | some u => u.owner != e.src.kind
  | none => false

/-- UPDATE_BEGIN. -/
def State.updateBegin (s : State) (e : MbxEntry) : State :=
  if s.updateBusy e then s.mbxDone stBusy []
  else if s.inTrial then s.mbxDone stRefused []
  else if e.args.isEmpty ∨ bundleMax < e.arg 0 then s.mbxDone stBadArg []
  else
    let k := s.updateSlot
    match s.secAsk (.eraseSlot k) with
    | (none, s) => s
    | (some (false, _), s) => s.mbxDone stRefused []
    | (some (true, _), s) =>
      ({ s with update := some { owner := e.src.kind, slot := k, len := e.arg 0, since := s.cycles } } : State).mbxDone stOk [BitVec.ofNat 32 k.val]

/-- UPDATE_DATA: words at the expected offset; the reply carries the bytes written so far. -/
def State.updateData (s : State) (fails : Bool) (e : MbxEntry) : State :=
  match s.update with
  | none => s.mbxDone stRefused []
  | some u =>
    let ws := e.args.drop 1
    if u.owner ≠ e.src.kind then s.mbxDone stBusy []
    else if s.flashHeld then s
    else
      let s : State := { s with update := some { u with since := s.cycles } }
      if e.args.isEmpty ∨ 250 < ws.length ∨ e.arg 0 ≠ u.written ∨ (u.len + 3) / 4 * 4 < u.written + 4 * ws.length then
        s.mbxDone stBadArg [BitVec.ofNat 32 u.written]
      else if fails then s.mbxDone stFlashErr []
      else
        let s := s.flashProgram (slotBase u.slot + 4096 + u.written) (ws.flatMap wordBytes)
        let n := u.written + 4 * ws.length
        ({ s with update := some { u with since := s.cycles, written := n } } : State).mbxDone stOk [BitVec.ofNat 32 n]

/-- UPDATE_COMMIT: SEC commits the slot; with REBOOT and a WRITTEN result a host full reset follows the reply. -/
def State.updateCommit (s : State) (e : MbxEntry) : State :=
  match s.update with
  | none => s.mbxDone stRefused []
  | some u =>
    if u.owner ≠ e.src.kind then s.mbxDone stBusy []
    else match s.secAsk (.commitSlot u.slot) with
      | (none, s) => s
      | (some (ok, code), s) =>
        let s : State := { s with update := none }
        let reboot : Bool := (e.arg 0).testBit 0 && ok && code == 0
        let s := s.mbxDone (if ok then stOk else stRefused) [Config.secResult 1 ok code]
        { s with mbx := { s.mbx with reboot := reboot } }

/-- UPDATE_ABORT. -/
def State.updateAbort (s : State) (e : MbxEntry) : State :=
  match s.update with
  | none => s.mbxDone stRefused []
  | some u => if u.owner ≠ e.src.kind then s.mbxDone stBusy [] else ({ s with update := none } : State).mbxDone stOk []

/-- 60 s without an update command from the owner. -/
def State.updateTimeout (s : State) : State :=
  match s.update with
  | some u => if u.since + 60 * 600000000 ≤ s.cycles then { s with update := none } else s
  | none => s

/-! ### Security operations, tunnel, reset -/

/-- The operation that a SEC_OP asks for, with its arguments in the words that follow (16 R678; log entry 42). -/
def MbxEntry.secOp (e : MbxEntry) : Option SecOp :=
  let a := e.arg 1
  let auth : Option (Fin 4) := match e.src with
    | .control _ _ _ key _ => toFin? 4 key
    | _ => none
  match Config.secOp (e.arg 0) with
  | 0 => (toFin? 2 a).map .eraseSlot
  | 1 => (toFin? 2 a).map .commitSlot
  | 2 => some .confirm
  | 3 => some .raiseMinver
  | 4 => some .raiseEpoch
  | 5 => (toFin? 4 a).map .revoke
  | 6 => some (.writeHeader (e.args.getD 1 0) (BitVec.ofNat 8 (e.arg 2)))
  | 7 => some .writeFloors
  | 8 => (toFin? 4 a).map fun k => .keyInstall k (BitVec.ofNat 256 (leNat ((e.args.drop 2).take 8 |>.flatMap wordBytes))) auth
  | 9 => (toFin? 4 a).map .keyLock
  | _ => none

/-- SEC_OP. -/
def State.secOpCmd (s : State) (e : MbxEntry) : State :=
  match e.secOp with
  | none => s.mbxDone stBadArg []
  | some op =>
    if op = .writeFloors ∨ (op.index = 8 ∧ e.src.kind ≠ 1) then s.mbxDone stRefused []
    else match s.secAsk op with
      | (none, s) => s
      | (some (ok, code), s) => s.mbxDone (if ok then stOk else stRefused) [Config.secResult op.index ok code]

/-- TUNNEL_SEND: its reply follows the ACK or the last timeout (16 R679 to R681). -/
def State.tunnelSend (s : State) (e : MbxEntry) : State :=
  if s.tunnel.sent.any fun m => m.command then s
  else if e.args.length < 3 ∨ 4096 ≤ e.arg 0 ∨ e.arg 1 < 1 ∨ 255 < e.arg 1 then s.mbxDone stBadArg []
  else s.tunSend (e.arg 0) (e.arg 1) false true (e.args.drop 2)

/-- TUNNEL_RECV. -/
def State.tunnelRecv (s : State) : State :=
  match s.tunnel.replies with
  | [] => s.mbxDone stOk []
  | l :: rest => ({ s with tunnel := { s.tunnel with replies := rest } } : State).mbxDone stOk (l.take 255)

/-- RESET: the reply is sent, then the reset is applied. -/
def State.resetCommand (s : State) (e : MbxEntry) : State :=
  match e.arg 0 with
  | 1 => (s.mbxFinish stOk []).warmReset
  | 2 => (s.mbxFinish stOk []).applyReset 6 false
  | _ => s.mbxDone stBadArg []

/-- The front command finishes: its reply goes out, and a host full reset follows where one is due (16 R675, R676, R685). -/
def State.mbxComplete (s : State) : State :=
  if !s.mgtRuns then s
  else match s.mbx.reply, s.mbx.queue.head? with
    | some (st, ws), _ =>
      let reboot := s.mbx.reboot
      let s := ({ s with mbx := { s.mbx with reboot := false } } : State).mbxFinish st ws
      if reboot then s.applyReset 6 false else s
    | none, some e => if (mbxSources (reqCmd (e.words.headD 0))).isNone then s.mbxFinish stBadCmd [] else s
    | none, none => s

/-! ## Commands -/

/-- SENSOR_UPDATE (16 R686, R687, R689). -/
def execSensorUpdate (temps : Vector (BitVec 16) 6) (sups : Vector (BitVec 16) 8) (s : State) : Out := .next (s.sensorUpdate temps sups)

/-- THERMAL_TRIP (16 R688). -/
def execThermalTrip (sensor : Fin 6) (s : State) : Out := .next (s.thermalTrip sensor)

/-- MANAGEMENT_WATCHDOG (16 R690). -/
def execManagementWatchdog (s : State) : Out := .next (if s.mgtRuns then s.applyReset 4 false else s)

/-- LOG_COPY (16 R692, R693). -/
def execLogCopy (fails : Bool) (s : State) : Out := .next (if s.mgtRuns then s.logCopy fails else s)

/-- GPIO_EDGE (16 R696). -/
def execGpioEdge (pin : Fin 16) (level : Bool) (s : State) : Out := .next (s.gpioEdge pin level)

/-- GET_INFO (16 R677). -/
def execGetInfo (s : State) : Out := .next (s.mbxRun 0x0001 fun _ (s : State) => s.getInfo)

/-- SENSOR_READ (16 R677). -/
def execSensorRead (s : State) : Out := .next (s.mbxRun 0x0010 fun _ (s : State) => s.sensorRead)

/-- LOG_READ (16 R677, R692). -/
def execLogRead (s : State) : Out := .next (s.mbxRun 0x0020 fun e (s : State) => s.logRead e)

/-- LOG_CLEAR (16 R677). -/
def execLogClear (s : State) : Out := .next (s.mbxRun 0x0021 fun _ (s : State) => s.logClear)

/-- FLASH_READ (16 R677). -/
def execFlashRead (fails : Bool) (s : State) : Out := .next (s.mbxRun 0x0030 fun e (s : State) => s.flashRead fails e)

/-- FLASH_WRITE (16 R677). -/
def execFlashWrite (fails : Bool) (s : State) : Out := .next (s.mbxRun 0x0031 fun e (s : State) => s.flashWrite fails e)

/-- FLASH_ERASE (16 R677). -/
def execFlashErase (fails : Bool) (s : State) : Out := .next (s.mbxRun 0x0032 fun e (s : State) => s.flashEraseCmd fails e)

/-- UPDATE_BEGIN (16 R683). -/
def execUpdateBegin (s : State) : Out := .next (s.mbxRun 0x0040 fun e (s : State) => s.updateBegin e)

/-- UPDATE_DATA (16 R684). -/
def execUpdateData (fails : Bool) (s : State) : Out := .next (s.mbxRun 0x0041 fun e (s : State) => s.updateData fails e)

/-- UPDATE_COMMIT (16 R685). -/
def execUpdateCommit (s : State) : Out := .next (s.mbxRun 0x0042 fun e (s : State) => s.updateCommit e)

/-- UPDATE_ABORT (16 R685). -/
def execUpdateAbort (s : State) : Out := .next (s.mbxRun 0x0043 fun e (s : State) => s.updateAbort e)

/-- UPDATE_OWNER_TIMEOUT (16 R682). -/
def execUpdateOwnerTimeout (s : State) : Out := .next s.updateTimeout

/-- SEC_OP (16 R678). -/
def execSecOp (s : State) : Out := .next (s.mbxRun 0x0050 fun e (s : State) => s.secOpCmd e)

/-- TUNNEL_SEND (16 R679). -/
def execTunnelSend (s : State) : Out := .next (s.mbxRun 0x0060 fun e (s : State) => s.tunnelSend e)

/-- TUNNEL_RECV (16 R681). -/
def execTunnelRecv (s : State) : Out := .next (s.mbxRun 0x0061 fun _ (s : State) => s.tunnelRecv)

/-- RESET (16 R677). -/
def execResetCmd (s : State) : Out := .next (s.mbxRun 0x0070 fun e (s : State) => s.resetCommand e)

/-- MAILBOX_COMMAND_COMPLETE (16 R675). -/
def execMailboxCommandComplete (s : State) : Out := .next s.mbxComplete

end Sys2Proof.Machine
end

