-- ==== Sys2Proof/Machine/Power.lean ====
section
/-!
DEFINITION. Power management: brownout, performance level requests, votes, entry to a sleep state, wake, return to sleep
(chapter 17).
-/

namespace Sys2Proof.Machine

open Sys2Proof

/-! ## Who refuses a sleep state (17 R728) -/

/-- A rate group refuses. -/
def State.groupRefuses (s : State) (g : GroupId) (stop : Bool) : Bool :=
  let st := s.rgState g
  let chamber := match s.loader.load with
    | some ld => decide (ld.kind = .chamber g)
    | none => false
  st == 5 || chamber || s.reg UC_SL_STATUS_STATE g.val != 0 || (!stop && st != 0 && st != 2)

/-- Client `i` refuses the target: its condition of R728 holds. -/
def State.refuses (s : State) (i target : Nat) (stop : Bool) : Bool :=
  match i with
  | 1 => s.update.isSome || s.flashHeld
  | 8 => !stop && (List.range 128).any fun k => s.reg NET_RX_STATUS_STATE k == 2
  | 9 => s.reg RLK_GLB_STATUS_WRAP != 0 && target == 1
  | 11 => s.inTrial && decide (2 ≤ target)
  | _ => match toFin? 4 (i - 2) with
    | some g => decide (2 ≤ i) && s.groupRefuses g stop
    | none => false

/-- DEEPEST of a client: the host's own field, else the deepest state that its condition lets it accept (17 R718, R733). -/
def State.deepest (s : State) (i : Nat) : Nat :=
  if i = 0 then s.reg PWR_VOTE_DEEPEST 0
  else ([4, 3, 2, 1].find? fun t => !s.refuses i t (s.flag PWR_SLEEP_CTL_STOP)).getD 0

/-- The first client that refuses at PREPARE (17 R727 step 1). -/
def State.prepareRefuser (s : State) (target : Nat) (stop : Bool) : Option Nat :=
  (List.range 12).find? fun i => s.refuses i target stop || (i == 0 && decide (s.deepest 0 < target))

/-- A client whose step of R727 is still to come refuses during COMMIT (17 R729). -/
def State.commitRefuser (s : State) (e : SleepEntry) : Option Nat :=
  ((if e.step ≤ 2 then [2, 3, 4, 5] else []) ++ (if e.step ≤ 4 then [8] else []) ++ [9, 1, 11]).find? fun i => s.refuses i e.target e.stop

/-! ## Refusal and rollback (17 R729, R730) -/

/-- A refusal is counted and shown: client, phase, target, result. -/
def State.noteRefusal (s : State) (client phase target result : Nat) : State :=
  let s := (s.count PWR_REFUSE_CNT).put PWR_LAST_REFUSER_CLIENT 0 client
  let s := (s.put PWR_LAST_REFUSER_PHASE 0 phase).put PWR_LAST_REFUSER_TARGET 0 target
  (s.put PWR_SLEEP_STATUS_RESULT 0 result).raise 113

/-- A group re-enters the state it held at GO, with a ramp-up. -/
def State.groupBack (s : State) (e : SleepEntry) (g : GroupId) : State :=
  let old := e.groups.getD g.val 0
  let x := s.group g
  if old = 0 then s
  else if s.rgState g = 0 then
    if s.flag SE_RG_CTL_RUN g.val then (s.put SE_RG_STATUS_MUTE_CAUSE g.val (e.causes.getD g.val 0)).enterState g old
    else s
  else
    let x := { x with stopReq := false }
    let y : Group := match x.ramp with
      | some r =>
        if !r.down then x
        else if s.rgState g = 1 ∨ s.rgState g = 3 then { x with ramp := some { r with down := false, j := turned (s.rampLen g r) r.j }, target := none }
        else { x with ramp := none, target := none, silent := s.rgState g == 4 }
      | none => x
    (s.setGroup g y).showRamp g

/-- What a sleep entry has stopped starts again. -/
def State.restartBlocks (s : State) (e : SleepEntry) : State :=
  let s := e.ports.foldl (fun (s : State) p => s.portOpen (Fin.ofNat 16 p)) s
  let s := if e.bce then s.bceEnable else s
  if e.probe then s.probeEnable else s

/-- The held level request and the held warm reset follow the end of an entry (17 R732; 19 R760). -/
def State.entryEnds (s : State) : State :=
  let s := s.plEval
  if s.power.warmHeld then s.warmStart else s

/-- The entry rolls back: the clients that have stopped restart in reverse order. -/
def State.rollback (s : State) (client : Nat) : State :=
  match s.power.entry with
  | none => s
  | some e =>
    let s : State := { s with power := { s.power with entry := none, latched := [] } }
    let s := (s.noteRefusal client 1 e.target 3).put PWR_STATUS_STATE 0 0
    let s := if 5 ≤ e.step then
        let s := e.txs.foldl (fun (s : State) k => s.txEnable k true) s
        e.rxs.foldl (fun (s : State) k => s.rxEnable k true) s
      else s
    let s := if 3 ≤ e.step then s.restartBlocks { e with ports := if 4 ≤ e.step then e.ports else [] } else s
    ((List.finRange 4).foldl (fun (s : State) g => s.groupBack e g) s).entryEnds

/-! ## Entry (17 R727) -/

/-- GO: PREPARE, then COMMIT starts. -/
def State.sleepGo (s : State) : State :=
  let target := s.reg PWR_SLEEP_CTL_STATE
  let stop := s.flag PWR_SLEEP_CTL_STOP
  if s.power.entry.isSome || s.power.sleep != 0 then s.putFlag PWR_SLEEP_STATUS_OVR 0 true
  else match s.prepareRefuser target stop with
    | some i => s.noteRefusal i 0 target 2
    | none =>
      let e : SleepEntry := {
        target := target, stop := stop,
        groups := (List.finRange 4).map fun g => s.rgState g,
        causes := (List.finRange 4).map fun g => s.reg SE_RG_STATUS_MUTE_CAUSE g.val,
        ports := (List.range 16).filter fun p => s.flag SAP_CTL_EN p,
        bce := s.flag BCE_CTL_EN, probe := s.flag PRB_CTL_EN,
        txs := (List.range 128).filter fun k => s.flag NET_TX_CTL_EN k,
        rxs := (List.range 128).filter fun k => s.flag NET_RX_CTL_EN k }
      let s := (s.put PWR_SLEEP_STATUS_RESULT 0 0).put PWR_STATUS_STATE 0 3
      let s : State := { s with power := { s.power with entry := some e, latched := [] } }
      (List.finRange 4).foldl (fun (s : State) g => if s.rgState g = 0 then s else s.setGroup g { s.group g with stopReq := true }) s

def State.setEntry (s : State) (e : SleepEntry) : State := { s with power := { s.power with entry := some e } }

/-- Ports that an entry closes: in S1 the slave ports stay open and become LOST (10 R460). -/
def State.entryPorts (s : State) (e : SleepEntry) : List Nat :=
  if e.target = 1 then e.ports.filter fun p => s.sapMaster (Fin.ofNat 16 p) else e.ports

/-- The end of an entry to S1: media clocks gate, slave ports become LOST (10 R460; 17 R727 step 4). -/
def State.enterS1 (s : State) (e : SleepEntry) : State :=
  let slaves := (e.ports.map fun p => (Fin.ofNat 16 p : PortId)).filter fun p => !s.sapMaster p
  let s := slaves.foldl (fun (s : State) p =>
    if s.sapState p = 2 then ((s.sapSet p 3).count SAP_LOST_CNT p.val).raise 75 else s) s
  let e := { e with ports := s.entryPorts e }
  let s : State := { s with power := { s.power with entry := none, saved := some e, sleep := 1, latched := [] } }
  (s.put PWR_STATUS_STATE 0 1).entryEnds

/-- Accepted requests to the banks land: writes in the order in which they would be served (05 R224). -/
def State.landBank (s : State) (b : BankId) : State :=
  let q := (s.bank b).queue
  let s := q.foldl (fun (s : State) _ =>
    match oldest? ((s.bank b).queue.filter fun r => r.write) with
    | some r => s.serveWrite b r
    | none => s) s
  s.setBank b { s.bank b with queue := [], copies := [] }

/-- Domains turn off or enter retention, and the entry window begins (17 R721, R727 step 8). -/
def State.switchOff (s : State) (e : SleepEntry) : State :=
  let s := (List.finRange 16).foldl (fun (s : State) b => s.landBank b) s
  let s := (s.busTimeout.put PWR_STATUS_DOMAINS 0 1).put PWR_STATUS_STATE 0 0
  { s with power := { s.power with sleep := e.target, demand := [], entry := some { e with step := 9, since := s.cycles } } }

/-- The step of an entry that runs; it ends when what it waits for has come. -/
def State.sleepStep (s : State) (e : SleepEntry) : State :=
  match e.step with
  | 2 => if (List.finRange 4).all fun g => s.rgState g == 0 then (s.setEntry { e with step := 3 }).probeStop.bceStop else s
  | 3 =>
    if s.probe.running || s.probe.sp.isSome || s.flag BCE_CTL_EN || s.flag BCE_STATUS_RUN || s.flag BCE_STATUS_STOPPING then s.probeStop.bceStop
    else (s.entryPorts e).foldl (fun (s : State) p => s.portClose (Fin.ofNat 16 p)) (s.setEntry { e with step := 4 })
  | 4 =>
    let l := s.entryPorts e
    if l.any fun p => s.sapState (Fin.ofNat 16 p) != 0 then l.foldl (fun (s : State) p => s.portClose (Fin.ofNat 16 p)) s
    else if e.target = 1 then s.enterS1 e
    else
      let s := e.txs.foldl (fun (s : State) k => s.txEnable k false) (s.setEntry { e with step := 5 })
      e.rxs.foldl (fun (s : State) k => s.rxEnable k false) s
  | 5 =>
    (List.finRange 4).foldl (fun (s : State) p => if s.linkSends p then s.setLink p { s.link p with leaving := 16 } else s)
      (s.setEntry { e with step := 6 })
  | 6 =>
    let l := (List.finRange 4).filter fun p => s.linkSends p
    if l.all fun p => (s.link p).leaving == 0 then l.foldl (fun (s : State) p => s.linkEnter p 0) (s.setEntry { e with step := 7 }) else s
  | 7 =>
    if s.secHeld then s
    else
      let s := (s.secAsk .writeFloors).2.logCopy false
      ({ s with coarse := (s.timSec, s.cycles) } : State).setEntry { e with step := 8 }
  | 8 => s.switchOff e
  | _ => s

/-- A sleep entry goes on by itself (17 R727 to R729). -/
def State.sleepAdvance (s : State) : State :=
  match s.power.entry with
  | none => s
  | some e =>
    match if e.step < 6 then s.commitRefuser e else none with
    | some i => s.rollback i
    | none => s.sleepStep e

/-! ## Wake (17 R723 to R726) -/

/-- A source of WAKE_SRC is enabled. -/
def State.wakeEnabled (s : State) (i : Nat) : Bool := s.maskBit PWR_CFG_WAKE_SRC i

/-- The wake lane is in 10GBASE-R mode and on watch: signal detect is its source (12 R551). -/
def State.wakeLaneBySignal (s : State) : Bool := s.flag NET_WAKE_EN && s.reg NET_LANE_CFG_MODE (s.reg NET_WAKE_LANE) == 1

/-- A level-type source is active. -/
def State.levelActive (s : State) (i : Nat) : Bool :=
  let lv := s.power.wakePins.testBit i
  match i with
  | 0 => !s.flag PWR_WAKE_CFG_MODE0 && lv == s.flag PWR_WAKE_CFG_POL0
  | 1 => !s.flag PWR_WAKE_CFG_MODE1 && lv == s.flag PWR_WAKE_CFG_POL1
  | 6 => lv && s.wakeLaneBySignal
  | _ => lv

/-- A source wakes from a sleep state: from S4 the WAKE pins alone (17 R721). -/
def wakesFrom (sleep i : Nat) : Bool := (1 ≤ sleep && sleep ≤ 3) || (sleep == 4 && decide (i < 2))

/-- The enabled sources that are active, as a mask. -/
def State.wakeActive (s : State) : Nat :=
  orBits ((List.range 7).filter fun i => s.wakeEnabled i && wakesFrom s.power.sleep i && s.levelActive i)

/-- A wake begins: its cause is recorded; from S4 it is a P-class reset (17 R723, R725, R726). -/
def State.wakeBegin (s : State) (active first : Nat) (host frame : Bool) : State :=
  let sl := s.power.sleep
  if sl = 0 ∨ s.power.waking.isSome then s
  else if sl = 4 then s.wakeOff active first
  else
    let s := ((s.put PWR_WAKE_CAUSE_ACTIVE 0 active).putFlag PWR_WAKE_CAUSE_HOST 0 host).put PWR_WAKE_CAUSE_FIRST 0 first
    let again : Option Resleep :=
      if s.flag PWR_WAKE_CFG_RESLEEP && decide (2 ≤ first) && decide (first ≤ 5) then some { target := sl, stop := s.flag PWR_SLEEP_CTL_STOP }
      else none
    { s with wakeNamed := false, power := { s.power with waking := some sl, frameWake := frame, resleep := again, latched := [] } }

/-- An event of source `i`: before step 6 of an entry it rolls the entry back; later an edge is latched, or lost in the window;
in a sleep state it wakes the device (17 R729, R731). -/
def State.wakeEvent (s : State) (i : Nat) (edge : Bool) : State :=
  if !s.wakeEnabled i then s
  else match s.power.entry with
    | some e =>
      if e.step < 6 then s.rollback 0xF
      else if edge && e.step < 9 then { s with power := { s.power with latched := s.power.latched ++ [i] } }
      else s
    | none =>
      if wakesFrom s.power.sleep i then
        s.wakeBegin (s.wakeActive ||| (if edge then 2 ^ i else 0)) i false (edge && i == 6)
      else s

/-- The entry window ends after 6 microseconds: a latched edge or an active level wakes at once (17 R731). -/
def State.windowEnds (s : State) : State :=
  match s.power.entry with
  | some e =>
    if e.step = 9 ∧ e.since + 3600 ≤ s.cycles then
      let l := s.power.latched.filter fun i => wakesFrom s.power.sleep i
      let s : State := { s with power := { s.power with entry := none, latched := [] } }
      let active := s.wakeActive
      match l.head?.or ((List.range 7).find? fun i => active.testBit i) with
      | some i => s.wakeBegin (active ||| orBits l) i false (l.contains 6)
      | none => s
    else s
  | none => s

/-- A WAKE pin takes a level. -/
def State.wakePin (s : State) (pin : Fin 2) (level : Bool) : State :=
  let old := s.power.wakePins.testBit pin.val
  let s : State := { s with power := { s.power with wakePins := setBitTo s.power.wakePins pin.val level } }
  let mode := if pin = 0 then s.flag PWR_WAKE_CFG_MODE0 else s.flag PWR_WAKE_CFG_MODE1
  if mode then (if level && !old then s.wakeEvent pin.val true else s)
  else if s.levelActive pin.val && old != level then s.wakeEvent pin.val false
  else s

/-- Signal detect of RLK0 to RLK3 or of the wake lane changes. -/
def State.signalDetect (s : State) (src : Fin 5) (present : Bool) : State :=
  let i := src.val + 2
  let s : State := { s with power := { s.power with wakePins := setBitTo s.power.wakePins i present } }
  if present && s.levelActive i then s.wakeEvent i false else s

/-- The MAC address of a lane. -/
def State.laneMac (s : State) (lane : Fin 2) : Nat := s.reg NET_LANE_MAC_LO lane.val + 2 ^ 32 * s.reg NET_LANE_MAC_HI lane.val

/-- A payload begins with six bytes of 0xFF and sixteen copies of a MAC address. -/
def wakePattern (mac : Nat) (l : List Byte) : Bool := (List.replicate 6 (0xFF : Byte) ++ (List.replicate 16 (beBytes 6 mac)).flatten).isPrefixOf l

/-- A frame on a lane is a wake frame of the wake lane (12 R551). -/
def State.isWakeFrame (s : State) (lane : Fin 2) (dst : BitVec 48) (port : Nat) (payload : List Byte) : Bool :=
  let mode := s.reg NET_LANE_CFG_MODE lane.val
  s.flag NET_WAKE_EN && s.reg NET_WAKE_LANE == lane.val && (mode == 2 || mode == 3)
    && (dst.toNat == s.laneMac lane || dst == BitVec.allOnes 48) && port == s.reg NET_WAKE_PORT && wakePattern (s.laneMac lane) payload

/-- The groups resume under R66, and what the entry to S1 stopped starts again (17 R722, R726). -/
def State.wakeS1 (s : State) : State :=
  if s.power.waking ≠ some 1 then s
  else
    let saved := s.power.saved
    let s : State := { s with power := { s.power with sleep := 0, saved := none } }
    let s := (s.put PWR_STATUS_STATE 0 0).put PWR_SLEEP_STATUS_RESULT 0 1
    let s := (List.finRange 4).foldl (fun (s : State) g => s.setGroup g { s.group g with startDue := false, stopReq := false }) s
    (match saved with
      | some e => s.restartBlocks e
      | none => s).wakeDone

/-- Fields that a wake from S2 or S3 returns to their reset values (00 R15; 19 R764). -/
def wakeResets (f : Field) : Bool :=
  (f.by_ == .phd || f.by_ == .phwd) && f.acc != .rws && !liveField f && f.addr != LDR_RESTORE_VALID.addr
    && !(f.addr == CLK_STATUS_SYS_LOCK.addr && f.lo == CLK_STATUS_SYS_LOCK.lo)

/-- The sleep walker's totals are shown, and rows that failed again are queued for sparing (05 R225, R236). -/
def State.showWalk (s : State) : State :=
  let ues := s.walkLost
  let rows := s.walkLasting
  let s := ((s.put MEM_SCRUB_STAT_CE 0 (min 65535 s.walkCe)).put MEM_SCRUB_STAT_UE 0 (min 255 ues.length)).put MEM_SCRUB_STAT_PASSES 0
    (min 255 s.walkPasses)
  let s := (List.range 16).foldl (fun (s : State) i => match ues[i]? with
    | some (b, w) => ((s.put MEM_SCRUB_UE_WORD i w).put MEM_SCRUB_UE_BANK i b.val).putFlag MEM_SCRUB_UE_VALID i true
    | none => ((s.put MEM_SCRUB_UE_WORD i 0).put MEM_SCRUB_UE_BANK i 0).putFlag MEM_SCRUB_UE_VALID i false) s
  let s : State := { s with walkCe := 0, walkPasses := 0, walkLost := [], walkLasting := [] }
  (rows.foldl (fun (s : State) (b, w) => s.startSparing b (rowOf w)) s).raise 47

/-- The D-class reset of every domain at wake from S2 or S3: registers, blocks, banks and time (05 R228; 12 R532; 17 R723; 19 R764). -/
def State.wakeReset (s : State) : State :=
  let deep := s.power.sleep
  let keeps (b : Nat) : Bool := s.maskBit MEM_RET_MASK b
  let journal := s.reg UC_JNL_CFG_SIZE != 0 && keeps (s.reg UC_JNL_CFG_BANK)
  let scrub := s.flag MEM_SCRUB_SLEEP_EN
  let (sec, s) := s.coarseNow
  let t : State := {
    pending := s.pending, cycles := s.cycles, free := s.free, regs := (s.resetFields fun f _ => wakeResets f).regs,
    banks := Vector.ofFn fun b => bankAfter (keeps b.val) true (s.bank b),
    replayDue := journal, spargeDue := orBits ((List.range 16).filter fun b => !keeps b), lateBus := s.lateBus,
    walkCe := s.walkCe, walkPasses := s.walkPasses, walkLost := s.walkLost, walkLasting := s.walkLasting,
    refStopped := s.refStopped, monitors := s.monitors,
    cc := { floors := s.cc.floors }, fuseEpoch := s.fuseEpoch, fuseRevoke := s.fuseRevoke, flash := s.flash,
    sec := s.sec, loader := { list := s.loader.list, remap := s.loader.remap },
    power := { s.power with sleep := 0, entry := none, change := none, demand := [], latched := [], warm := false },
    aonLog := s.aonLog, logPending := s.logPending, evtLogged := s.evtLogged }
  let t := (List.finRange 16).foldl (fun (t : State) b => t.showSpares b) t
  let t := (List.range 16).foldl (fun (t : State) b => t.putFlag MEM_BANK_STATUS_RETAINED b (keeps b)) t
  let t := t.startSparge t.spargeDue
  let t := (t.loadTime sec).resetCause (if deep = 2 then 0xA else 0xB)
  let t := (t.put PWR_STATUS_DOMAINS 0 (1 + 2 + 4 + 8 + 2 ^ 11)).put PWR_SLEEP_STATUS_RESULT 0 1
  let t := if scrub then t.showWalk else t
  -- media PLLs start from the shadow's settings (13 R810)
  (List.finRange 2).foldl (fun (t : State) n => if (s.pllGroups n).isEmpty then t else t.lockStart n false false) t

/-- The fast path: the retained firmware runs, and the loader restores its list (15 R656). -/
def State.fastPath (s : State) (fw : List Byte) (slot : Fin 2) : State :=
  let s := s.secRegs.bootSlot { slot := slot } []
  let s : State := { s with sec := { s.sec with firmware := fw, retained := some (fw, Config.sha384 fw, slot) } }
  let s := (s.setLoad none).handover
  let s := (s.putFlag SEC_STATUS_FAST_PATH 0 true).putFlag SEC_STATUS_FALLBACK 0 (s.imageState slot == 4)
  ({ s with loader := { s.loader with todo := s.loader.list } } : State).put LDR_STATUS_STATE 0 4

/-- SEC has restarted at a wake from S2 or S3; `ramOk` tells that its retained RAM has no uncorrectable error (15 R656, R657). -/
def State.wakeDeep (s : State) (ramOk : Bool) : State :=
  if !(s.power.waking == some 2 || s.power.waking == some 3) || !(s.power.sleep == 2 || s.power.sleep == 3) then s
  else
    let s := s.wakeReset.secStart
    match s.sec.retained with
    | some (fw, digest, slot) =>
      if ramOk && Config.sha384 fw == digest then s.fastPath fw slot
      else
        let s : State := { s with loader := { s.loader with todo := s.loader.list.filter fun x => x.group.isSome } }
        (s.secEvent 117).secChoose
    | none => (s.secEvent 117).secChoose

/-! ## Return to sleep after a link wake (17 R725) -/

/-- The watch begins when the wake is over and every enabled link port is UP. -/
def State.resleepWatch (s : State) : State :=
  match s.power.resleep with
  | some r =>
    if r.since.isNone && s.power.waking.isNone && s.power.sleep == 0
        && ((List.finRange 4).all fun p => !s.flag RLK_CTL_EN p.val || s.linkState p == 3) then
      { s with power := { s.power with resleep := some { r with since := some s.cycles } } }
    else s
  | none => s

/-- 100 ms have passed: a request that named the device keeps it in S0, else it enters again the state it left. -/
def State.resleepCheck (s : State) : State :=
  match s.power.resleep with
  | some r =>
    match r.since with
    | some t =>
      if t + 100 * cyclesPerMs ≤ s.cycles then
        let named := s.wakeNamed
        let s : State := { s with power := { s.power with resleep := none } }
        if named then s else ((s.put PWR_SLEEP_CTL_STATE 0 r.target).putFlag PWR_SLEEP_CTL_STOP 0 r.stop).sleepGo
      else s
    | none => s
  | none => s

/-! ## Brownout (17 R707 to R710) -/

/-- PWR_BO_MIN follows the minimum of VIN. -/
def State.trackVin (s : State) (mv : Nat) : State := s.put PWR_BO_MIN_MV 0 (min (s.reg PWR_BO_MIN_MV) mv)

/-- VIN falls below the warning threshold, or sinks further. -/
def State.brownoutWarning (s : State) (mv : Nat) : State :=
  if s.flag PWR_STATUS_BO_WARN then s.trackVin mv
  else
    let s := ((s.putFlag PWR_STATUS_BO_WARN 0 true).raise 112).count PWR_BO_CNT
    let s := s.trackVin mv
    let s := if s.flag PWR_CFG_BO_FLASH then s.putFlag HST_XSPI_STATUS_SUSPENDED 0 true else s
    let s := if s.flag PWR_CFG_BO_MUTE then (List.finRange 4).foldl (fun (s : State) g => s.muteHost g) s else s
    let s := if s.flag PWR_CFG_BO_DROP then s.plEval else s
    match s.power.entry with
    | some e => if e.step < 6 then s.rollback 0xE else s
    | none => s

/-- VIN has stayed above 4.40 V for 1 ms. -/
def State.brownoutClear (s : State) : State :=
  if !s.flag PWR_STATUS_BO_WARN then s
  else
    let s := ((s.putFlag PWR_STATUS_BO_WARN 0 false).putFlag HST_XSPI_STATUS_SUSPENDED 0 false).plEval
    if s.sec.phase = .start ∧ s.flag CLK_STATUS_SYS_LOCK then s.secChoose else s

/-! ## Pins -/

/-- PWR_GOOD (17 R706). -/
def State.pwrGood (s : State) : Bool := s.power.sleep != 4 && s.power.held != some 1 && s.power.held != some 2

/-- nRST_OUT is asserted: no image runs (15 R642, R649). -/
def State.nrstOut (s : State) : Bool :=
  match s.sec.phase with
  | .verify _ _ _ | .run => false
  | _ => true

/-! ## Commands -/

/-- BROWNOUT_WARNING (17 R708). -/
def execBrownoutWarning (mv : Fin 8192) (s : State) : Out := .next (s.brownoutWarning mv.val)

/-- BROWNOUT_CLEAR (17 R709). -/
def execBrownoutClear (s : State) : Out := .next s.brownoutClear

/-- BROWNOUT_RESET (17 R710). -/
def execBrownoutReset (mv : Fin 8192) (s : State) : Out := .next ((s.trackVin mv.val).applyReset 2 true)

/-- PL_REQUEST (17 R713): a reserved level leaves the field unchanged. -/
def execPlRequest (level : Fin 8) (s : State) : Out :=
  .next (if level.val ≤ 5 then (s.put PWR_PL_REQ_LEVEL 0 level.val).plEval else s)

/-- PL_CHANGE_COMPLETE (17 R712). -/
def execPlChangeComplete (s : State) : Out := .next s.plComplete

/-- A write of PWR_VOTE[0] (17 R718): a reserved DEEPEST leaves that field unchanged. -/
def State.hostVote (s : State) (w : Word) : State :=
  let s := s.put PWR_VOTE_DOMAINS 0 (PWR_VOTE_DOMAINS.bits w)
  let d := PWR_VOTE_DEEPEST.bits w
  if d ≤ 4 then s.put PWR_VOTE_DEEPEST 0 d else s

/-- HOST_VOTE (17 R718). -/
def execHostVote (w : Word) (s : State) : Out := .next (s.hostVote w)

/-- DOMAIN_DROP (17 R717). -/
def execDomainDrop (d : Fin 12) (s : State) : Out := .next (if s.power.sleep = 0 then s.domainDown d.val else s)

/-- DEMAND_HOLD_EXPIRY (17 R720). -/
def execDemandHoldExpiry (d : Fin 12) (s : State) : Out :=
  .next (match tabGet? d.val s.power.demand with
    | some t =>
      if t + s.reg PWR_DEMAND_HOLD * cyclesPerMs ≤ s.cycles then { s with power := { s.power with demand := tabErase d.val s.power.demand } }
      else s
    | none => s)

/-- A write of PWR_SLEEP_CTL with GO = 1: STATE and STOP are written together with it (17 R727). -/
def State.sleepWrite (s : State) (target : Nat) (stop : Bool) : State :=
  let s := if PWR_SLEEP_CTL_STATE.legal target then s.put PWR_SLEEP_CTL_STATE 0 target else s
  (s.putFlag PWR_SLEEP_CTL_STOP 0 stop).sleepGo

/-- SLEEP_GO (17 R727). -/
def execSleepGo (target : Fin 8) (stop : Bool) (s : State) : Out := .next (s.sleepWrite target.val stop)

/-- SLEEP_ENTRY_COMPLETE (17 R731). -/
def execSleepEntryComplete (s : State) : Out := .next s.windowEnds

/-- A write of 1 to PWR_SLEEP_CTL.WAKE (17 R724). -/
def State.hostWake (s : State) : State :=
  if s.power.sleep = 4 ∨ s.power.entry.isSome then s else s.wakeBegin s.wakeActive 7 true false

/-- SLEEP_WAKE (17 R724). -/
def execSleepWake (s : State) : Out := .next s.hostWake

/-- WAKE_PIN (17 R724). -/
def execWakePin (pin : Fin 2) (level : Bool) (s : State) : Out := .next (s.wakePin pin level)

/-- SIGNAL_DETECT_WAKE (17 R724). -/
def execSignalDetectWake (src : Fin 5) (present : Bool) (s : State) : Out := .next (s.signalDetect src present)

/-- WAKE_FRAME (12 R551). -/
def execWakeFrame (lane : Fin 2) (dst : BitVec 48) (port : Nat) (payload : List Byte) (s : State) : Out :=
  .next (if s.isWakeFrame lane dst port payload then s.wakeEvent 6 true else s)

/-- WAKE_FROM_S1 (17 R722). -/
def execWakeFromS1 (s : State) : Out := .next s.wakeS1

/-- WAKE_FROM_S2_S3 (15 R656; 17 R723). -/
def execWakeFromS2S3 (ramOk : Bool) (s : State) : Out := .next (s.wakeDeep ramOk)

/-- RESLEEP_CHECK (17 R725). -/
def execResleepCheck (s : State) : Out := .next s.resleepCheck

end Sys2Proof.Machine
end

