-- ==== Sys2Proof/Machine/Window.lean ====
section
/-!
DEFINITION. The paged memory window: shared banks and the private memory of the block convolution engine
(05 R229 to R233; 07 R317).
-/

namespace Sys2Proof.Machine

open Sys2Proof

/-- A word of private memory lies in a region that a host write may not reach: the FDL of a job that waits or runs, the spectra or
the ring of a filter that is not OFF (07 R317). -/
def State.privBusy (s : State) (w : Nat) : Bool :=
  let fdl (j : Nat) : Bool :=
    let b := s.reg BCE_JOB_FDL_BASE j
    s.jobValid j && s.reg BCE_JOB_STATUS_STATE j != 0 && s.reg BCE_JOB_FDL_LOC j == 16 && decide (b ≤ w)
      && decide (w < b + s.partWords j + (s.partIndex j 4 0 + 3) / 4)
  let flt (f : Nat) : Bool :=
    let j := s.fltJob f
    let b := s.reg BCE_FLT_SPEC_BASE f
    let r := s.reg BCE_FLT_RING_BASE f
    s.fltState f != 0
      && ((s.reg BCE_FLT_SPEC_LOC f == 16 && decide (b ≤ w) && decide (w < b + s.partWords j + (s.partIndex j 4 0 + 3) / 4))
        || (decide (r ≤ w) && decide (w < r + 2 ^ s.reg BCE_FLT_RING_RLOG2 f)))
  (List.range 128).any fun k => fdl k || flt k

/-- Word of private memory that the window shows: PAGE selects its lower or upper half (05 R231). -/
def State.privAddr (s : State) (word : Nat) : Nat := s.reg MEM_WIN_SEL_PAGE * 2 ^ 20 + word

/-- The bank that the window shows. -/
def State.winBank (s : State) : BankId := Fin.ofNat 16 (s.reg MEM_WIN_SEL_BANK)

/-- A window read, made as requester 19 (05 R229 to R232). -/
def State.winRead (s : State) (word : Nat) : Word × State :=
  if s.reg MEM_WIN_SEL_SPACE = 0 then
    let b := s.winBank
    if bankWords ≤ word then (0, s.putFlag MEM_WIN_STATUS_RANGE 0 true)
    else if s.flag MEM_BANK_STATUS_SPARGING b.val then (0, s.putFlag MEM_WIN_STATUS_SPARGE_HIT 0 true)
    else
      let s := if s.mayRead b 19 then s else s.putFlag MEM_WIN_STATUS_VIOL 0 true
      s.readAs 19 b word
  else (s.privWord (s.privAddr word), s)

/-- A window write, made as requester 19 (05 R229 to R233; 07 R317). -/
def State.winWrite (s : State) (word : Nat) (v : Word) : State :=
  if s.reg MEM_WIN_SEL_SPACE = 0 then
    let b := s.winBank
    if bankWords ≤ word then s.putFlag MEM_WIN_STATUS_RANGE 0 true
    else if s.flag MEM_BANK_STATUS_SPARGING b.val then s.putFlag MEM_WIN_STATUS_SPARGE_HIT 0 true
    else
      let s := if s.mayWrite b 19 then s else s.putFlag MEM_WIN_STATUS_VIOL 0 true
      s.writeAs 19 b word v
  else if s.privBusy (s.privAddr word) then (s.putFlag MEM_WIN_STATUS_VIOL 0 true).raise 37
  else s.privSet (s.privAddr word) v

/-- WINDOW_READ (05 R230). -/
def execWindowRead (word : BitVec 20) (s : State) : Out :=
  .next { (s.winRead word.toNat).2 with hostOut := [(s.winRead word.toNat).1] }

/-- WINDOW_WRITE (05 R233). -/
def execWindowWrite (word : BitVec 20) (v : Word) (s : State) : Out := .next (s.winWrite word.toNat v)

end Sys2Proof.Machine
end

