-- ==== Sys2Proof/Machine/RegBus.lean ====
section
/-!
DEFINITION. The host address space: what a read of a register returns, and what a landed write of it does, by its access
codes (00 R7, R10, R14; 16 R669; 20 R766 to R781).
-/

namespace Sys2Proof.Machine

open Sys2Proof

/-! ## IRQ outputs and GPIO levels (16 R696, R697; 20 R776, R778) -/

/-- An event asserts IRQ output `i`: pending, routed to it and not masked. -/
def State.irqEvent (s : State) (i e : Nat) : Bool :=
  s.maskBit EVT_PEND (e % 32) (e / 32) && (s.route e).testBit i && !s.maskBit EVT_MASK (e % 32) (4 * i + e / 32)

/-- The lowest-numbered event that asserts IRQ output `i`. -/
def State.irqVec (s : State) (i : Nat) : Option Nat := (List.range 128).find? fun e => s.irqEvent i e

/-- IRQ output `i` is asserted. -/
def State.irqAsserted (s : State) (i : Nat) : Bool := (s.irqVec i).isSome

/-- The level that IRQ pin `i` is driven to; none is a released open-drain pin (16 R697). -/
def State.irqPin (s : State) (i : Fin 4) : Option Bool :=
  let cfg := s.reg HST_IRQ_CFG_POL_OD
  let level : Bool := s.irqAsserted i.val == cfg.testBit (2 * i.val)
  if cfg.testBit (2 * i.val + 1) && !s.irqAsserted i.val then none else some level

/-- The level at a GPIO pin: an input as it was last reported, an output as it is driven (16 R696). The tick strobe, high for 100 ns,
is not represented. -/
def State.gpioLevel (s : State) (pin : Nat) : Bool :=
  match s.gpioFunc pin with
  | 0 => if s.maskBit HST_GPIO_DIR pin then s.maskBit HST_GPIO_OUT pin else s.maskBit HST_GPIO_IN pin
  | 1 => let e := s.reg HST_GPIO_SEL_EV pin
    s.maskBit EVT_PEND (e % 32) (e / 32)
  | 2 => false
  | _ => s.maskBit HST_GPIO_IN pin

/-! ## The stream mover's tables (09 R388, R398, R426, R427) -/

/-- The words of a channel descriptor. -/
def ChanDesc.word (c : ChanDesc) (k : Nat) : Nat :=
  match k with
  | 0 => c.base + c.bank.val * 2 ^ 20 + c.group.val * 2 ^ 24 + bitIf c.valid 26 + bitIf c.stampEn 27 + c.bs.val * 2 ^ 28 + bitIf c.seals 30
  | 1 => c.len
  | 2 => c.sbase
  | _ => c.reach + c.ag * 2 ^ 20 + bitIf c.agEn 28 + bitIf c.naDet 29

/-- The words of a route. -/
def Route.word (r : Route) (k : Nat) : Nat :=
  match k with
  | 0 => 1 + r.kind.val * 2 + bitIf r.hgEn 3 + r.hg * 2 ^ 4 + r.nslot * 2 ^ 12 + bitIf r.seals 15 + r.sslot * 2 ^ 16
  | 1 => r.src.toNat
  | 2 => r.snk.toNat
  | _ => r.spos

/-- The word that STR_TBL_SEL selects. -/
def State.tableWord (s : State) : Nat :=
  let i := s.reg STR_TBL_SEL_INDEX
  let k := s.reg STR_TBL_SEL_WORD
  match s.reg STR_TBL_SEL_TABLE with
  | 0 => ((tabGet? i s.ingress).map fun c => c.word k).getD 0
  | 1 => ((tabGet? i s.egress).map fun c => c.word k).getD 0
  | 2 => ((tabGet? i s.routes).map fun r => r.word k).getD 0
  | _ => match tabGet? i s.ingress with
    | some _ =>
      let x := s.chanSt i
      if k = 0 then x.st + bitIf x.naMute 2 + min 65535 x.sealFail * 2 ^ 16 else 0
    | none => 0

/-! ## Reads -/

/-- Two names of one field. -/
def Field.same (f g : Field) : Bool := f.addr == g.addr && f.lo == g.lo

/-- Fields that return what a read of their neighbour latched for the interface (16 R669). -/
def latchedFields : List Field :=
  [SE_RG_TICK_HI_INDEX_HI, SE_RG_TICK_FRAC, SE_RG_TICK_SEC_LO, SE_RG_TICK_SEC_HI, SAP_FS_SEC_LO, SAP_FS_SEC_HI, RLK_IDX_HI, TIM_FRAC, TIM_SEC_LO,
   TIM_SEC_HI]

/-- What a field reads as: fields that are computed at the read, latched fields, fields that read 0, and the rest as held. -/
def State.fieldValue (s : State) (iface : Fin 3) (f : Field) (i : Nat) : Nat :=
  if f.acc == .wo || f.acc == .w1s then 0
  else if latchedFields.any fun g => f.same g then s.latch iface f i
  else if f.same TIM_NS then s.timNs
  else if f.same SE_RG_TICK_LO_INDEX_LO then (s.groups.toList.getD i {}).n % 2 ^ 32
  else if f.same SE_RG_TICK_NS then (s.groups.toList.getD i {}).tickTim % timPerSec / timPerNs
  else if f.same PWR_VOTE_DOMAINS then s.vote i
  else if f.same PWR_VOTE_DEEPEST then (if i < 12 then s.deepest i else s.reg f i)
  else if f.same EVT_IRQ_STATUS_ASSERTED then orBits ((List.range 4).filter fun k => s.irqAsserted k)
  else if f.same EVT_IRQ_VEC_EV then (s.irqVec i).getD 0
  else if f.same EVT_IRQ_VEC_VALID then (if s.irqAsserted i then 1 else 0)
  else if f.same SEC_TRIAL_SECONDS then (if s.inTrial then s.sec.trialSeconds - (s.cycles - s.sec.trialSince) / 600000000 else 0)
  else if f.same HST_GPIO_IN then orBits ((List.range 16).filter fun k => s.gpioLevel k)
  else if f.same HST_STATUS_LATE_WR then (if s.lateBus.isEmpty then 0 else 1)
  else if f.same MBX_STATUS_READY then (if s.mgtRuns then 1 else 0)
  else if f.same MGT_LOG_STATUS_PENDING then s.logPending
  else if f.same STR_TBL_DATA then s.tableWord
  else s.reg f i

/-- The word that a read of a register returns; reserved bits read 0. -/
def State.regWord (s : State) (iface : Fin 3) (addr : Nat) : Word :=
  BitVec.ofNat 32 ((fieldsAt addr).map fun p => s.fieldValue iface p.1 p.2 * 2 ^ p.1.lo).sum

/-- What a read of a register does: companion fields are latched, UC_CW_DATA moves on (06 R244; 16 R669). -/
def State.readEffect (s : State) (iface : Fin 3) (addr : Nat) : State :=
  let out := s.hostOut
  let group (f : Field) (time : Bool) : Option State :=
    ((f.indexAt addr).bind fun i => toFin? 4 i).map fun g => { s.tickIndexRead g time iface with hostOut := out }
  match group SE_RG_TICK_LO_INDEX_LO false, group SE_RG_TICK_NS true, SAP_FS_NS.indexAt addr with
  | some t, _, _ => t
  | none, some t, _ => t
  | none, none, some i =>
    let sec := (s.ports.toList.getD i {}).stamp / timPerSec % 2 ^ 48
    (s.putLatch iface SAP_FS_SEC_LO i (sec % 2 ^ 32)).putLatch iface SAP_FS_SEC_HI i (sec / 2 ^ 32)
  | none, none, none =>
    if addr = TIM_NS.addr then { s.timeRead iface with hostOut := out }
    else if addr = RLK_IDX_LO.addr then s.putLatch iface RLK_IDX_HI 0 (s.reg RLK_IDX_HI)
    else s

/-- A read of a register. -/
def State.regRead (s : State) (iface : Fin 3) (addr : Nat) : Word × State :=
  if addr = cwDataAddr then s.chamberReadNow else (s.regWord iface addr, s.readEffect iface addr)

/-! ## Writes -/

/-- Fields whose write is an operation of its own. -/
def ownFields : List Field :=
  [SE_RG_CTL_RUN, MEM_BANK_CTL_GRANT_TO, UC_CW_DATA, BCE_CTL_EN, BCE_FLT_CTL_EN, PRB_CTL_EN, PRB_LOOP_LIM_EN, SAP_CTL_EN, SAP_MCLK_EN, SAP_MCLK_SRC, SAP_MCLK_M, RLK_CTL_EN,
   NET_LANE_CTL_EN, NET_RX_CTL_EN, NET_TX_CTL_EN, HST_GPIO_FUNC, PWR_VOTE_DOMAINS, PWR_VOTE_DEEPEST, PWR_BO_MIN_MV]

/-- Registers of a stream that accept writes only while its EN = 0 (12 R546). -/
def rxHeld : List Field :=
  [NET_RX_DST_A, NET_RX_DST_B, NET_RX_SRC_A, NET_RX_SRC_B, NET_RX_PORT_PORT_A, NET_RX_PORT_PORT_B, NET_RX_SSRC, NET_RX_TS_OFS]

def txHeld : List Field :=
  [NET_TX_DST_A, NET_TX_DST_B, NET_TX_SRC_A, NET_TX_SRC_B, NET_TX_PORT_PORT_A, NET_TX_PORT_PORT_B, NET_TX_SSRC, NET_TX_TS_OFS]

/-- A field takes a plain write now (12 R546; 15 R660; 16 R675). -/
def State.fieldOpen (s : State) (f : Field) (i : Nat) : Bool :=
  if ownFields.any fun g => f.same g then false
  else if rxHeld.any fun g => f.same g then !s.flag NET_RX_CTL_EN i
  else if txHeld.any fun g => f.same g then !s.flag NET_TX_CTL_EN i
  else if f.same MBX_REQ_WORD then s.reg MBX_STATUS_STATE != 1 && s.reg MBX_STATUS_STATE != 2
  else if f.addr / 0x10000 == 0x13 then (match s.sec.phase with
    | .window | .receive _ _ => true
    | _ => false)
  else true

/-- One field takes its bits of a written word, by its access code; a reserved value leaves it as it was (00 R10, R14). -/
def State.writeField (s : State) (w : Word) (f : Field) (i : Nat) : State :=
  let v := f.bits w
  if !s.fieldOpen f i then s
  else match f.acc with
    | .rw => if f.legal v then s.put f i v else s
    | .w1c => s.put f i (s.reg f i - (s.reg f i &&& v))
    | _ => s

/-- The fields of a register take their bits. -/
def State.writeFields (s : State) (addr : Nat) (w : Word) : State :=
  (fieldsAt addr).foldl (fun (s : State) p => s.writeField w p.1 p.2) s

/-- Do `k` with the element and the written value when the register holds field `f`. -/
def State.onField (s : State) (f : Field) (addr : Nat) (w : Word) (k : Nat → Nat → State → State) : State :=
  match f.indexAt addr with
  | some i => k i (f.bits w) s
  | none => s

/-- As `onField`, when the written bit is 1. -/
def State.onBit (s : State) (f : Field) (addr : Nat) (w : Word) (k : Nat → State → State) : State :=
  s.onField f addr w fun i v s => if v = 0 then s else k i s

/-- What a write does in SE, SC, MEM and UC (chapters 02, 05, 06). A write of UC_SL_CTL with ARM and CANCEL is ignored (06 R252). -/
def State.writeEngine (s : State) (a : Nat) (w : Word) : State :=
  let s := s.onField SE_RG_CTL_RUN a w fun i v (s : State) =>
    let g := Fin.ofNat 4 i
    if v = 1 then (if s.flag SE_RG_CTL_RUN i then s else s.runStart g) else s.runStop g
  let s := s.onBit SE_RG_CTL_UNMUTE a w fun i (s : State) => s.unmute (Fin.ofNat 4 i)
  let s := s.onBit SE_RG_CTL_MUTE a w fun i (s : State) => s.muteHost (Fin.ofNat 4 i)
  let s := s.onBit SC_CTL_TAKEOVER a w fun i (s : State) => s.takeoverAsk (Fin.ofNat 16 i)
  let s := s.onBit SC_CTL_CLR_PEAK a w fun i (s : State) => s.clrPeak (Fin.ofNat 16 i)
  let s := s.onField MEM_BANK_CTL_GRANT_TO a w fun i v (s : State) => s.bankCtl (Fin.ofNat 16 i) (w.getLsbD 0) (w.getLsbD 1) v
  let s := s.onBit MEM_BANK_QCLR_CLR a w fun i (s : State) => s.qwaitClear (Fin.ofNat 16 i)
  let s := s.onField UC_CW_DATA a w fun _ _ (s : State) => s.chamberWriteNow w
  let s := s.onField UC_GL_TARGET a w fun _ _ (s : State) => s.glideStage w
  let s := s.onBit UC_BC_CTL_GO a w fun _ (s : State) => s.bcOriginate
  let s := s.onBit UC_JNL_CTL_CLEAR a w fun _ (s : State) => s.journalClear
  let s := s.onBit UC_SL_CTL_ARM a w fun i (s : State) => if w.getLsbD 1 then s else s.sluiceArm (Fin.ofNat 4 i)
  s.onBit UC_SL_CTL_CANCEL a w fun i (s : State) => if w.getLsbD 0 then s else s.sluiceCancel (Fin.ofNat 4 i)

/-- What a write does in BCE, PRB, STR and SAP (chapters 07 to 10). -/
def State.writeStreams (s : State) (a : Nat) (w : Word) : State :=
  let s := s.onField BCE_CTL_EN a w fun _ v (s : State) => if v = 1 then s.bceEnable else s.bceStop
  let s := s.onField BCE_FLT_CTL_EN a w fun i v (s : State) => if v = 1 then s.fltEnable i else s.fltDisable i
  let s := s.onBit BCE_SWAP_GO a w fun _ (s : State) => s.fltSwap
  let s := s.onField PRB_CTL_EN a w fun _ v (s : State) => if v = 1 then s.probeEnable else s.probeStop
  let s := s.onField PRB_LOOP_LIM_EN a w fun i v (s : State) => s.loopEnable i (v == 1)
  let s := s.onField STR_HG_CTL_OPEN a w fun i _ (s : State) => s.hgCtl i (w.getLsbD 0) (w.getLsbD 1) (w.getLsbD 2)
  let s := s.onField SAP_CTL_EN a w fun i v (s : State) => if v = 1 then s.portOpen (Fin.ofNat 16 i) else s.portClose (Fin.ofNat 16 i)
  s.onField SAP_MCLK_EN a w fun i _ (s : State) => s.mclkWrite i w

/-- What a write does in RLK, NET and TIM (chapters 11, 12). A write of TIM_CTL with STEP and SET is ignored (12 R514). -/
def State.writeLinks (s : State) (a : Nat) (w : Word) : State :=
  let s := s.onField RLK_CTL_EN a w fun i v (s : State) =>
    let p := Fin.ofNat 4 i
    if v = 1 then s.linkEnable p else if s.flag RLK_CTL_EN i then s.linkDisable p else s
  let s := s.onBit RLK_CTL_WAKE a w fun i (s : State) => s.linkWake (Fin.ofNat 4 i)
  let s := s.onBit RLK_CTL_CLR a w fun i (s : State) => s.delayClear (Fin.ofNat 4 i)
  let s := s.onBit RLK_GLB_CTL_UNWRAP a w fun _ (s : State) => s.unwrapWrite
  let s := s.onBit RLK_GLB_CTL_WAKE_GO a w fun _ (s : State) => s.wakeGo
  let s := s.onBit TIM_CTL_STEP a w fun _ (s : State) => if w.getLsbD 1 then s else s.hostStep
  let s := s.onBit TIM_CTL_SET a w fun _ (s : State) => if w.getLsbD 0 then s else s.hostSet
  let s := s.onField NET_LANE_CTL_EN a w fun i v (s : State) =>
    if s.flag NET_LANE_CTL_EN i = (v == 1) then s else s.laneEnable (Fin.ofNat 2 i) (v == 1)
  let s := s.onField NET_RX_CTL_EN a w fun i v (s : State) => s.rxEnable i (v == 1)
  s.onField NET_TX_CTL_EN a w fun i v (s : State) => s.txEnable i (v == 1)

/-- Events that are reserved (09 R430; 10 R463; 12 R558; 20 R773). -/
def reservedEvent (e : Nat) : Bool := [67, 68, 69, 70, 71, 78, 79, 100, 103, 107].contains e

/-- EVT_FORCE with GO = 1 (20 R779). -/
def State.eventForce (s : State) (e : Nat) : State := if reservedEvent e then s else s.raiseWith e true

/-- HST_RST: a write with its key resets (16 R700; 19 R758, R762). -/
def State.hostReset (s : State) (w : Word) : State :=
  if HST_RST_KEY.bits w ≠ 0xA5 then s
  else match HST_RST_KIND.bits w with
    | 1 => s.warmReset
    | 2 => s.applyReset 6 false
    | _ => s

/-- The function of each GPIO pin; a reserved code leaves a pin's field unchanged (00 R10; 16 R696). -/
def State.gpioWrite (s : State) (w : Word) : State :=
  s.put HST_GPIO_FUNC 0 ((List.range 16).map fun k =>
    let v := w.toNat / 4 ^ k % 4
    (if v = 3 then s.gpioFunc k else v) * 4 ^ k).sum

/-- What a write does in LDR, SEC, HST, MGT, PWR and EVT (chapters 14 to 17, 20). -/
def State.writeSystem (s : State) (a : Nat) (w : Word) : State :=
  let s := s.onBit LDR_CTL_GO a w fun _ (s : State) => s.loadGo
  let s := s.onBit SEC_RCV_CTL_START a w fun _ (s : State) => s.recoveryStart
  let s := s.onBit SEC_RCV_CTL_DONE a w fun _ (s : State) => s.recoveryDone
  let s := s.onBit SEC_RCV_CTL_ABORT a w fun _ (s : State) => s.recoveryAbort
  let s := s.onField SEC_RCV_DATA a w fun _ _ (s : State) => s.recoveryData w
  let s := s.onField HST_RST_KEY a w fun _ _ (s : State) => s.hostReset w
  let s := s.onField HST_GPIO_FUNC a w fun _ _ (s : State) => s.gpioWrite w
  let s := s.onBit MBX_CTL_GO a w fun _ (s : State) => s.mailboxGo
  let s := s.onField PWR_PL_REQ_LEVEL a w fun _ v (s : State) => if v ≤ 5 then s.plEval else s
  let s := s.onField PWR_VOTE_DOMAINS a w fun i _ (s : State) => if i = 0 then s.hostVote w else s
  let s := s.onField PWR_BO_MIN_MV a w fun _ v (s : State) => if v = 0 then s else s.put PWR_BO_MIN_MV 0 0x1FFF
  let s := s.onBit PWR_SLEEP_CTL_GO a w fun _ (s : State) => s.sleepGo
  let s := s.onBit PWR_SLEEP_CTL_WAKE a w fun _ (s : State) => s.hostWake
  s.onBit EVT_FORCE_GO a w fun _ (s : State) => s.eventForce (s.reg EVT_FORCE_EV)

/-- A host write to a register lands: its fields take their bits, then what the write starts starts. -/
def State.regWrite (s : State) (addr : Nat) (w : Word) : State :=
  ((((s.writeFields addr w).writeEngine addr w).writeStreams addr w).writeLinks addr w).writeSystem addr w

/-! ## The address space (20 R766 to R770) -/

/-- Register blocks, the window, or nothing. -/
inductive BusRegion where
  | registers
  | window (word : Nat)
  | unmapped
  deriving DecidableEq, Repr

def regionOf (addr : Nat) : BusRegion :=
  if addr < 0x140000 then .registers
  else if 0x400000 ≤ addr ∧ addr < 0x800000 then .window ((addr - 0x400000) / 4)
  else .unmapped

/-- An access to an unmapped address: the first one is captured (20 R769). -/
def State.busError (s : State) (iface : Fin 3) (write : Bool) (addr : Nat) : State :=
  if s.flag GLB_BUS_ERR_UNMAPPED ∨ iface = 2 then s
  else
    let s := (s.putFlag GLB_BUS_ERR_UNMAPPED 0 true).put GLB_BUS_ERR_IFACE 0 iface.val
    (s.putFlag GLB_BUS_ERR_WRITE 0 write).put GLB_BUS_ADDR 0 addr

/-- One word is read. -/
def State.busRead (s : State) (iface : Fin 3) (addr : Nat) : Word × State :=
  match regionOf addr with
  | .registers => s.regRead iface (addr / 4 * 4)
  | .window w => s.winRead w
  | .unmapped => (0, s.busError iface false addr)

/-- One word is written. -/
def State.busWrite (s : State) (iface : Fin 3) (addr : Nat) (v : Word) : State :=
  match regionOf addr with
  | .registers => s.regWrite (addr / 4 * 4) v
  | .window w => s.winWrite w v
  | .unmapped => s.busError iface true addr

/-! ## Domains that are off (17 R720) -/

/-- The power domain of a bus address; the window reaches PD11 or, for private memory, PD9. -/
def State.busDomain (s : State) (addr : Nat) : Nat :=
  match regionOf addr with
  | .registers => domainOf addr
  | .window _ => if s.reg MEM_WIN_SEL_SPACE = 0 then 11 else 9
  | .unmapped => 0

/-- A domain that is off can be woken by an access: in S0 or S1, while no sleep entry has passed its step 6. -/
def State.canWake (s : State) : Bool :=
  decide (s.power.sleep ≤ 1) && match s.power.entry with
    | some e => decide (e.step < 6)
    | none => true

/-- An access to an address can be made, at once or after a wake of its domain. -/
def State.reachable (s : State) (addr : Nat) : Bool := s.domainOn (s.busDomain addr) || s.canWake

/-- An access to a domain: one that is off wakes by a demand vote, which lasts from the last access on. -/
def State.touch (s : State) (d : Nat) : State :=
  if (!s.domainOn d && s.canWake) || s.demanded d then { s with power := { s.power with demand := tabSet d s.cycles s.power.demand } } else s

/-! ## Commands -/

/-- REGISTER_WRITE (00 R14; 17 R720): a domain that is off wakes before the write lands. -/
def execRegisterWrite (addr : BitVec 24) (v : Word) (s : State) : Out :=
  let d := s.busDomain addr.toNat
  .next (if s.domainOn d then (s.touch d).busWrite 2 addr.toNat v
    else if s.canWake then ((s.touch d).domainUp d).busWrite 2 addr.toNat v
    else { s with lateBus := s.lateBus ++ [{ write := true, addr := addr.toNat, data := v }] })

/-- EVENT_FORCE (20 R779): a write of EVT_FORCE with EV and GO = 1. -/
def execEventForce (ev : Fin 128) (s : State) : Out := .next ((s.put EVT_FORCE_EV 0 ev.val).eventForce ev.val)

/-- EVENT_CLEAR (20 R774). -/
def execEventClear (w : Fin 4) (mask : Word) (s : State) : Out :=
  .next (s.put EVT_PEND w.val (s.reg EVT_PEND w.val - (s.reg EVT_PEND w.val &&& mask.toNat)))

end Sys2Proof.Machine
end

