-- ==== Sys2Proof/Machine/Host.lean ====
section
/-!
DEFINITION. The host interfaces: words served in order of arrival, QSPI transactions, I2C transfers (16 R662 to R673).
-/

namespace Sys2Proof.Machine

open Sys2Proof

/-! ## Words in order of arrival (16 R667, R673) -/

/-- A word waits for its chamber (06 R245). -/
def State.chamberHolds (s : State) (w : BusWord) : Bool :=
  w.addr / 4 * 4 == cwDataAddr &&
    (if w.write then !s.flag UC_CW_SEL_PAGE && s.chamberBusy (s.reg UC_CW_SEL_CORES) else s.chamberBusy s.readCore)

/-- The target of a word is ready (06 R245; 17 R720). -/
def State.wordReady (s : State) (w : BusWord) : Bool := s.domainOn (s.busDomain w.addr) && !s.chamberHolds w

/-- A word read for an interface is delivered. -/
def State.deliverWord (s : State) (iface : Fin 4) (v : Word) : State :=
  match iface with
  | 0 => match s.qspi with
    | some q => { s with qspi := some { q with words := q.words ++ [v] } }
    | none => s
  | 1 => { s with i2cOut := s.i2cOut ++ [v] }
  | 2 => { s with remoteOut := s.remoteOut ++ [v] }
  | 3 => { s with hostOut := [v] }

/-- The latches and error captures of an interface: QSPI, I2C, or another source (16 R669; 20 R769). -/
def latchOf (iface : Fin 4) : Fin 3 := if iface = 0 then 0 else if iface = 1 then 1 else 2

/-- One word is served. -/
def State.serveWord (s : State) (w : BusWord) : State :=
  let s := s.touch (s.busDomain w.addr)
  if w.write then s.busWrite (latchOf w.iface) w.addr w.data
  else
    let r := s.busRead (latchOf w.iface) w.addr
    r.2.deliverWord w.iface r.1

/-- Words are served from the front until one has to wait. -/
def State.serveWords : Nat → State → State
  | 0, s => s
  | n + 1, s => match s.hostBus with
    | [] => s
    | w :: t => if s.wordReady w then State.serveWords n (({ s with hostBus := t } : State).serveWord w) else s.touch (s.busDomain w.addr)

/-- The QSPI transaction ends once none of its words waits. -/
def State.qspiSettle (s : State) : State :=
  match s.qspi with
  | some q => if s.hostBus.any fun w => w.iface == 0 then s else s.qspiEnd q.write q.crc 0x80 q.words
  | none => s

/-- Serve what can be served. -/
def State.busDrain (s : State) : State := (s.serveWords s.hostBus.length).qspiSettle

/-- An access arrives: words of an earlier timeout land before it (16 R668). -/
def State.busArrive (s : State) (l : List BusWord) : State :=
  let late : List BusWord := if s.power.sleep = 0 then s.lateBus else []
  { s with hostBus := s.hostBus ++ late ++ l, lateBus := if s.power.sleep = 0 then [] else s.lateBus }

/-- Any host access wakes the device from S1 (17 R721). -/
def State.accessWake (s : State) : State :=
  if s.power.sleep = 1 ∧ s.power.waking.isNone then s.wakeBegin s.wakeActive 0xF false false else s

/-! ## QSPI (16 R662 to R668) -/

/-- The addresses of `n` words, which wrap at the end of the address space. -/
def busAddrs (addr n step : Nat) : List Nat := (List.range n).map fun k => (addr + step * k) % 2 ^ 24

/-- SEC has not handed over, and the address is not one that a recovery window answers (15 R642, R650; 16 R666). -/
def State.notReady (s : State) (addrs : List Nat) : Bool :=
  match s.sec.phase with
  | .run => false
  | .window | .receive _ _ => addrs.any fun a => a / 0x10000 != 0x13
  | _ => true

/-- A transaction whose host phase is complete; one that the device has not begun to answer is not disturbed. -/
def State.qspiRun (s : State) (write : Bool) (cmd : Byte) (addr : Nat) (data : List Word) (crc : BitVec 16) : State :=
  let op := cmd.toNat / 64
  let n := cmd.toNat % 16 + 1
  let check := cmd.getLsbD 5
  let sent : List Byte := cmd :: (beBytes 3 addr ++ data.flatMap wordBytes)
  let addrs := busAddrs addr n (if cmd.getLsbD 4 then 4 else 0)
  if s.power.sleep = 4 ∨ s.qspi.isSome ∨ op = (if write then 0 else 1) ∨ (write = true ∧ data.length ≠ n) then s
  else
    let s : State := { s with qspiReply := none }
    if check && crc16 sent != crc then (s.count HST_QSPI_CRC_CNT).qspiEnd write check 0x81 []
    else if 2 ≤ op ∨ addr % 4 ≠ 0 then s.qspiEnd write check 0x84 []
    else if s.notReady addrs then s.qspiEnd write check 0x83 []
    else
      let bad := addrs.any fun a => !s.reachable a
      let words : List BusWord := (addrs.zip (if write then data else List.replicate n 0)).map fun p =>
        { iface := 0, write := write, addr := p.1, data := p.2 }
      if bad then
        let s : State := { s with lateBus := if write then s.lateBus ++ words else s.lateBus }
        (s.qspiEnd write check 0x82 []).accessWake
      else (({ s with qspi := some { write := write, crc := check } } : State).busArrive words).busDrain.accessWake

/-- QSPI_READ (16 R667). -/
def execQspiRead (cmd : Byte) (addr : BitVec 24) (crc : BitVec 16) (s : State) : Out := .next (s.qspiRun false cmd addr.toNat [] crc)

/-- QSPI_WRITE (16 R667). -/
def execQspiWrite (cmd : Byte) (addr : BitVec 24) (data : List Word) (crc : BitVec 16) (s : State) : Out :=
  .next (s.qspiRun true cmd addr.toNat data crc)

/-! ## I2C (16 R670 to R672) -/

/-- The 7-bit address that the target answers to. -/
def i2cAddress : Nat := 0x2C + Config.bootsel.toNat

/-- An event for broken framing. -/
def State.i2cFraming (s : State) (broken : Bool) : State := if broken then s.raise 126 else s

/-- An I2C read of `n` words. -/
def State.i2cRead (s : State) (addr n : Nat) : State :=
  let addrs := busAddrs (addr / 4 * 4) n 4
  let s : State := { s with i2cOut := [] }
  if n = 0 then s
  else if s.notReady addrs ∨ (addrs.any fun a => !s.reachable a) then s.i2cLate n
  else (s.busArrive (addrs.map fun a => { iface := 1, write := false, addr := a })).busDrain

/-- An I2C write. -/
def State.i2cWrite (s : State) (addr : Nat) (data : List Word) : State :=
  let addrs := busAddrs (addr / 4 * 4) data.length 4
  let words : List BusWord := (addrs.zip data).map fun p => { iface := 1, write := true, addr := p.1, data := p.2 }
  if data.isEmpty then s
  else if s.notReady addrs then (s.putFlag HST_STATUS_I2C_TIMEOUT 0 true).raise 126
  else if addrs.any fun a => !s.reachable a then
    (({ s with lateBus := s.lateBus ++ words } : State).putFlag HST_STATUS_I2C_TIMEOUT 0 true).raise 126
  else (s.busArrive words).busDrain

/-- I2C_READ (16 R671, R672). -/
def execI2cRead (addr : BitVec 24) (count : Nat) (broken : Bool) (s : State) : Out :=
  .next (if s.power.sleep = 4 then s else ((s.i2cRead addr.toNat count).i2cFraming broken).accessWake)

/-- I2C_WRITE (16 R671, R672). -/
def execI2cWrite (addr : BitVec 24) (data : List Word) (broken : Bool) (s : State) : Out :=
  .next (if s.power.sleep = 4 then s else ((s.i2cWrite addr.toNat data).i2cFraming broken).accessWake)

end Sys2Proof.Machine
end

