-- ==== Sys2Proof/Machine/HostRows.lean ====
section
/-!
DEFINITION. Commands that let waiting accesses go on, and register access by remote sources (06 R278; 16 R677; 17 R720).
-/

namespace Sys2Proof.Machine

open Sys2Proof

/-! ## Register access by remote sources (16 R677) -/

/-- The words of a remote access; a byte address that is not a multiple of 4 names the word it lies in. -/
def remoteWords (write : Bool) (addr : Nat) (data : List Word) : List BusWord :=
  ((List.range data.length).zip data).map fun p => { iface := 2, write := write, addr := addr / 4 * 4 + 4 * p.1, data := p.2 }

/-- The command's work is done once none of its words waits. -/
def State.remoteSettle (s : State) (read : Bool) : State :=
  if !s.mbx.reading || s.hostBus.any fun w => w.iface == 2 then s
  else ({ s with mbx := { s.mbx with reading := false } } : State).mbxDone stOk (if read then s.remoteOut else [])

/-- The command's words arrive at the bus. -/
def State.remoteStart (s : State) (read : Bool) (l : List BusWord) : State :=
  ((({ s with remoteOut := [], mbx := { s.mbx with reading := true } } : State).busArrive l).busDrain).remoteSettle read

/-- REG_READ: address, count 1 to 250. -/
def State.remoteRead (s : State) (e : MbxEntry) : State :=
  if s.mbx.reading then s.busDrain.remoteSettle true
  else if e.args.length < 2 ∨ e.arg 1 < 1 ∨ 250 < e.arg 1 then s.mbxDone stBadArg []
  else s.remoteStart true (remoteWords false (e.arg 0) (List.replicate (e.arg 1) 0))

/-- REG_WRITE: address, then at most 250 words. -/
def State.remoteWrite (s : State) (e : MbxEntry) : State :=
  if s.mbx.reading then s.busDrain.remoteSettle false
  else if e.args.isEmpty ∨ 251 < e.args.length then s.mbxDone stBadArg []
  else s.remoteStart false (remoteWords true (e.arg 0) (e.args.drop 1))

/-- REG_READ (16 R677). -/
def execRegRead (s : State) : Out := .next (s.mbxRun 0x0002 fun e (s : State) => s.remoteRead e)

/-- REG_WRITE (16 R677). -/
def execRegWrite (s : State) : Out := .next (s.mbxRun 0x0003 fun e (s : State) => s.remoteWrite e)

/-! ## Waiting accesses go on -/

/-- CHAMBER_SYNC_COMPLETE (06 R245, R278). -/
def execChamberSyncComplete (c : CoreId) (s : State) : Out := .next (s.syncComplete c).busDrain

/-- A domain that some client votes for returns to power in S0 (17 R717, R719, R720). -/
def State.domainReturn (s : State) (d : Nat) : State :=
  if s.power.sleep = 0 ∧ s.canWake ∧ s.voted d then s.domainUp d else s

/-- DOMAIN_POWER_UP (17 R720). -/
def execDomainPowerUp (d : Fin 12) (s : State) : Out := .next (s.domainReturn d.val).busDrain

end Sys2Proof.Machine
end

