-- ==== Sys2Proof/Machine/SampleTick.lean ====
section
/-!
DEFINITION. A tick of a rate group: the last sample is judged and sent, states, sluices, glides and headgates go on, and the next
sample begins (02 R49, R73 to R93; 06 R271; 09 R399, R420 to R422; 13 R566).
-/

namespace Sys2Proof.Machine

open Sys2Proof

/-! ## Seals of sent blocks (09 R420 to R423) -/

/-- The seal of a block of `bs` words; words that were not sent count as 0. -/
def sealOf (bs : Nat) (ws : List Word) : BitVec 16 := crc16Words (List.replicate (bs - ws.length) 0 ++ ws)

/-- Sample `m` enters the block under way; `prev` is the seal of the block before, taken when a block begins. -/
def SealTx.push (x : SealTx) (bs m : Nat) (prev : BitVec 16) (v : Word) : SealTx :=
  if m % bs = 0 then { words := [v], prev := prev } else { x with words := (x.words ++ [v]).drop (x.words.length + 1 - bs) }

def State.setSealTx (s : State) (i : Nat) (x : SealTx) : State := { s with sealTx := tabSet i x s.sealTx }

/-- An OUT route makes the seal over the values sent. -/
def State.outSeal (s : State) (i bs m : Nat) (v : Word) : State :=
  let x := tabGet s.sealTx i {}
  s.setSealTx i (x.push bs m (sealOf bs x.words) v)

/-- The seal stored for block `k` of an ingress channel. -/
def State.storedSeal (s : State) (c k : Nat) : Option (BitVec 16) :=
  let ch := tabGet s.ingress c {}
  if tabGet? (stampSlot ch k) (s.chanSt c).blks == some k then
    some ((s.bankWord ch.bank (ch.sbase + 2 * stampSlot ch k + 1)).setWidth 16)
  else none

/-- The stored seal of a block is compared with the words read (09 R421, R423). -/
def State.checkStored (s : State) (c k : Nat) (ws : List Word) : State :=
  if ws.length < blockSize (tabGet s.ingress c {}) then s
  else match s.storedSeal c k with
    | none => s.sealAbsent c k
    | some v =>
      if s.sealBlind c k || s.stampHas c k stSealAbsent then s.sealAbsent c k
      else if crc16Words ws = v then s
      else s.sealMismatch c k

/-- A BRIDGE route from a channel with seals: at the start of a block the one before is checked and its stored seal taken. -/
def State.bridgeSeal (s : State) (i c m : Nat) (w : Word) : State :=
  let ch := tabGet s.ingress c {}
  let bs := blockSize ch
  if !ch.seals then s
  else
    let x := tabGet s.sealTx i {}
    let s := if m % bs = 0 ∧ bs ≤ m then s.checkStored c (m / bs - 1) x.words else s
    s.setSealTx i (x.push bs m ((s.storedSeal c (m / bs - 1)).getD 0) w)

/-! ## Values sent (09 R399) -/

/-- Valid egress channels of a group. -/
def State.egressOf (s : State) (g : GroupId) : List Nat := (s.egress.filter fun p => p.2.valid && p.2.group == g).map fun p => p.1

/-- The channel is the OUT_CH of a pass-map entry in use (02 R91). -/
def State.mapped (s : State) (g : GroupId) (c : Nat) : Bool :=
  (List.range (s.reg SE_RG_SAFEMAP_CNT g.val)).any fun i => s.reg SE_SAFEMAP_OUT_CH (64 * g.val + i) == c

/-- Steps 1 and 2: the egress words of sample `m`, unless the sample is late or faulted, or the ramp-down after a CORE_LOSS runs
(02 R75; 18 R742, R743). -/
def State.takeWords (s : State) (g : GroupId) (m : Nat) : State :=
  if (s.group g).heldLast || (s.group g).holdRamp then s
  else
    (s.egressOf g).foldl (fun (s : State) c =>
      let ch := tabGet s.egress c {}
      let (w, s) := s.readAs 16 ch.bank (chanWord ch m)
      s.setGroup g { s.group g with held := tabSet c w (s.group g).held }) s

/-- The value of an egress channel after step 4. -/
def State.rampedWord (s : State) (g : GroupId) (c : Nat) : Word :=
  (s.group g).out.apply (s.mapped g c) (tabGet (s.group g).held c 0)

/-- Step 5: the values of a group's egress channels with the probe signal (08 R349, R350). -/
def State.mixedWords (s : State) (g : GroupId) (m : Nat) : Tab Word × State :=
  let begun : Bool := match s.probe.sp with
    | some a => decide (a ≤ m)
    | none => false
  let v4 := s.rampedWord g
  let (mix, t) := if g = s.probeGroup ∧ begun then s.probeSample m (fun c => (v4 c).toInt) else ([], s)
  (s.egressOf g).foldl (fun (p : Tab Word × State) c =>
    match tabGet? c mix with
    | some v => (tabSet c (probeMix (v4 c) v).1 p.1, if (probeMix (v4 c) v).2 then p.2.probeClip c else p.2)
    | none => (tabSet c (v4 c) p.1, p.2)) ([], t)

/-- A value leaves on a route; the last 128 are kept for the interfaces that send them later. -/
def State.recordSent (s : State) (i m : Nat) (v : Word) : State := { s with sent := tabSet i (((m, v) :: tabGet s.sent i []).take 128) s.sent }

/-- Steps 6 and 7 on one route; a BRIDGE route reads its ingress word first. -/
def State.sendRoute (s : State) (g : GroupId) (m : Nat) (vals : Tab Word) (i : Nat) (r : Route) : State :=
  let ch := s.routeChan r
  let gate := s.gateOf r m
  if !ch.valid || ch.group != g then s
  else match r.kind with
    | 1 =>
      let v := gate.apply (tabGet vals (epChan r.src) 0)
      (if r.seals then s.outSeal i (blockSize ch) m v else s).recordSent i m v
    | 2 =>
      let (w, s) := s.readAs 16 ch.bank (chanWord ch m)
      (s.bridgeSeal i (epChan r.src) m w).recordSent i m (gate.apply w)
    | _ => s

/-- The values of sample `m` of a group are formed and leave on its OUT and BRIDGE routes. -/
def State.sendSample (s : State) (g : GroupId) (m : Nat) : State :=
  let (vals, s) := (s.takeWords g m).mixedWords g m
  s.routes.foldl (fun (s : State) q => s.sendRoute g m vals q.1 q.2) s

/-! ## The sample that begins -/

/-- The tick becomes the group's last one, and the treatment of its sample is fixed (02 R63 to R65, R109). -/
def State.tickBegin (s : State) (g : GroupId) (n : Nat) : State :=
  let x := s.group g
  let out : OutMode := { zero := s.sendsZero g, safe := s.rgState g == 3, ramp := x.ramp, gate := x.gate, dip := s.dipOf g n }
  s.setGroup g { x with begun := true, n := n, tickTim := s.tim, tickCycle := s.cycles, marks := [], stepped := false, ran := false, out := out }

/-- The sample a core begins: in a crossfade that names it, both programs (06 R271, R272). -/
def State.sampleOf (s : State) (g : GroupId) (n : Nat) (c : CoreId) : Sample :=
  let x := s.core c
  let base : Sample := { n := n, page := x.ppage, cpage := x.cpage, len := x.active.len, firstReq := x.nextReq }
  match s.sluices[g] with
  | some u =>
    if s.crossfading g && (u.cores ||| u.heirs).testBit c.val then
      { base with second := some { page := other x.ppage, cpage := if u.pages.testBit 0 then other x.cpage else x.cpage, len := x.chamber.len },
                  xfade := some (n + 1 - u.a, u.m) }
    else base
  | none => base

/-- The indices of a core's generators at the start of its sample (04 R163). -/
def State.showIndices (s : State) (c : CoreId) (n : Nat) : State :=
  ((s.core c).active.ptr.gens.zipIdx).foldl (fun (s : State) p => s.put SE_GEN_IDX_INDEX (16 * c.val + p.2) (genStart p.1 n)) s

/-- The core issues nothing in this sample: the retry is omitted (18 R741). -/
def Core.omits (x : Core) : Bool := x.retrying && x.omitRetry

/-- A core begins sample `n` (02 R49); one without a program issues nothing. -/
def State.startCore (s : State) (g : GroupId) (n : Nat) (c : CoreId) : State :=
  let x := s.core c
  if x.omits || x.active.len == 0 then s
  else (s.setCore c { x with run := some (s.sampleOf g n c), waiting := none }).showIndices c n

/-- One entry of the pass map (02 R88, R91). The result tells whether its output was clamped. -/
def State.safeEntry (s : State) (g : GroupId) (n : Nat) (c : CoreId) (i : Nat) : Bool × State :=
  let a := tabGet s.ingress (s.reg SE_SAFEMAP_IN_CH (64 * g.val + i)) {}
  let b := tabGet s.egress (s.reg SE_SAFEMAP_OUT_CH (64 * g.val + i)) {}
  let (w, s) := s.readAs c.val a.bank (chanWord a n)
  let (y, sat) := safeOut w (s.safeGain g)
  (sat, (if sat then s.putFlag SC_SAT_SAFE_SAT c.val true else s).writeAs c.val b.bank (chanWord b n) y)

/-- The pass-through program is complete: its cycle figures (02 R54, R87, R92). -/
def State.safeDone (s : State) (g : GroupId) (c : CoreId) (sat : Bool) : State :=
  let n := s.reg SE_RG_SAFEMAP_CNT g.val
  let cyc := if n = 0 then 65 else 4 * n + 127
  let s := (s.put SC_CYC_LAST c.val cyc).put SC_CYC_PEAK c.val (max (s.reg SC_CYC_PEAK c.val) cyc)
  let s := (s.put SC_STALL_LAST c.val 0).put SC_STWR_LAST c.val 0
  let s := (s.putFlag SC_STATUS_LATE c.val false).putFlag SC_STATUS_FAULT c.val false
  if sat then s.count SC_SAT_CNT c.val else s

/-- A core runs the ROM pass-through program for sample `n`, or fails in it (02 R88 to R92; 18 R745). -/
def State.safeSample (s : State) (g : GroupId) (n : Nat) (c : CoreId) (fail : Option CheckFail) : State :=
  let x := s.core c
  if x.omits then s
  else match fail with
    | some f => (s.setCore c { x with run := some { n := n, page := x.ppage, cpage := x.cpage, len := 1 } }).coreFault c f 0
    | none =>
      let (sat, s) := (List.range (s.reg SE_RG_SAFEMAP_CNT g.val)).foldl (fun (p : Bool × State) i =>
        let r := p.2.safeEntry g n c i
        (p.1 || r.1, r.2)) (false, s)
      s.safeDone g c sat

/-- The group's cores begin sample `n`, as its state tells; `fails` lists checks that fail in the start phase (02 R49, R63;
18 R736). -/
def State.startSamples (s : State) (g : GroupId) (n : Nat) (fails : List (CoreId × CheckFail)) : State :=
  let cores := maskCores (s.reg SE_RG_STATUS_ACTIVE g.val)
  let st := s.rgState g
  let failOf (c : CoreId) : Option CheckFail := (fails.find? fun p => p.1 == c).map fun p => p.2
  let owed := cores.any fun c => (s.core c).omits
  if st = 1 ∨ st = 4 then
    let s := s.setGroup g { s.group g with ran := true }
    cores.foldl (fun (s : State) c =>
      let s := s.startCore g n c
      match failOf c with
      | some f => s.coreFault c f 0
      | none => s) s
  else
    let s := s.setGroup g { s.group g with ran := st == 3 || owed }
    match if st = 3 then s.safeCore g else none with
    | some c => s.safeSample g n c (failOf c)
    | none => s

/-! ## Outer loop of the media PLL (13 R566) -/

/-- Base rate of a media PLL's family. -/
def baseRate (p : Fin 2) : Nat := if p = 0 then 44100 else 48000

/-- Loop error of a media PLL at a base-rate tick, units of 2^-8 ns: against the ideal time, the WCLK_IN edge, or the phase of its
port (a re-anchored PLL subtracts its target, R584). -/
def State.loopError (s : State) (g : GroupId) (p : Fin 2) : Int :=
  let x := s.group g
  match s.reg CLK_MPLL_CFG_REF p.val with
  | 0 => ((x.tickTim : Int) * s.fs g - (x.n * timPerSec : Nat)) * 256 / (timPerNs * max 1 (s.fs g) : Nat)
  | 1 => match (tabGet s.monitors 0 {}).lastEdge with
    | some e => ((s.cycles - e) * 1280 / 3 : Nat) - 256000
    | none => 0
  | _ => (s.reg SAP_PHASE_PHI (s.reg CLK_MPLL_CFG_PORT p.val) * 1280 / 3 : Nat) - 256000

/-- The outer loop runs at a base-rate tick while the PLL tracks or rejoins. The specification does not give W's next value: it is
a free one (log entry 23). -/
def State.pllTick (s : State) (g : GroupId) (n : Nat) : State :=
  let p : Fin 2 := Fin.ofNat 2 (s.pllOf g)
  let st := s.pllState p
  if n % max 1 (s.fs g / baseRate p) ≠ 0 ∨ !(st == 2 || st == 4) then s
  else
    let s := s.put CLK_MPLL_PHASE_ERR p.val (BitVec.ofInt 32 (sat32 (s.loopError g p - (s.pll p).target.getD 0))).toNat
    let (w, s) := s.chooseNat (2 ^ 42)
    s.showW p w

/-! ## The tick -/

/-- The steps of tick `n` of a group, in order. -/
def State.sampleTick (s : State) (g : GroupId) (n : Nat) (fails : List (CoreId × CheckFail)) : State :=
  let s := s.part g .judge fun s => s.judge g
  let s := if (s.group g).begun then s.sendSample g (s.group g).n else s
  let s := (s.part g .ramp fun s => s.rampTick g).gateTick g
  let s := if s.rgState g = 5 then s.loadingEnter else s
  let s := if s.power.warm ∧ s.rgState g = 0 then s.morphFinish g else s
  let s := (s.chamberTick g n).hgTick g n
  let s := ((s.tickBegin g n).portsTick g n).startSamples g n fails
  let s := if g = s.probeGroup then s.micTick n else s
  s.loopWatch.pllTick g n

/-- SAMPLE_TICK (01 R26; 02 R49): nothing happens when no tick of the group is due. -/
def execSampleTick (g : GroupId) (fails : List (CoreId × CheckFail)) (s : State) : Out :=
  .next (s.atTick g fun n s => s.sampleTick g n fails)

end Sys2Proof.Machine
end

