-- ==== Sys2Proof/Machine/Dispatch.lean ====
section
/-!
DEFINITION. One arm for each command: a direct call of its meaning, or a refusal by name.
-/

namespace Sys2Proof.Machine

open Sys2Proof

def exec (i : Instr) (s : State) : Host.Outcome State Fault Refusal :=
  match i with
  | .sampleTick g fails => Sys2Proof.Machine.execSampleTick g fails s
  | .sampleComplete c stalls mirrorErr => Sys2Proof.Machine.execSampleComplete c stalls mirrorErr s
  | .sharedReadArrival c v stalls => Sys2Proof.Machine.execSharedReadArrival c v stalls s
  | .crossbarAccept c stalls => Sys2Proof.Machine.execCrossbarAccept c stalls s
  | .nop iss slot => Sys2Proof.Machine.execNop iss slot s
  | .mac4 iss f => Sys2Proof.Machine.execMac4 iss f s
  | .mac2c iss f => Sys2Proof.Machine.execMac2c iss f s
  | .mac2d iss f => Sys2Proof.Machine.execMac2d iss f s
  | .mac1 iss f => Sys2Proof.Machine.execMac1 iss f s
  | .muld iss f => Sys2Proof.Machine.execMuld iss f s
  | .aconv iss f => Sys2Proof.Machine.execAconv iss f s
  | .aopMov iss f => Sys2Proof.Machine.execAopMov iss f s
  | .aopAdd iss f => Sys2Proof.Machine.execAopAdd iss f s
  | .aopSub iss f => Sys2Proof.Machine.execAopSub iss f s
  | .aopNeg iss f => Sys2Proof.Machine.execAopNeg iss f s
  | .aopAbs iss f => Sys2Proof.Machine.execAopAbs iss f s
  | .aopClr iss a => Sys2Proof.Machine.execAopClr iss a s
  | .aopClrq iss a => Sys2Proof.Machine.execAopClrq iss a s
  | .ash iss f => Sys2Proof.Machine.execAsh iss f s
  | .ald iss f => Sys2Proof.Machine.execAld iss f s
  | .add iss f => Sys2Proof.Machine.execAdd iss f s
  | .sub iss f => Sys2Proof.Machine.execSub iss f s
  | .logAnd iss f => Sys2Proof.Machine.execLogAnd iss f s
  | .logOr iss f => Sys2Proof.Machine.execLogOr iss f s
  | .logXor iss f => Sys2Proof.Machine.execLogXor iss f s
  | .logAndn iss f => Sys2Proof.Machine.execLogAndn iss f s
  | .logNot iss f => Sys2Proof.Machine.execLogNot iss f s
  | .shvArithmetic iss f => Sys2Proof.Machine.execShvArithmetic iss f s
  | .shvLogical iss f => Sys2Proof.Machine.execShvLogical iss f s
  | .shi iss f => Sys2Proof.Machine.execShi iss f s
  | .mmxMin iss f => Sys2Proof.Machine.execMmxMin iss f s
  | .mmxMax iss f => Sys2Proof.Machine.execMmxMax iss f s
  | .mmxAbs iss f => Sys2Proof.Machine.execMmxAbs iss f s
  | .mmxNeg iss f => Sys2Proof.Machine.execMmxNeg iss f s
  | .sel iss f => Sys2Proof.Machine.execSel iss f s
  | .cmp iss f => Sys2Proof.Machine.execCmp iss f s
  | .clip iss f => Sys2Proof.Machine.execClip iss f s
  | .immediateLoadD iss f => Sys2Proof.Machine.execImmediateLoadD iss f s
  | .immediateLoadK iss f => Sys2Proof.Machine.execImmediateLoadK iss f s
  | .lds iss f => Sys2Proof.Machine.execLds iss f s
  | .sts iss f => Sys2Proof.Machine.execSts iss f s
  | .ldc iss f => Sys2Proof.Machine.execLdc iss f s
  | .ldg iss f => Sys2Proof.Machine.execLdg iss f s
  | .stg iss f => Sys2Proof.Machine.execStg iss f s
  | .dtap iss f => Sys2Proof.Machine.execDtap iss f s
  | .ldq iss f => Sys2Proof.Machine.execLdq iss f s
  | .dtapi iss f => Sys2Proof.Machine.execDtapi iss f s
  | .gaddIndex iss f => Sys2Proof.Machine.execGaddIndex iss f s
  | .gaddLine iss f => Sys2Proof.Machine.execGaddLine iss f s
  | .gmovIndexSet iss f => Sys2Proof.Machine.execGmovIndexSet iss f s
  | .gmovIndexGet iss f => Sys2Proof.Machine.execGmovIndexGet iss f s
  | .gmovLineSet iss f => Sys2Proof.Machine.execGmovLineSet iss f s
  | .gmovLineGet iss f => Sys2Proof.Machine.execGmovLineGet iss f s
  | .kadd iss f => Sys2Proof.Machine.execKadd iss f s
  | .kmovToK iss f => Sys2Proof.Machine.execKmovToK iss f s
  | .kmovToD iss f => Sys2Proof.Machine.execKmovToD iss f s
  | .mov iss f => Sys2Proof.Machine.execMov iss f s
  | .movi iss f => Sys2Proof.Machine.execMovi iss f s
  | .cmov iss f => Sys2Proof.Machine.execCmov iss f s
  | .pcmpz iss f => Sys2Proof.Machine.execPcmpz iss f s
  | .plogAnd iss f => Sys2Proof.Machine.execPlogAnd iss f s
  | .plogOr iss f => Sys2Proof.Machine.execPlogOr iss f s
  | .plogXor iss f => Sys2Proof.Machine.execPlogXor iss f s
  | .plogAndn iss f => Sys2Proof.Machine.execPlogAndn iss f s
  | .plogNot iss f => Sys2Proof.Machine.execPlogNot iss f s
  | .plogSet iss t => Sys2Proof.Machine.execPlogSet iss t s
  | .plogClr iss t => Sys2Proof.Machine.execPlogClr iss t s
  | .pacc iss f => Sys2Proof.Machine.execPacc iss f s
  | .runStart g => Sys2Proof.Machine.execRunStart g s
  | .runStop g => Sys2Proof.Machine.execRunStop g s
  | .modeChange g mode => Sys2Proof.Machine.execModeChange g mode s
  | .unmute g => Sys2Proof.Machine.execUnmute g s
  | .mute g => Sys2Proof.Machine.execMute g s
  | .rampEnd g => Sys2Proof.Machine.execRampEnd g s
  | .lateLimitMute g => Sys2Proof.Machine.execLateLimitMute g s
  | .takeover c => Sys2Proof.Machine.execTakeover c s
  | .clrPeak c => Sys2Proof.Machine.execClrPeak c s
  | .selfTestComplete c passed => Sys2Proof.Machine.execSelfTestComplete c passed s
  | .tickIndexRead g time iface => Sys2Proof.Machine.execTickIndexRead g time iface s
  | .chamberWrite v => Sys2Proof.Machine.execChamberWrite v s
  | .chamberRead => Sys2Proof.Machine.execChamberRead s
  | .sluiceArm g => Sys2Proof.Machine.execSluiceArm g s
  | .sluiceCancel g => Sys2Proof.Machine.execSluiceCancel g s
  | .sluiceApply g => Sys2Proof.Machine.execSluiceApply g s
  | .broadcastOriginate => Sys2Proof.Machine.execBroadcastOriginate s
  | .sluiceBroadcastReceive id sec ns => Sys2Proof.Machine.execSluiceBroadcastReceive id sec ns s
  | .glideStage target => Sys2Proof.Machine.execGlideStage target s
  | .glideStart g => Sys2Proof.Machine.execGlideStart g s
  | .glideEnd g => Sys2Proof.Machine.execGlideEnd g s
  | .cutSwap g => Sys2Proof.Machine.execCutSwap g s
  | .cutEnd g => Sys2Proof.Machine.execCutEnd g s
  | .crossfadeEnd g => Sys2Proof.Machine.execCrossfadeEnd g s
  | .chamberSyncComplete c => Sys2Proof.Machine.execChamberSyncComplete c s
  | .journalClear => Sys2Proof.Machine.execJournalClear s
  | .journalClearComplete => Sys2Proof.Machine.execJournalClearComplete s
  | .journalReplay => Sys2Proof.Machine.execJournalReplay s
  | .bceEnable => Sys2Proof.Machine.execBceEnable s
  | .bceJobStart j => Sys2Proof.Machine.execBceJobStart j s
  | .bceStop => Sys2Proof.Machine.execBceStop s
  | .bceStopComplete => Sys2Proof.Machine.execBceStopComplete s
  | .filterEnable f => Sys2Proof.Machine.execFilterEnable f s
  | .filterDisable f => Sys2Proof.Machine.execFilterDisable f s
  | .filterSwap => Sys2Proof.Machine.execFilterSwap s
  | .filterOn f => Sys2Proof.Machine.execFilterOn f s
  | .filterOff f => Sys2Proof.Machine.execFilterOff f s
  | .inputBlockRelease g => Sys2Proof.Machine.execInputBlockRelease g s
  | .forwardSliceComplete ue => Sys2Proof.Machine.execForwardSliceComplete ue s
  | .multiplySliceComplete ue => Sys2Proof.Machine.execMultiplySliceComplete ue s
  | .inverseSliceComplete ue => Sys2Proof.Machine.execInverseSliceComplete ue s
  | .probeSliceComplete frameDone => Sys2Proof.Machine.execProbeSliceComplete frameDone s
  | .bceDeadline g => Sys2Proof.Machine.execBceDeadline g s
  | .tailDelivery g => Sys2Proof.Machine.execTailDelivery g s
  | .bceBusyWindow busy => Sys2Proof.Machine.execBceBusyWindow busy s
  | .memOperation b err scrub other => Sys2Proof.Machine.execMemOperation b err scrub other s
  | .errorReRead b again => Sys2Proof.Machine.execErrorReRead b again s
  | .sparingComplete b => Sys2Proof.Machine.execSparingComplete b s
  | .bankRelease b => Sys2Proof.Machine.execBankRelease b s
  | .bankReleaseComplete b => Sys2Proof.Machine.execBankReleaseComplete b s
  | .bankGrant b cls => Sys2Proof.Machine.execBankGrant b cls s
  | .qwaitClear b => Sys2Proof.Machine.execQwaitClear b s
  | .windowRead word => Sys2Proof.Machine.execWindowRead word s
  | .windowWrite word v => Sys2Proof.Machine.execWindowWrite word v s
  | .spargeComplete stuck => Sys2Proof.Machine.execSpargeComplete stuck s
  | .scrubPass corrected lost lasting => Sys2Proof.Machine.execScrubPass corrected lost lasting s
  | .probeEnable => Sys2Proof.Machine.execProbeEnable s
  | .probeStart => Sys2Proof.Machine.execProbeStart s
  | .probeStop => Sys2Proof.Machine.execProbeStop s
  | .weirBlock => Sys2Proof.Machine.execWeirBlock s
  | .steepEnd o => Sys2Proof.Machine.execSteepEnd o s
  | .bceFrameQueue o mic => Sys2Proof.Machine.execBceFrameQueue o mic s
  | .resultPublish o mic => Sys2Proof.Machine.execResultPublish o mic s
  | .loopUpdate o => Sys2Proof.Machine.execLoopUpdate o s
  | .loopEnable o en => Sys2Proof.Machine.execLoopEnable o en s
  | .probeParityError => Sys2Proof.Machine.execProbeParityError s
  | .blockInTimeTest c k => Sys2Proof.Machine.execBlockInTimeTest c k s
  | .nonaudioMuteEnd c => Sys2Proof.Machine.execNonaudioMuteEnd c s
  | .headgateOpen h => Sys2Proof.Machine.execHeadgateOpen h s
  | .headgateClose h => Sys2Proof.Machine.execHeadgateClose h s
  | .headgateCancel h => Sys2Proof.Machine.execHeadgateCancel h s
  | .headgateEffect h => Sys2Proof.Machine.execHeadgateEffect h s
  | .headgateRampEnd h => Sys2Proof.Machine.execHeadgateRampEnd h s
  | .portOpen p => Sys2Proof.Machine.execPortOpen p s
  | .portClose p => Sys2Proof.Machine.execPortClose p s
  | .portCloseComplete p => Sys2Proof.Machine.execPortCloseComplete p s
  | .portMute p mute => Sys2Proof.Machine.execPortMute p mute s
  | .sapFrame p line0 line1 malformed => Sys2Proof.Machine.execSapFrame p line0 line1 malformed s
  | .slaveClockLost p => Sys2Proof.Machine.execSlaveClockLost p s
  | .mclkControl k v => Sys2Proof.Machine.execMclkControl k v s
  | .linkTick stamps => Sys2Proof.Machine.execLinkTick stamps s
  | .linkFrameReceive p f stamp reserved badSync => Sys2Proof.Machine.execLinkFrameReceive p f stamp reserved badSync s
  | .linkEnable p => Sys2Proof.Machine.execLinkEnable p s
  | .linkDisable p => Sys2Proof.Machine.execLinkDisable p s
  | .linkWake p => Sys2Proof.Machine.execLinkWake p s
  | .delayClear p => Sys2Proof.Machine.execDelayClear p s
  | .lossOfSignal p => Sys2Proof.Machine.execLossOfSignal p s
  | .noFrame p => Sys2Proof.Machine.execNoFrame p s
  | .unwrap => Sys2Proof.Machine.execUnwrap s
  | .unwrapApply => Sys2Proof.Machine.execUnwrapApply s
  | .wakeGo => Sys2Proof.Machine.execWakeGo s
  | .eyeUpdate p h v => Sys2Proof.Machine.execEyeUpdate p h v s
  | .stepTime => Sys2Proof.Machine.execStepTime s
  | .setTime => Sys2Proof.Machine.execSetTime s
  | .timeReadLatch iface => Sys2Proof.Machine.execTimeReadLatch iface s
  | .servoUpdate theta dt => Sys2Proof.Machine.execServoUpdate theta dt s
  | .ptpMessage m => Sys2Proof.Machine.execPtpMessage m s
  | .ppsInEdge => Sys2Proof.Machine.execPpsInEdge s
  | .linkOffsetUpdate => Sys2Proof.Machine.execLinkOffsetUpdate s
  | .holdoverEntry => Sys2Proof.Machine.execHoldoverEntry s
  | .holdoverTimeout => Sys2Proof.Machine.execHoldoverTimeout s
  | .ppsOutput => Sys2Proof.Machine.execPpsOutput s
  | .ptpLaneMove => Sys2Proof.Machine.execPtpLaneMove s
  | .rxPacket lane d => Sys2Proof.Machine.execRxPacket lane d s
  | .txPacket k => Sys2Proof.Machine.execTxPacket k s
  | .streamLost k => Sys2Proof.Machine.execStreamLost k s
  | .rxEnable k on => Sys2Proof.Machine.execRxEnable k on s
  | .txEnable k on => Sys2Proof.Machine.execTxEnable k on s
  | .laneEnable lane on => Sys2Proof.Machine.execLaneEnable lane on s
  | .laneLinkChange lane up => Sys2Proof.Machine.execLaneLinkChange lane up s
  | .controlMessage lane d => Sys2Proof.Machine.execControlMessage lane d s
  | .wakeFrame lane dst port payload => Sys2Proof.Machine.execWakeFrame lane dst port payload s
  | .referenceStop => Sys2Proof.Machine.execReferenceStop s
  | .referenceReturn => Sys2Proof.Machine.execReferenceReturn s
  | .clockFault refLost => Sys2Proof.Machine.execClockFault refLost s
  | .pllLockDeclare pll passes => Sys2Proof.Machine.execPllLockDeclare pll passes s
  | .mediaMonitorFail n => Sys2Proof.Machine.execMediaMonitorFail n s
  | .inputEdge k => Sys2Proof.Machine.execInputEdge k s
  | .inputStopped k => Sys2Proof.Machine.execInputStopped k s
  | .rateChangeGate n => Sys2Proof.Machine.execRateChangeGate n s
  | .rateChangeRelock n => Sys2Proof.Machine.execRateChangeRelock n s
  | .rejoinStep => Sys2Proof.Machine.execRejoinStep s
  | .rejoinEnd which => Sys2Proof.Machine.execRejoinEnd which s
  | .referenceCheck within => Sys2Proof.Machine.execReferenceCheck within s
  | .goLoad => Sys2Proof.Machine.execGoLoad s
  | .verifyPassComplete => Sys2Proof.Machine.execVerifyPassComplete s
  | .loadingEntry => Sys2Proof.Machine.execLoadingEntry s
  | .applyPassComplete => Sys2Proof.Machine.execApplyPassComplete s
  | .deviceRecord => Sys2Proof.Machine.execDeviceRecord s
  | .rategroupRecord => Sys2Proof.Machine.execRategroupRecord s
  | .programRecord => Sys2Proof.Machine.execProgramRecord s
  | .coefRecord => Sys2Proof.Machine.execCoefRecord s
  | .stateInitRecord => Sys2Proof.Machine.execStateInitRecord s
  | .bankMapRecord => Sys2Proof.Machine.execBankMapRecord s
  | .bankInitRecord => Sys2Proof.Machine.execBankInitRecord s
  | .routeRecord => Sys2Proof.Machine.execRouteRecord s
  | .portRecord => Sys2Proof.Machine.execPortRecord s
  | .linkRecord => Sys2Proof.Machine.execLinkRecord s
  | .netStreamRecord => Sys2Proof.Machine.execNetStreamRecord s
  | .timeRecord => Sys2Proof.Machine.execTimeRecord s
  | .bceJobRecord => Sys2Proof.Machine.execBceJobRecord s
  | .bceFilterRecord => Sys2Proof.Machine.execBceFilterRecord s
  | .probeRecord => Sys2Proof.Machine.execProbeRecord s
  | .alignGroupRecord => Sys2Proof.Machine.execAlignGroupRecord s
  | .powerPolicyRecord => Sys2Proof.Machine.execPowerPolicyRecord s
  | .eventMapRecord => Sys2Proof.Machine.execEventMapRecord s
  | .regWriteRecord => Sys2Proof.Machine.execRegWriteRecord s
  | .spareRecord => Sys2Proof.Machine.execSpareRecord s
  | .restore => Sys2Proof.Machine.execRestore s
  | .trialWatchdog => Sys2Proof.Machine.execTrialWatchdog s
  | .eraseSlot k => Sys2Proof.Machine.execEraseSlot k s
  | .commitSlot k => Sys2Proof.Machine.execCommitSlot k s
  | .confirm => Sys2Proof.Machine.execConfirm s
  | .raiseMinver => Sys2Proof.Machine.execRaiseMinver s
  | .raiseEpoch => Sys2Proof.Machine.execRaiseEpoch s
  | .revoke k => Sys2Proof.Machine.execRevoke k s
  | .writeHeader clk mode => Sys2Proof.Machine.execWriteHeader clk mode s
  | .writeFloors => Sys2Proof.Machine.execWriteFloors s
  | .keyInstall slot key auth => Sys2Proof.Machine.execKeyInstall slot key auth s
  | .keyLock slot => Sys2Proof.Machine.execKeyLock slot s
  | .recoveryWindowExpiry => Sys2Proof.Machine.execRecoveryWindowExpiry s
  | .recoveryStart => Sys2Proof.Machine.execRecoveryStart s
  | .recoveryData w => Sys2Proof.Machine.execRecoveryData w s
  | .recoveryDone => Sys2Proof.Machine.execRecoveryDone s
  | .recoveryAbort => Sys2Proof.Machine.execRecoveryAbort s
  | .recoveryTimeout => Sys2Proof.Machine.execRecoveryTimeout s
  | .qspiRead cmd addr crc => Sys2Proof.Machine.execQspiRead cmd addr crc s
  | .qspiWrite cmd addr data crc => Sys2Proof.Machine.execQspiWrite cmd addr data crc s
  | .i2cRead addr count broken => Sys2Proof.Machine.execI2cRead addr count broken s
  | .i2cWrite addr data broken => Sys2Proof.Machine.execI2cWrite addr data broken s
  | .registerWrite addr v => Sys2Proof.Machine.execRegisterWrite addr v s
  | .mailboxGo => Sys2Proof.Machine.execMailboxGo s
  | .getInfo => Sys2Proof.Machine.execGetInfo s
  | .regRead => Sys2Proof.Machine.execRegRead s
  | .regWrite => Sys2Proof.Machine.execRegWrite s
  | .sensorRead => Sys2Proof.Machine.execSensorRead s
  | .logRead => Sys2Proof.Machine.execLogRead s
  | .logClear => Sys2Proof.Machine.execLogClear s
  | .flashRead fails => Sys2Proof.Machine.execFlashRead fails s
  | .flashWrite fails => Sys2Proof.Machine.execFlashWrite fails s
  | .flashErase fails => Sys2Proof.Machine.execFlashErase fails s
  | .updateBegin => Sys2Proof.Machine.execUpdateBegin s
  | .updateData fails => Sys2Proof.Machine.execUpdateData fails s
  | .updateCommit => Sys2Proof.Machine.execUpdateCommit s
  | .updateAbort => Sys2Proof.Machine.execUpdateAbort s
  | .updateOwnerTimeout => Sys2Proof.Machine.execUpdateOwnerTimeout s
  | .secOp => Sys2Proof.Machine.execSecOp s
  | .tunnelSend => Sys2Proof.Machine.execTunnelSend s
  | .tunnelRecv => Sys2Proof.Machine.execTunnelRecv s
  | .resetCmd => Sys2Proof.Machine.execResetCmd s
  | .mailboxCommandComplete => Sys2Proof.Machine.execMailboxCommandComplete s
  | .tunnelMessage => Sys2Proof.Machine.execTunnelMessage s
  | .tunnelAckTimeout => Sys2Proof.Machine.execTunnelAckTimeout s
  | .sensorUpdate temps sups => Sys2Proof.Machine.execSensorUpdate temps sups s
  | .thermalTrip sensor => Sys2Proof.Machine.execThermalTrip sensor s
  | .managementWatchdog => Sys2Proof.Machine.execManagementWatchdog s
  | .logCopy fails => Sys2Proof.Machine.execLogCopy fails s
  | .gpioEdge pin level => Sys2Proof.Machine.execGpioEdge pin level s
  | .eventForce ev => Sys2Proof.Machine.execEventForce ev s
  | .eventClear w mask => Sys2Proof.Machine.execEventClear w mask s
  | .powerOnReset => Sys2Proof.Machine.execPowerOnReset s
  | .brownoutWarning mv => Sys2Proof.Machine.execBrownoutWarning mv s
  | .brownoutClear => Sys2Proof.Machine.execBrownoutClear s
  | .brownoutReset mv => Sys2Proof.Machine.execBrownoutReset mv s
  | .nrstPin => Sys2Proof.Machine.execNrstPin s
  | .hostFullReset => Sys2Proof.Machine.execHostFullReset s
  | .warmReset => Sys2Proof.Machine.execWarmReset s
  | .warmResetComplete => Sys2Proof.Machine.execWarmResetComplete s
  | .plRequest level => Sys2Proof.Machine.execPlRequest level s
  | .plChangeComplete => Sys2Proof.Machine.execPlChangeComplete s
  | .hostVote w => Sys2Proof.Machine.execHostVote w s
  | .domainDrop d => Sys2Proof.Machine.execDomainDrop d s
  | .domainPowerUp d => Sys2Proof.Machine.execDomainPowerUp d s
  | .demandHoldExpiry d => Sys2Proof.Machine.execDemandHoldExpiry d s
  | .sleepGo target stop => Sys2Proof.Machine.execSleepGo target stop s
  | .sleepEntryComplete => Sys2Proof.Machine.execSleepEntryComplete s
  | .sleepWake => Sys2Proof.Machine.execSleepWake s
  | .wakePin pin level => Sys2Proof.Machine.execWakePin pin level s
  | .signalDetectWake src present => Sys2Proof.Machine.execSignalDetectWake src present s
  | .wakeFromS1 => Sys2Proof.Machine.execWakeFromS1 s
  | .wakeFromS2S3 ramOk => Sys2Proof.Machine.execWakeFromS2S3 ramOk s
  | .resleepCheck => Sys2Proof.Machine.execResleepCheck s
  | .crossbarRetry x again => Sys2Proof.Machine.execCrossbarRetry x again s
  | .coreMemoryReRead c m word half again => Sys2Proof.Machine.execCoreMemoryReRead c m word half again s
  | .resetRelease => Sys2Proof.Machine.execResetRelease s
  | .laneFrameReceive lane f => Sys2Proof.Machine.execLaneFrameReceive lane f s
  | .linkLocalFallback lane => Sys2Proof.Machine.execLinkLocalFallback lane s

end Sys2Proof.Machine
end

