-- ==== Sys2Proof/Machine/Passing.lean ====
section
/-!
DEFINITION. What one memory cycle does by itself: time passes, a sleep entry goes on, the watch after a link wake begins,
waiting host accesses go on once their target is ready (log entry 1).
-/

namespace Sys2Proof.Machine

open Sys2Proof

/-- One memory cycle of 600 MHz without a command (16 R668; 17 R725, R727 to R729). -/
def State.idle (s : State) : State := s.cycle.sleepAdvance.resleepWatch.busDrain

end Sys2Proof.Machine
end

