-- ==== Sys2Proof/Machine/Step.lean ====
section
/-!
DEFINITION. One step: the command at the front of the queue, or one memory cycle when none waits.
-/

namespace Sys2Proof.Machine

open Sys2Proof

/-- The block takes the command at the front of its queue and runs it with the queue's rest. On an empty queue one memory
cycle of 600 MHz passes (log entry 1). -/
def step (s : State) : Host.Outcome State Fault Refusal :=
  match s.pending with
  | [] => .next s.idle
  | c :: rest => exec c { s with pending := rest }

/-- The table gives no row bits, so a word spells no command and nothing is put into the queue. -/
def State.withFetchWord (s : State) (nbits w : Nat) : State :=
  match decodeTableWord nbits w with
  | some c => { s with pending := c :: s.pending }
  | none => s

end Sys2Proof.Machine
end

