-- ==== Sys2Proof/WellFormed.lean ====
section
/-!
DEFINITION. Which commands are well formed: operands the specification's encodings or ranges admit.
-/

namespace Sys2Proof

/-- A bundle index lies in the row old program, seam, new program (02 R51, 06 R271). -/
def Issue.wf (i : Issue) : Bool := decide (i.bundle < 2 * 32768 + 32)

/-- MAC2C and MAC2D name an even register (03 R128, R130). -/
def QuadMul.even (f : QuadMul) : Bool := f.d.val % 2 == 0

/-- A logical shift has SAT = 0 (03 R145). -/
def ShiftImm.wf (f : ShiftImm) : Bool := !(f.logical && f.sat)

/-- A command is well formed; the operands of the commands that issue no core operation are of types that admit only what the table does. -/
def Instr.wf : Instr → Bool
  | .mac2c i f => i.wf && f.even
  | .mac2d i f => i.wf && f.even
  | .shi i f => i.wf && f.wf
  | .nop i _ | .mac4 i _ | .mac1 i _ | .muld i _ | .aconv i _ | .aopMov i _ | .aopAdd i _ | .aopSub i _ | .aopNeg i _ | .aopAbs i _
  | .aopClr i _ | .aopClrq i _ | .ash i _ | .ald i _ | .add i _ | .sub i _ | .logAnd i _ | .logOr i _ | .logXor i _ | .logAndn i _
  | .logNot i _ | .shvArithmetic i _ | .shvLogical i _ | .mmxMin i _ | .mmxMax i _ | .mmxAbs i _ | .mmxNeg i _ | .sel i _ | .cmp i _
  | .clip i _ | .immediateLoadD i _ | .immediateLoadK i _ | .lds i _ | .sts i _ | .ldc i _ | .ldg i _ | .stg i _ | .dtap i _ | .ldq i _
  | .dtapi i _ | .gaddIndex i _ | .gaddLine i _ | .gmovIndexSet i _ | .gmovIndexGet i _ | .gmovLineSet i _ | .gmovLineGet i _
  | .kadd i _ | .kmovToK i _ | .kmovToD i _ | .mov i _ | .movi i _ | .cmov i _ | .pcmpz i _ | .plogAnd i _ | .plogOr i _ | .plogXor i _
  | .plogAndn i _ | .plogNot i _ | .plogSet i _ | .plogClr i _ | .pacc i _ => i.wf
  | .sampleTick _ _ | .sampleComplete _ _ _ | .sharedReadArrival _ _ _ | .crossbarAccept _ _ | .runStart _ | .runStop _
  | .modeChange _ _ | .unmute _ | .mute _ | .rampEnd _ | .lateLimitMute _ | .takeover _ | .clrPeak _ | .selfTestComplete _ _
  | .tickIndexRead _ _ _ | .chamberWrite _ | .chamberRead | .sluiceArm _ | .sluiceCancel _ | .sluiceApply _ | .broadcastOriginate
  | .sluiceBroadcastReceive _ _ _ | .glideStage _ | .glideStart _ | .glideEnd _ | .cutSwap _ | .cutEnd _ | .crossfadeEnd _
  | .chamberSyncComplete _ | .journalClear | .journalClearComplete | .journalReplay | .bceEnable | .bceJobStart _ | .bceStop
  | .bceStopComplete | .filterEnable _ | .filterDisable _ | .filterSwap | .filterOn _ | .filterOff _ | .inputBlockRelease _
  | .forwardSliceComplete _ | .multiplySliceComplete _ | .inverseSliceComplete _ | .probeSliceComplete _ | .bceDeadline _
  | .tailDelivery _ | .bceBusyWindow _ | .memOperation _ _ _ _ | .errorReRead _ _ | .sparingComplete _ | .bankRelease _
  | .bankReleaseComplete _ | .bankGrant _ _ | .qwaitClear _ | .windowRead _ | .windowWrite _ _ | .spargeComplete _ | .scrubPass _ _ _
  | .probeEnable | .probeStart | .probeStop | .weirBlock | .steepEnd _ | .bceFrameQueue _ _ | .resultPublish _ _ | .loopUpdate _
  | .loopEnable _ _ | .probeParityError | .blockInTimeTest _ _ | .nonaudioMuteEnd _ | .headgateOpen _ | .headgateClose _
  | .headgateCancel _ | .headgateEffect _ | .headgateRampEnd _ | .portOpen _ | .portClose _ | .portCloseComplete _ | .portMute _ _
  | .sapFrame _ _ _ _ | .slaveClockLost _ | .mclkControl _ _ | .linkTick _ | .linkFrameReceive _ _ _ _ _ | .linkEnable _
  | .linkDisable _ | .linkWake _ | .delayClear _ | .lossOfSignal _ | .noFrame _ | .unwrap | .unwrapApply | .wakeGo | .eyeUpdate _ _ _
  | .stepTime | .setTime | .timeReadLatch _ | .servoUpdate _ _ | .ptpMessage _ | .ppsInEdge | .linkOffsetUpdate | .holdoverEntry
  | .holdoverTimeout | .ppsOutput | .ptpLaneMove | .rxPacket _ _ | .txPacket _ | .streamLost _ | .rxEnable _ _ | .txEnable _ _
  | .laneEnable _ _ | .laneLinkChange _ _ | .controlMessage _ _ | .wakeFrame _ _ _ _ | .referenceStop | .referenceReturn
  | .clockFault _ | .pllLockDeclare _ _ | .mediaMonitorFail _ | .inputEdge _ | .inputStopped _ | .rateChangeGate _
  | .rateChangeRelock _ | .rejoinStep | .rejoinEnd _ | .referenceCheck _ | .goLoad | .verifyPassComplete | .loadingEntry
  | .applyPassComplete | .deviceRecord | .rategroupRecord | .programRecord | .coefRecord | .stateInitRecord | .bankMapRecord
  | .bankInitRecord | .routeRecord | .portRecord | .linkRecord | .netStreamRecord | .timeRecord | .bceJobRecord | .bceFilterRecord
  | .probeRecord | .alignGroupRecord | .powerPolicyRecord | .eventMapRecord | .regWriteRecord | .spareRecord | .restore
  | .trialWatchdog | .eraseSlot _ | .commitSlot _ | .confirm | .raiseMinver | .raiseEpoch | .revoke _ | .writeHeader _ _ | .writeFloors
  | .keyInstall _ _ _ | .keyLock _ | .recoveryWindowExpiry | .recoveryStart | .recoveryData _ | .recoveryDone | .recoveryAbort
  | .recoveryTimeout | .qspiRead _ _ _ | .qspiWrite _ _ _ _ | .i2cRead _ _ _ | .i2cWrite _ _ _ | .registerWrite _ _ | .mailboxGo
  | .getInfo | .regRead | .regWrite | .sensorRead | .logRead | .logClear | .flashRead _ | .flashWrite _ | .flashErase _ | .updateBegin
  | .updateData _ | .updateCommit | .updateAbort | .updateOwnerTimeout | .secOp | .tunnelSend | .tunnelRecv | .resetCmd
  | .mailboxCommandComplete | .tunnelMessage | .tunnelAckTimeout | .sensorUpdate _ _ | .thermalTrip _ | .managementWatchdog | .logCopy _
  | .gpioEdge _ _ | .eventForce _ | .eventClear _ _ | .powerOnReset | .brownoutWarning _ | .brownoutClear | .brownoutReset _ | .nrstPin
  | .hostFullReset | .warmReset | .warmResetComplete | .plRequest _ | .plChangeComplete | .hostVote _ | .domainDrop _
  | .domainPowerUp _ | .demandHoldExpiry _ | .sleepGo _ _ | .sleepEntryComplete | .sleepWake | .wakePin _ _ | .signalDetectWake _ _
  | .wakeFromS1 | .wakeFromS2S3 _ | .resleepCheck | .crossbarRetry _ _ | .coreMemoryReRead _ _ _ _ _ | .resetRelease
  | .laneFrameReceive _ _ | .linkLocalFallback _ => true

end Sys2Proof
end

