-- ==== Sys2Proof/Safety.lean ====
section
/-!
DEFINITION. What counts as a safe run, in the terms the statements use: the invariant of every step, and what a command may change.
-/

namespace Sys2Proof.Machine

open Sys2Proof

/-! ## The invariant -/

/-- Accumulator results stand in the order of visibility (03 R122). -/
def accSorted : List AccRes → Bool
  | [] => true
  | [_] => true
  | a :: b :: t => a.vis ≤ b.vis && accSorted (b :: t)

/-- The memories of a core are in canonical form, and so are the accumulator results and the buffered state writes of its sample. -/
def Core.ok (x : Core) : Bool :=
  memWf 0 x.state && (List.finRange 2).all (fun p => memWf 0 x.prog[p].mem && memWf 0 x.coef[p])
    && (match x.run with
        | some y => accSorted y.a && tabWf y.commit
        | none => true)

/-- Every memory of the device is in its canonical form: addresses rise and nothing listed equals what an unlisted address reads as;
so is the register file. -/
def State.ok (s : State) : Bool :=
  tabWf s.regs && (List.finRange 16).all (fun b => memWf 0 (s.bank b).mem) && (List.finRange 16).all (fun c => (s.core c).ok)
    && memWf 0xFF s.flash && memWf 0 s.bce.priv

/-! ## What a command may change -/

/-- Every register field but those at the keys given reads as before. -/
def State.RegsBut (s t : State) (keys : List Nat) : Prop := ∀ (f : Field) (k : Nat), f.key k ∉ keys → t.reg f k = s.reg f k

/-- Nothing but the register file differs, and there only the fields at the keys given. -/
def State.OnlyRegs (s t : State) (keys : List Nat) : Prop := { t with regs := s.regs } = s ∧ s.RegsBut t keys

/-- The state outside the registers, the log and the record of logged events is the same: what raising events may change (20 R774, R777). -/
def State.OnlyEvents (s t : State) : Prop :=
  { t with regs := s.regs, aonLog := s.aonLog, logPending := s.logPending, evtLogged := s.evtLogged } = s

/-- The keys that raising event `e` may write: its pending bit, its counter, those of EV122 and LOST (16 R693; 20 R774). -/
def eventKeys (e : Nat) : List Nat :=
  [EVT_PEND.key (e / 32), EVT_CNT.key e, EVT_PEND.key 3, EVT_CNT.key 122, MGT_LOG_STATUS_LOST.key 0]

/-- Event `e` is raised: its pending bit is set and its counter has gone up, unless it was full (20 R774). -/
def State.Raised (s t : State) (e : Nat) : Prop :=
  t.maskBit EVT_PEND (e % 32) (e / 32) = true ∧ t.reg EVT_CNT e = min (s.reg EVT_CNT e + 1) (2 ^ 32 - 1)

/-- What a command that acts on registers does: outside the registers (and the log, where it raises events) nothing differs; of the
registers only the fields at the keys given and those of the events differ; and each event is raised where the device is awake. -/
def State.Changes (s t : State) (keys : List Nat) (events : List Nat) : Prop :=
  (if events = [] then { t with regs := s.regs } = s else s.OnlyEvents t) ∧ s.RegsBut t (keys ++ events.flatMap eventKeys)
    ∧ (s.awake = true → ∀ e ∈ events, s.Raised t e)

/-- A field is counted up by one, unless it is full (00 R15). -/
def State.Counted (s t : State) (f : Field) (i : Nat) : Prop := t.reg f i = min (s.reg f i + 1) (2 ^ f.width - 1)

/-- Keys of the capture register of the shared memory (05 R235). -/
def captureKeys : List Nat := [MEM_CAP0_KIND.key 0, MEM_CAP0_BANK.key 0, MEM_CAP0_WORD.key 0, MEM_CAP0_REQ.key 0, MEM_CAP1_VALID.key 0]

/-- The capture register holds the first event since VALID was cleared: its kind, bank, word and requester (05 R235). -/
def State.Captured (s t : State) (kind : Nat) (b : BankId) (word who : Nat) : Prop :=
  t.flag MEM_CAP1_VALID = true ∧
    if s.flag MEM_CAP1_VALID then ∀ f ∈ [MEM_CAP0_KIND, MEM_CAP0_BANK, MEM_CAP0_WORD, MEM_CAP0_REQ], t.reg f = s.reg f
    else t.reg MEM_CAP0_KIND = kind ∧ t.reg MEM_CAP0_BANK = b.val ∧ t.reg MEM_CAP0_WORD = word % 2 ^ 20 ∧ t.reg MEM_CAP0_REQ = who % 2 ^ 5

/-- State `t` with the banks of `s`: for saying what a command at a bank changes beside it. -/
def State.AtBanks (s t : State) : State := { t with banks := s.banks }

/-- Keys of what a device announces of its time follower (11 R499, R509; 12 R526). -/
def followKeys : List Nat :=
  [RLK_GLB_STATUS_FOLLOW_VALID.key 0, RLK_GLB_STATUS_FOLLOW_PORT.key 0, RLK_GLB_STATUS_GM_HOPS.key 0, TIM_STATUS_CLASS.key 0,
   RLK_STATUS_TIME_FOLLOWER.key 0, RLK_STATUS_TIME_FOLLOWER.key 1, RLK_STATUS_TIME_FOLLOWER.key 2, RLK_STATUS_TIME_FOLLOWER.key 3]

/-- Every byte of every bank reads as before, but those at word `w` of bank `b`, which reads `v` (05 R193). -/
def State.StoresWord (s t : State) (b : BankId) (w : Nat) (v : Word) : Prop :=
  t.bankWord b w = v ∧ ∀ b' a, (b' = b → a / 4 ≠ w) → memByte 0 (t.bank b').mem a = memByte 0 (s.bank b').mem a

/-- No byte of any bank differs. -/
def State.StoresNothing (s t : State) : Prop := ∀ b a, memByte 0 (t.bank b).mem a = memByte 0 (s.bank b).mem a

/-- No mute, stop or unmute of a group waits for its tick, and no partial load, warm reset or sleep entry acts on it. -/
def State.Quiet (s : State) (g : GroupId) : Prop :=
  (s.group g).waitRamp = false ∧ s.power.warm = false ∧ s.power.entry = none ∧ (s.group g).stopReq = false ∧ (s.group g).muteReq = false
    ∧ (s.group g).unmuteReq = false ∧ (s.group g).pendMute = none

/-- A core's pages after a sluice that names it: each page the mask names is the other one (06 R255, R256). -/
def PagesSwapped (x y : Core) (pages : Nat) : Prop :=
  y.ppage = (if pages.testBit 1 then 1 - x.ppage else x.ppage) ∧ y.cpage = (if pages.testBit 0 then 1 - x.cpage else x.cpage)

/-! ## Records of a bitstream -/

/-- The command that applies a record of each type (14 R605). -/
def recordCommands : List (Nat × Instr) :=
  [(0x01, .deviceRecord), (0x02, .rategroupRecord), (0x03, .programRecord), (0x04, .coefRecord), (0x05, .stateInitRecord),
   (0x06, .bankMapRecord), (0x07, .bankInitRecord), (0x08, .routeRecord), (0x09, .portRecord), (0x0A, .linkRecord), (0x0B, .netStreamRecord),
   (0x0C, .timeRecord), (0x0D, .bceJobRecord), (0x0E, .bceFilterRecord), (0x0F, .probeRecord), (0x10, .alignGroupRecord),
   (0x11, .powerPolicyRecord), (0x12, .eventMapRecord), (0x13, .regWriteRecord), (0x14, .spareRecord)]

/-- Words at consecutive registers. -/
def imagesFrom (addr : Nat) (ws : List Word) : List (Nat × Word) := ws.zipIdx.map fun p => (addr + 4 * p.2, p.1)

/-- The register images of a record that holds nothing else (14 R605). -/
def recImages (r : Rec) : List (Nat × Word) :=
  match r.typ with
  | 0x01 => [(0x040048, r.w 0), (0x04004C, r.w 1), (0x050020, r.w 2), (0x050024, r.w 3)]
  | 0x06 => (bankEntries r.words).map fun e => (0x060100 + 0x40 * e.1, e.2.2)
  | 0x09 => imagesFrom (0x090000 + 0x100 * (r.wn 0 % 16)) [r.w 1, r.w 2]
  | 0x0A => (0x0A1000, r.w 0) :: (List.range 4).flatMap fun p => imagesFrom (0x0A0000 + 0x400 * p) [r.w (1 + 2 * p), r.w (2 + 2 * p)]
  | 0x0B => imagesFrom ((match r.wn 0 % 4 with
      | 0 => 0x0B0000 + 0x100 * (r.wn 0 / 4)
      | 1 => 0x0B1000 + 0x40 * (r.wn 0 / 4)
      | _ => 0x0B3000 + 0x40 * (r.wn 0 / 4))) (r.words.drop 1)
  | 0x0D => imagesFrom (0x051000 + 0x20 * (r.wn 0 % 128)) (r.words.drop 1)
  | 0x0E => imagesFrom (0x052000 + 0x40 * (r.wn 0 % 128)) ((r.words.drop 1).take 5)
  | 0x10 => (triples r.words).flatMap fun e => imagesFrom (0x081000 + 0x20 * (e.1.toNat % 256)) [e.2.1, e.2.2]
  | 0x12 => imagesFrom 0x100040 r.words
  | _ => []

/-! ## Mailbox commands -/

/-- The mailbox commands: code, and the sources that may send it: 0 host, 1 control channel, 2 tunnel (16 R677). -/
def mailboxCodes : List (Nat × List Nat) :=
  [(0x0001, [0, 1, 2]), (0x0002, [1, 2]), (0x0003, [1, 2]), (0x0010, [0, 1, 2]), (0x0020, [0, 1, 2]), (0x0021, [0, 1]), (0x0030, [0, 1]),
   (0x0031, [0, 1]), (0x0032, [0, 1]), (0x0040, [0, 1, 2]), (0x0041, [0, 1, 2]), (0x0042, [0, 1, 2]), (0x0043, [0, 1, 2]),
   (0x0050, [0, 1, 2]), (0x0060, [0, 1]), (0x0061, [0, 1]), (0x0070, [0, 1, 2])]

/-- An image in flash after a program: at `a` on the bits of `l` are cleared from what was there; every other byte reads as before
(16 R677). -/
def State.Programs (s t : State) (a : Nat) (l : List Byte) : Prop :=
  (∀ i < l.length, t.flashByte (a + i) = s.flashByte (a + i) &&& l.getD i 0)
    ∧ ∀ b, b < a ∨ a + l.length ≤ b → t.flashByte b = s.flashByte b

/-- `n` bytes from `a` on are erased, and every other byte reads as before. -/
def State.Erases (s t : State) (a n : Nat) : Prop :=
  (∀ b, a ≤ b → b < a + n → t.flashByte b = 0xFF) ∧ ∀ b, b < a ∨ a + n ≤ b → t.flashByte b = s.flashByte b

/-- A tunnel message leaves on the UP ports but one, cut into chunks, and on no other (11 R503; 16 R680). -/
def State.TunnelLeaves (s t : State) (but : Option LinkId) (l : List Word) : Prop :=
  ∀ q : LinkId, t.link q = if some q ≠ but ∧ s.linkState q = 3 then { s.link q with tunTx := (s.link q).tunTx ++ chunks l } else s.link q

/-! ## Operations of a core -/

/-- The command that issues an operation. -/
def coreCmd (i : Issue) : CoreOp → Instr
  | .mac4 f => .mac4 i f
  | .mac2c f => .mac2c i f
  | .mac2d f => .mac2d i f
  | .mac1 f => .mac1 i f
  | .muld f => .muld i f
  | .aconv f => .aconv i f
  | .aopMov f => .aopMov i f
  | .aopAdd f => .aopAdd i f
  | .aopSub f => .aopSub i f
  | .aopNeg f => .aopNeg i f
  | .aopAbs f => .aopAbs i f
  | .aopClr a => .aopClr i a
  | .aopClrq a => .aopClrq i a
  | .ash f => .ash i f
  | .ald f => .ald i f
  | .add f => .add i f
  | .sub f => .sub i f
  | .logAnd f => .logAnd i f
  | .logOr f => .logOr i f
  | .logXor f => .logXor i f
  | .logAndn f => .logAndn i f
  | .logNot f => .logNot i f
  | .shvArithmetic f => .shvArithmetic i f
  | .shvLogical f => .shvLogical i f
  | .shi f => .shi i f
  | .mmxMin f => .mmxMin i f
  | .mmxMax f => .mmxMax i f
  | .mmxAbs f => .mmxAbs i f
  | .mmxNeg f => .mmxNeg i f
  | .sel f => .sel i f
  | .cmp f => .cmp i f
  | .clip f => .clip i f
  | .immD f => .immediateLoadD i f
  | .immK f => .immediateLoadK i f
  | .lds f => .lds i f
  | .sts f => .sts i f
  | .ldc f => .ldc i f
  | .ldg f => .ldg i f
  | .stg f => .stg i f
  | .dtap f => .dtap i f
  | .ldq f => .ldq i f
  | .dtapi f => .dtapi i f
  | .gaddIndex f => .gaddIndex i f
  | .gaddLine f => .gaddLine i f
  | .gmovIndexSet f => .gmovIndexSet i f
  | .gmovIndexGet f => .gmovIndexGet i f
  | .gmovLineSet f => .gmovLineSet i f
  | .gmovLineGet f => .gmovLineGet i f
  | .kadd f => .kadd i f
  | .kmovToK f => .kmovToK i f
  | .kmovToD f => .kmovToD i f
  | .mov f => .mov i f
  | .movi f => .movi i f
  | .cmov f => .cmov i f
  | .pcmpz f => .pcmpz i f
  | .plogAnd f => .plogAnd i f
  | .plogOr f => .plogOr i f
  | .plogXor f => .plogXor i f
  | .plogAndn f => .plogAndn i f
  | .plogNot f => .plogNot i f
  | .plogSet t => .plogSet i t
  | .plogClr t => .plogClr i t
  | .pacc f => .pacc i f

/-- What is asked of slot `sl` of the bundle stands there and may issue now; the sample then is `x` (02 R50; 03 R112). -/
def IssuesAs (s : State) (i : Issue) (sl : Slot) (want : SlotRead) (x : Sample) : Prop := issue? (s.core i.core) i sl want = some x

/-- Operation `o` issues now, no check fails and its bundle is enabled (03 R116; 18 R736). -/
def Runs (s : State) (i : Issue) (o : CoreOp) (x : Sample) : Prop :=
  IssuesAs s i (encodeSlot o).1 (.op o) x ∧ (s.core i.core).xbarFail = false ∧ i.fail = none ∧ enabled x i.guard = true

/-- Core `c` has the sample `y` now; beside it only the two flags of the core's SC_SAT may differ (02 R85, R87). -/
def OnlySample (s t : State) (c : CoreId) (y : Sample) : Prop :=
  t.core c = { s.core c with run := some y } ∧ (∀ d, d ≠ c → t.core d = s.core d) ∧ { t with cores := s.cores, regs := s.regs } = s
    ∧ s.RegsBut t [SC_SAT_OUT_SAT.key c.val, SC_SAT_ACC_SAT.key c.val]

/-- The sticky flags after a command that saturated an output (`out`) or an accumulator (`acc`), in SC_SAT and in the sample (02 R87). -/
def ShowsSat (s t : State) (c : CoreId) (x y : Sample) (out acc : Bool) : Prop :=
  t.flag SC_SAT_OUT_SAT c.val = (s.flag SC_SAT_OUT_SAT c.val || out) ∧ t.flag SC_SAT_ACC_SAT c.val = (s.flag SC_SAT_ACC_SAT c.val || acc)
    ∧ y.sat = (x.sat || out || acc) ∧ y.outSat = false ∧ y.accSat = false

/-- Two samples agree in all but the register files given and the saturation flags. -/
def SameBut (x y : Sample) (d a p k gi gl : Bool) : Prop :=
  { y with d := if d then x.d else y.d, a := if a then x.a else y.a, p := if p then x.p else y.p, k := if k then x.k else y.k,
           gi := if gi then x.gi else y.gi, gl := if gl then x.gl else y.gl,
           outSat := x.outSat, accSat := x.accSat, sat := x.sat } = x

/-- A read request of a core goes out: its read waits for bundle `x.pos + 64` (unless the sample ends before), and its request stands in
the queue of the bank, or at the crossbar while that queue is full; no byte of memory differs (04 R169, R176, R177). -/
def Fetches (cmd : Instr) (s : State) (c : CoreId) (x : Sample) (b : BankId) (words : List Nat) (dest : ReadDest) : Prop :=
  ∃ t y, exec cmd s = .next t ∧ (t.core c).run = some y
    ∧ y.reads = (if x.pos + 64 < x.len then
        x.reads ++ [{ id := (s.core c).nextReq, due := x.pos + 64, dest := dest, data := words.map fun _ => none }] else x.reads)
    ∧ SameBut x { y with reads := x.reads } false false false false false false
    ∧ (let r : Req := { who := c.val, write := false, words := words, id := (s.core c).nextReq }
      if (s.bank b).room then (t.bank b).queue = (s.bank b).queue ++ [{ r with at_ := s.cycles }] ∧ (t.core c).waiting = (s.core c).waiting
      else t.banks = s.banks ∧ (t.core c).waiting = some (b, r))
    ∧ (t.core c).nextReq = (s.core c).nextReq + 1 ∧ s.StoresNothing t ∧ (∀ d, d ≠ c → t.core d = s.core d)

/-- A read that is not published to the core's group returns 0 for every word and is counted and captured; EV41 is raised (05 R201). -/
def FetchRefused (cmd : Instr) (s : State) (c : CoreId) (x : Sample) (b : BankId) (words : List Nat) (dest : ReadDest) : Prop :=
  ∃ t y, exec cmd s = .next t ∧ (t.core c).run = some y
    ∧ (x.pos + 64 < x.len → ⟨(s.core c).nextReq, x.pos + 64, dest, words.map fun _ => some 0, false⟩ ∈ y.reads)
    ∧ t.banks = s.banks ∧ s.Counted t MEM_BANK_UNPUB_CNT b.val ∧ s.Captured t 2 b (words.headD 0) c.val ∧ (s.awake = true → s.Raised t 41)

/-- The results `l'` are `l` with the value `v` for register `r` from bundle `vis` on: a later-visible result of `l` still replaces it,
and no other read differs (03 R120, R124). -/
def Adds {α : Type} (l l' : List (Res α)) (r vis : Nat) (v : α) : Prop :=
  (∀ j start, vis ≤ j → (∀ e ∈ l, e.reg = r → e.vis ≤ vis ∨ j < e.vis) → readAt l' r j start = v)
    ∧ ∀ q j start, (q ≠ r ∨ j < vis) → readAt l' q j start = readAt l q j start

/-- A result of latency `lam` issued in sample `x`: visible at its due bundle, or discarded when that is not before the end (03 R125). -/
def Result {α : Type} (x : Sample) (l l' : List (Res α)) (r lam : Nat) (v : α) : Prop :=
  if x.pos + lam < x.len then Adds l l' r (x.pos + lam) v else l' = l

/-- The value of accumulator `r` that bundle `j` reads. -/
def accRead (l : List AccRes) (r j : Nat) : Acc := accFold r j 0 l

/-- An accumulator takes `p` (ACC = 0) or the saturated sum with `p` (03 R133). -/
def accNext (acc : Bool) (old p : Acc) : Acc :=
  if acc then BitVec.ofInt 80 (max (-(2 ^ 79)) (min (2 ^ 79 - 1) (old.toInt + p.toInt))) else p

/-- The results `l'` are `l` with `p` given to the accumulators named, from bundle `vis` on (03 R122, R133). -/
def AccAdds (l l' : List AccRes) (vis : Nat) (acc : Bool) (ps : List (Nat × Acc)) : Prop :=
  (∀ r p, (r, p) ∈ ps → accRead l' r vis = accNext acc (accRead l r vis) p)
    ∧ (∀ r j, j < vis → accRead l' r j = accRead l r j)
    ∧ (∀ r j, (∀ p, (r, p) ∉ ps) → accRead l' r j = accRead l r j)

/-- Accumulator results of latency 3 (03 R121, R125). -/
def AccResult (x y : Sample) (acc : Bool) (ps : List (Nat × Acc)) : Prop :=
  if x.pos + 3 < x.len then AccAdds x.a y.a (x.pos + 3) acc ps else y.a = x.a

/-- A command gives D register `r` the value `v` after `lam` bundles; it shows in OUT_SAT when `sat`, unless it is discarded (03 R120,
R125, R156). -/
def WritesD (cmd : Instr) (s : State) (c : CoreId) (x : Sample) (r : Fin 32) (lam : Nat) (v : Word) (sat : Bool) : Prop :=
  ∃ t y, exec cmd s = .next t ∧ OnlySample s t c y ∧ ShowsSat s t c x y (x.outSat || (sat && decide (x.pos + lam < x.len))) x.accSat
    ∧ SameBut x y true false false false false false ∧ Result x x.d y.d r.val lam v

/-- A command gives predicate `r` the value `v` after `lam` bundles; a write of P0 is ignored (02 R47). -/
def WritesP (cmd : Instr) (s : State) (c : CoreId) (x : Sample) (r : Fin 8) (lam : Nat) (v : Bool) : Prop :=
  ∃ t y, exec cmd s = .next t ∧ OnlySample s t c y ∧ ShowsSat s t c x y x.outSat x.accSat ∧ SameBut x y false false true false false false
    ∧ if r = 0 then y.p = x.p else Result x x.p y.p r.val lam v

/-- A command gives coefficient pointer `r` the value `v` after one bundle. -/
def WritesK (cmd : Instr) (s : State) (c : CoreId) (x : Sample) (r : Fin 8) (v : Half) : Prop :=
  ∃ t y, exec cmd s = .next t ∧ OnlySample s t c y ∧ ShowsSat s t c x y x.outSat x.accSat ∧ SameBut x y false false false true false false
    ∧ Result x x.k y.k r.val 1 v

/-- A command gives the index (or the line) of generator `g` the value `v` after one bundle (04 R165). -/
def WritesG (cmd : Instr) (s : State) (c : CoreId) (x : Sample) (line : Bool) (g : Fin 16) (v : Nat) : Prop :=
  ∃ t y, exec cmd s = .next t ∧ OnlySample s t c y ∧ ShowsSat s t c x y x.outSat x.accSat
    ∧ SameBut x y false false false false (!line) line
    ∧ if line then Result x x.gl y.gl g.val 1 v else Result x x.gi y.gi g.val 1 v

/-- A pointer moves by the step of KINC after one bundle; KINC 0b00 writes nothing (03 R126, R135). -/
def Advances (core : Core) (x y : Sample) (k : Fin 8) (kinc : Fin 4) : Prop :=
  if kinc = 0 then y.k = x.k else Result x x.k y.k k.val 1 (kAt core x k + BitVec.ofNat 16 ([0, 1, 2, 4].getD kinc.val 0))

/-- A multiply gives accumulators aligned products under ACC and advances its pointer. -/
def Multiplies (cmd : Instr) (s : State) (c : CoreId) (x : Sample) (acc : Bool) (ps : List (Nat × Acc)) (adv : Option (Fin 8 × Fin 4)) : Prop :=
  ∃ t y, exec cmd s = .next t ∧ OnlySample s t c y ∧ ShowsSat s t c x y x.outSat x.accSat ∧ SameBut x y false true false true false false
    ∧ AccResult x y acc ps
    ∧ match adv with
      | some (k, kinc) => Advances (s.core c) x y k kinc
      | none => y.k = x.k

/-- An accumulator operation that reads at issue gives its accumulators new values and shows saturation in ACC_SAT, unless it is
discarded (03 R139, R140, R156). -/
def SetsA (cmd : Instr) (s : State) (c : CoreId) (x : Sample) (ps : List (Nat × Acc)) (sat : Bool) : Prop :=
  ∃ t y, exec cmd s = .next t ∧ OnlySample s t c y ∧ ShowsSat s t c x y x.outSat (x.accSat || (sat && decide (x.pos + 3 < x.len)))
    ∧ SameBut x y false true false false false false ∧ AccResult x y false ps

/-- An exact value clamped to 32 bits, and to 80 bits (02 R85, R87). -/
def clamped32 (e : Int) : Word := BitVec.ofInt 32 (max (-(2 ^ 31)) (min (2 ^ 31 - 1) e))
def clamped80 (e : Int) : Acc := BitVec.ofInt 80 (max (-(2 ^ 79)) (min (2 ^ 79 - 1) e))

/-- Whether an exact value lies outside the range of 32 bits, of 80 bits. -/
def outside32 (e : Int) : Bool := e < -(2 ^ 31) || 2 ^ 31 ≤ e
def outside80 (e : Int) : Bool := e < -(2 ^ 79) || 2 ^ 79 ≤ e

/-- A result of 32 bits by SAT: clamped, or the low 32 bits (03 R143). -/
def bySat (sat : Bool) (e : Int) : Word := if sat then clamped32 e else BitVec.ofInt 32 e

/-- The sum of products of a multiply in Q17.63, negated by NEG (02 R84; 03 R133). -/
def alignedProduct (cf neg : Bool) (e : Int) : Acc := BitVec.ofInt 80 ((if neg then -1 else 1) * (e * (if cf then 16 else 2)))

end Sys2Proof.Machine
end

