-- ==== Sys2Proof/Certificates/Slice0/Obligations.lean ====
section
/-!
DEFINITION. Statements for the provers.
-/

open Sys2Proof Sys2Proof.Machine

/-! ## The block as a whole -/

/-- A step takes the command at the front of the queue and runs it with the queue's rest; on an empty queue one memory cycle passes, and the
time counter advances by its rate word, but not in S2, S3 and S4 (log entry 1; 12 R511, R531). -/
def Obligations.StepRunsFront : Prop :=
  (∀ (s : State) (c : Instr) (rest : List Instr), s.pending = c :: rest → step s = exec c { s with pending := rest })
    ∧ ∀ s : State, s.pending = [] → s.hostBus = [] → s.qspi = none → s.power.entry = none → s.power.resleep = none →
      step s = .next { s with
        cycles := s.cycles + 1,
        tim := if s.power.sleep < 2 then s.tim + (5 * (2 ^ 48 + s.rateWord)).toNat else s.tim }

/-- After reset every register field reads its reset value, every group is OFF, the banks, the core memories and the flash list nothing, no
command waits, and every memory is in its canonical form. The values of state whose reset value the specification does not give are the
model's (log entries 5 to 7). -/
def Obligations.ResetValues : Prop :=
  State.reset.ok = true ∧ State.reset.pending = [] ∧ (∀ f ∈ fieldTable, ∀ i, State.reset.reg f i = f.reset)
    ∧ (∀ g, State.reset.rgState g = 0 ∧ State.reset.modeState g = 1) ∧ (∀ b, (State.reset.bank b).mem = [])
    ∧ (∀ c, (State.reset.core c).state = [] ∧ (State.reset.core c).run = none) ∧ State.reset.flash = [] ∧ State.reset.sec.phase = .start
    ∧ State.reset.reg GLB_ID_PART = 0x164800 ∧ State.reset.reg GLB_RST_CAUSE_LAST = 1 ∧ State.reset.reg PWR_PL_STATUS_CUR = 2
    ∧ State.reset.reg PWR_STATUS_DOMAINS = 0xF ∧ State.reset.reg PWR_BO_MIN_MV = 0x1FFF ∧ State.reset.reg SE_RG_CTL_SAFE_RAMP 3 = 0xA
    ∧ State.reset.reg HST_IRQ_CFG_POL_OD = 0xAA ∧ State.reset.flag TIM_STATUS_COARSE = true

/-- Every step keeps every memory in its canonical form: the register file, the banks, the core memories, what a sample has under way, the
private memory of the convolution engine and the flash. The form is the model's own (log entry 4). -/
def Obligations.StepKeepsForm : Prop :=
 ∀ s t : State, s.ok = true → step s = .next t → t.ok = true

/-- Reading the bundle that holds an operation alone gives back the operation, every operand at every value, its guard, and no operation in
the other slots; the bundle fits 64 bits and is legal, and so is no bundle of a reserved FORMAT (03 R112 to R115, R128 to R155). -/
def Obligations.BundleRoundTrip : Prop :=
  (∀ (guard : Fin 4) (o : CoreOp), encodable o = true → let w := encodeBundle guard o
    w < 2 ^ 64 ∧ (readBundle w).legal = true ∧ (readBundle w).guard = guard ∧ (readBundle w).slot (encodeSlot o).1 = .op o
      ∧ ∀ sl, sl ≠ (encodeSlot o).1 → (readBundle w).slot sl = .nop)
    ∧ ∀ w, 2 ≤ w / 2 ^ 62 % 4 → (readBundle w).legal = false

/-! ## Sample cores -/

/-- ADD, SUB, ABS, NEG, SHV, SHI and ACONV: the exact result, clamped or cut to 32 bits by SAT; a clamp shows in OUT_SAT
(03 R138, R143, R146; and what 03 R145 and R147
say of the result). -/
def Obligations.CoreArithmetic : Prop :=
  ∀ (s : State) (i : Issue) (x : Sample),
    (∀ f, Runs s i (.add f) x → let e := (dAt x f.a).toInt + (dAt x f.b).toInt
      WritesD (.add i f) s i.core x f.d 1 (if f.sat then clamped32 e else dAt x f.a + dAt x f.b) (f.sat && outside32 e))
    ∧ (∀ f, Runs s i (.sub f) x → let e := (dAt x f.a).toInt - (dAt x f.b).toInt
      WritesD (.sub i f) s i.core x f.d 1 (if f.sat then clamped32 e else dAt x f.a - dAt x f.b) (f.sat && outside32 e))
    ∧ (∀ f, Runs s i (.mmxAbs f) x →
      WritesD (.mmxAbs i f) s i.core x f.d 1
        (if dAt x f.a = 0x80000000 ∧ f.sat then 0x7FFFFFFF else if (dAt x f.a).msb then -(dAt x f.a) else dAt x f.a)
        (f.sat && dAt x f.a == 0x80000000))
    ∧ (∀ f, Runs s i (.mmxNeg f) x →
      WritesD (.mmxNeg i f) s i.core x f.d 1 (if dAt x f.a = 0x80000000 ∧ f.sat then 0x7FFFFFFF else -(dAt x f.a))
        (f.sat && dAt x f.a == 0x80000000))
    ∧ (∀ f, Runs s i (.shvArithmetic f) x → let n := ((dAt x f.b).extractLsb' 0 6).toInt
      let e := (dAt x f.a).toInt * 2 ^ n.toNat
      WritesD (.shvArithmetic i f) s i.core x f.d 1
        (if n < 0 then (dAt x f.a).sshiftRight (-n).toNat else bySat f.sat e) (f.sat && decide (0 ≤ n) && outside32 e))
    ∧ (∀ f, Runs s i (.shvLogical f) x → let n := ((dAt x f.b).extractLsb' 0 6).toInt
      WritesD (.shvLogical i f) s i.core x f.d 1 (if n < 0 then dAt x f.a >>> (-n).toNat else dAt x f.a <<< n.toNat) false)
    ∧ (∀ f, f.wf = true → Runs s i (.shi f) x → let n := f.n.toInt
      let e := (dAt x f.a).toInt * 2 ^ n.toNat
      WritesD (.shi i f) s i.core x f.d 1
        (if n < 0 then (if f.logical then dAt x f.a >>> (-n).toNat else (dAt x f.a).sshiftRight (-n).toNat)
         else bySat f.sat e) (f.sat && decide (0 ≤ n) && outside32 e))
    ∧ (∀ f, Runs s i (.aconv f) x → let e := roundTo32 f.rm ((aAt x f.a).toInt * 2 ^ f.sh.val)
      WritesD (.aconv i f) s i.core x f.d 2 (bySat f.sat e) (f.sat && outside32 e))

/-- LOG, MIN, MAX, CLIP, SEL, the moves and loads into a D register, and an immediate bundle (03 R148; and what 03 R115, R144, R147,
R149, R151 and R153 and 04 R165 and R168 say of the word written). -/
def Obligations.CoreDataMoves : Prop :=
  ∀ (s : State) (i : Issue) (x : Sample), let c := i.core
    (∀ f, Runs s i (.logAnd f) x → WritesD (.logAnd i f) s c x f.d 1 (dAt x f.a &&& dAt x f.b) false)
    ∧ (∀ f, Runs s i (.logOr f) x → WritesD (.logOr i f) s c x f.d 1 (dAt x f.a ||| dAt x f.b) false)
    ∧ (∀ f, Runs s i (.logXor f) x → WritesD (.logXor i f) s c x f.d 1 (dAt x f.a ^^^ dAt x f.b) false)
    ∧ (∀ f, Runs s i (.logAndn f) x → WritesD (.logAndn i f) s c x f.d 1 (dAt x f.a &&& ~~~(dAt x f.b)) false)
    ∧ (∀ f, Runs s i (.logNot f) x → WritesD (.logNot i f) s c x f.d 1 (~~~(dAt x f.a)) false)
    ∧ (∀ f, Runs s i (.mmxMin f) x →
      WritesD (.mmxMin i f) s c x f.d 1 (BitVec.ofInt 32 (min (dAt x f.a).toInt (dAt x f.b).toInt)) false)
    ∧ (∀ f, Runs s i (.mmxMax f) x →
      WritesD (.mmxMax i f) s c x f.d 1 (BitVec.ofInt 32 (max (dAt x f.a).toInt (dAt x f.b).toInt)) false)
    ∧ (∀ f, Runs s i (.clip f) x → let m := min (2 ^ 31 - 1) ((dAt x f.b).toInt.natAbs : Int)
      WritesD (.clip i f) s c x f.d 1 (BitVec.ofInt 32 (min (max (dAt x f.a).toInt (-m)) m)) false)
    ∧ (∀ f, Runs s i (.sel f) x →
      WritesD (.sel i f) s c x f.d 1 (if pAt x f.p = !f.inv then dAt x f.a else dAt x f.b) false)
    ∧ (∀ f, Runs s i (.mov f) x → WritesD (.mov i f) s c x f.d 1 (dAt x f.s) false)
    ∧ (∀ f, Runs s i (.movi f) x → WritesD (.movi i f) s c x f.d 1 (BitVec.ofInt 32 f.imm.toInt) false)
    ∧ (∀ f, Runs s i (.cmov f) x → pAt x ⟨4 + f.ps.val, by omega⟩ = true → WritesD (.cmov i f) s c x f.d 1 (dAt x f.s) false)
    ∧ (∀ f, Runs s i (.cmov f) x → pAt x ⟨4 + f.ps.val, by omega⟩ = false → ∃ t y, exec (.cmov i f) s = .next t
      ∧ OnlySample s t c y ∧ ShowsSat s t c x y x.outSat x.accSat ∧ SameBut x y false false false false false false)
    ∧ (∀ f, Runs s i (.immD f) x → WritesD (.immediateLoadD i f) s c x f.d 1 f.imm false)
    ∧ (∀ f, Runs s i (.kmovToD f) x →
      WritesD (.kmovToD i f) s c x f.d 1 (BitVec.ofNat 32 (kAt (s.core c) x f.k).toNat) false)
    ∧ (∀ f, Runs s i (.gmovIndexGet f) x →
      WritesD (.gmovIndexGet i f) s c x f.d 1 (BitVec.ofNat 32 (giAt (s.core c) x f.g)) false)
    ∧ (∀ f, Runs s i (.gmovLineGet f) x → WritesD (.gmovLineGet i f) s c x f.d 1 (BitVec.ofNat 32 (glAt x f.g)) false)
    ∧ (∀ f, Runs s i (.lds f) x → WritesD (.lds i f) s c x ⟨f.d.val, by omega⟩ 2
        ((tabGet? f.addr.toNat x.commit).getD (memWord (s.core c).state f.addr.toNat)) false)

/-- CMP, PCMPZ, PLOG and PACC set the predicate they name; a write of P0 is ignored (02 R47; 03 R150, R154, R155). -/
def Obligations.CorePredicates : Prop :=
  ∀ (s : State) (i : Issue) (x : Sample), let c := i.core
    (∀ f, Runs s i (.cmp f) x → let a := dAt x f.a
      let b := dAt x f.b
      WritesP (.cmp i f) s c x f.t 2
        (match f.cond with
          | .eq => a == b
          | .ne => a != b
          | .lt => if f.uns then a.ult b else a.slt b
          | .ge => !(if f.uns then a.ult b else a.slt b)
          | .le => !(if f.uns then b.ult a else b.slt a)
          | .gt => if f.uns then b.ult a else b.slt a))
    ∧ (∀ f, Runs s i (.pcmpz f) x → let a := dAt x f.a
      WritesP (.pcmpz i f) s c x f.t 1
        (match f.cond with
          | .eq => a == 0
          | .ne => a != 0
          | .lt => a.slt 0
          | .ge => !a.slt 0
          | .le => a.sle 0
          | .gt => !a.sle 0))
    ∧ (∀ f, Runs s i (.plogAnd f) x → WritesP (.plogAnd i f) s c x f.t 1 (pAt x f.a && pAt x f.b))
    ∧ (∀ f, Runs s i (.plogOr f) x → WritesP (.plogOr i f) s c x f.t 1 (pAt x f.a || pAt x f.b))
    ∧ (∀ f, Runs s i (.plogXor f) x → WritesP (.plogXor i f) s c x f.t 1 (pAt x f.a != pAt x f.b))
    ∧ (∀ f, Runs s i (.plogAndn f) x → WritesP (.plogAndn i f) s c x f.t 1 (pAt x f.a && !pAt x f.b))
    ∧ (∀ f, Runs s i (.plogNot f) x → WritesP (.plogNot i f) s c x f.t 1 (!pAt x f.a))
    ∧ (∀ p, Runs s i (.plogSet p) x → WritesP (.plogSet i p) s c x p 1 true)
    ∧ (∀ p, Runs s i (.plogClr p) x → WritesP (.plogClr i p) s c x p 1 false)
    ∧ (∀ f, Runs s i (.pacc f) x → let a := (aAt x f.a).toInt
      WritesP (.pacc i f) s c x f.t 1
        (match f.cond with
          | .neg => decide (a < 0)
          | .zero => decide (a = 0)
          | .pos => decide (0 < a)
          | .ovr => decide (2 ^ 63 ≤ a ∨ a < -(2 ^ 63))))

/-- Writes of a coefficient pointer and of an address generator, modulo its length or its lines; the index of a channel array counts
modulo 2^20 (03 R115, R151, R152; 04 R165).
STS puts its word into the commit buffer, where LDS of the same sample reads it and the state memory does not change; LDC reads the
coefficient page and advances its pointer (02 R55; 04 R168). -/
def Obligations.CorePointersAndLocalMemory : Prop :=
  (∀ (s : State) (i : Issue) (x : Sample), let c := i.core
    (∀ f, Runs s i (.kadd f) x →
      WritesK (.kadd i f) s c x f.k (BitVec.ofInt 16 ((kAt (s.core c) x f.k).toNat + f.imm.toInt)))
    ∧ (∀ f, Runs s i (.kmovToK f) x → WritesK (.kmovToK i f) s c x f.k (BitVec.ofNat 16 (dAt x f.d).toNat))
    ∧ (∀ f, Runs s i (.immK f) x → WritesK (.immediateLoadK i f) s c x f.k f.imm)
    ∧ (∀ f, Runs s i (.gaddIndex f) x → let g := genOf (s.core c) x f.g
      WritesG (.gaddIndex i f) s c x false f.g
        ((giAt (s.core c) x f.g + f.imm.toInt) % ((if g.kind = 1 then 2 ^ 20 else g.len : Nat) : Int)).toNat)
    ∧ (∀ f, Runs s i (.gaddLine f) x →
      WritesG (.gaddLine i f) s c x true f.g ((glAt x f.g + f.imm.toInt) % ((genOf (s.core c) x f.g).lines : Int)).toNat)
    ∧ (∀ f, Runs s i (.gmovIndexSet f) x → let g := genOf (s.core c) x f.g
      WritesG (.gmovIndexSet i f) s c x false f.g ((dAt x f.d).toNat % (if g.kind = 1 then 2 ^ 20 else g.len)))
    ∧ (∀ f, Runs s i (.gmovLineSet f) x →
      WritesG (.gmovLineSet i f) s c x true f.g ((dAt x f.d).toNat % (genOf (s.core c) x f.g).lines)))
  ∧ (∀ (s : State) (i : Issue) (x : Sample), let c := i.core
    (∀ f, Runs s i (.sts f) x → ∃ t y, exec (.sts i f) s = .next t ∧ OnlySample s t c y ∧ ShowsSat s t c x y x.outSat x.accSat
      ∧ SameBut x { y with commit := x.commit, writes := x.writes } false false false false false false ∧ y.writes = x.writes + 1
      ∧ (∀ a, stateWord (t.core c) y a = if a = f.addr.toNat then dAt x ⟨f.d.val, by omega⟩ else stateWord (s.core c) x a)
      ∧ ∀ a, memByte 0 (t.core c).state a = memByte 0 (s.core c).state a)
    ∧ (∀ f, Runs s i (.ldc f) x → ∃ t y, exec (.ldc i f) s = .next t ∧ OnlySample s t c y ∧ ShowsSat s t c x y x.outSat x.accSat
      ∧ SameBut x y true false false true false false ∧ Advances (s.core c) x y f.k f.kinc
      ∧ Result x x.d y.d f.d.val 2 (memWord (s.core c).coef[x.cpage] (kAt (s.core c) x f.k).toNat)))

/-- MAC4, MAC2C, MAC2D, MAC1, MULD and ALD: exact products aligned into Q17.63, under ACC and NEG, visible after three bundles; the
pointer advances by KINC (02 R81, R84; 03 R121, R122, R133 to R136, R141). -/
def Obligations.CoreMultiplies : Prop :=
  ∀ (s : State) (i : Issue) (x : Sample), s.ok = true → let c := i.core
    (∀ f, Runs s i (.mac4 f) x →
      Multiplies (.mac4 i f) s c x f.acc ((List.range 4).map fun j =>
        (4 * f.q.val + j, alignedProduct f.cf f.neg ((dAt x f.d).toInt * (coefAt (s.core c) x f.k j).toInt))) (some (f.k, f.kinc)))
    ∧ (∀ f, f.even = true → Runs s i (.mac2c f) x →
      let dr := (dAt x f.d).toInt
      let di := (dAt x ⟨(f.d.val + 1) % 32, by omega⟩).toInt
      let cr := (coefAt (s.core c) x f.k 0).toInt
      let ci := (coefAt (s.core c) x f.k 1).toInt
      Multiplies (.mac2c i f) s c x f.acc
        [(4 * f.q.val, alignedProduct f.cf f.neg (dr * cr - di * ci)), (4 * f.q.val + 1, alignedProduct f.cf f.neg (dr * ci + di * cr))]
        (some (f.k, f.kinc)))
    ∧ (∀ f, f.even = true → Runs s i (.mac2d f) x →
      Multiplies (.mac2d i f) s c x f.acc
        [(4 * f.q.val, alignedProduct f.cf f.neg ((dAt x f.d).toInt * (coefAt (s.core c) x f.k 0).toInt)),
         (4 * f.q.val + 1,
          alignedProduct f.cf f.neg ((dAt x ⟨(f.d.val + 1) % 32, by omega⟩).toInt * (coefAt (s.core c) x f.k 1).toInt))]
        (some (f.k, f.kinc)))
    ∧ (∀ f, Runs s i (.mac1 f) x →
      Multiplies (.mac1 i f) s c x f.acc
        [(f.a.val, alignedProduct f.cf f.neg ((dAt x f.d).toInt * (coefAt (s.core c) x f.k 0).toInt))] (some (f.k, f.kinc)))
    ∧ (∀ f, Runs s i (.muld f) x →
      Multiplies (.muld i f) s c x f.acc [(f.a.val, alignedProduct false f.neg ((dAt x f.d).toInt * (dAt x f.s).toInt))] none)
    ∧ (∀ f, Runs s i (.ald f) x →
      Multiplies (.ald i f) s c x f.acc
        [(f.a.val, BitVec.ofInt 80 ((if f.neg then -1 else 1) * ((dAt x f.d).toInt * 2 ^ 32)))] none)

/-- AOP and ASH read their accumulators at issue and saturate to 80 bits; a clamp shows in ACC_SAT (03 R140; and the
results of 03 R139). -/
def Obligations.CoreAccumulators : Prop :=
  ∀ (s : State) (i : Issue) (x : Sample), s.ok = true → let c := i.core
    (∀ f, Runs s i (.aopMov f) x → SetsA (.aopMov i f) s c x [(f.a.val, aAt x f.b)] false)
    ∧ (∀ f, Runs s i (.aopAdd f) x → let e := (aAt x f.a).toInt + (aAt x f.b).toInt
      SetsA (.aopAdd i f) s c x [(f.a.val, clamped80 e)] (outside80 e))
    ∧ (∀ f, Runs s i (.aopSub f) x → let e := (aAt x f.a).toInt - (aAt x f.b).toInt
      SetsA (.aopSub i f) s c x [(f.a.val, clamped80 e)] (outside80 e))
    ∧ (∀ f, Runs s i (.aopNeg f) x → let e := -(aAt x f.b).toInt
      SetsA (.aopNeg i f) s c x [(f.a.val, clamped80 e)] (outside80 e))
    ∧ (∀ f, Runs s i (.aopAbs f) x → let e := ((aAt x f.b).toInt.natAbs : Int)
      SetsA (.aopAbs i f) s c x [(f.a.val, clamped80 e)] (outside80 e))
    ∧ (∀ a, Runs s i (.aopClr a) x → SetsA (.aopClr i a) s c x [(a.val, 0)] false)
    ∧ (∀ a, Runs s i (.aopClrq a) x →
      SetsA (.aopClrq i a) s c x ((List.range 4).map fun j => (4 * (a.val / 4) + j, 0)) false)
    ∧ (∀ f, Runs s i (.ash f) x → let n := f.n.toInt
      let e := if n < 0 then (aAt x f.b).toInt / 2 ^ (-n).toNat else (aAt x f.b).toInt * 2 ^ n.toNat
      SetsA (.ash i f) s c x [(f.a.val, clamped80 e)] (outside80 e))

/-- A bundle whose guard reads 0 changes no register and no memory, and so does an empty slot: the sample moves on to the bundle and
nothing else (03 R114, R117).
A check that fails as a bundle issues is a core fault: CAUSE, BUNDLE and the sample's index are captured, the core issues nothing
more in the sample, nothing the operation would have done happens, and EVc is raised (18 R737, R756). -/
def Obligations.CoreOperationsWithoutEffect : Prop :=
  (∀ (s : State) (i : Issue) (x : Sample), (s.core i.core).xbarFail = false → i.fail = none →
    (∀ o, IssuesAs s i (encodeSlot o).1 (.op o) x → enabled x i.guard = false → ∃ t y, exec (coreCmd i o) s = .next t
      ∧ OnlySample s t i.core y ∧ ShowsSat s t i.core x y x.outSat x.accSat ∧ SameBut x y false false false false false false)
    ∧ ∀ sl, IssuesAs s i sl .nop x → ∃ t y, exec (.nop i sl) s = .next t
      ∧ OnlySample s t i.core y ∧ ShowsSat s t i.core x y x.outSat x.accSat ∧ SameBut x y false false false false false false)
  ∧ (∀ (s : State) (i : Issue) (o : CoreOp) (x : Sample) (f : CheckFail), IssuesAs s i (encodeSlot o).1 (.op o) x →
    (s.core i.core).xbarFail = false → i.fail = some f → s.awake = true → let c := i.core
    ∃ t y, exec (coreCmd i o) s = .next t ∧ (t.core c).run = some y ∧ y.dead = true ∧ y.d = x.d ∧ y.a = x.a ∧ y.p = x.p ∧ y.k = x.k
      ∧ y.gi = x.gi ∧ y.gl = x.gl ∧ y.commit = x.commit ∧ y.reads = x.reads ∧ t.banks = s.banks
      ∧ t.reg FLT_CORE_STATUS_CAUSE c.val = causeCode f ∧ t.reg FLT_CORE_STATUS_BUNDLE c.val = (i.bundle - x.off) % 2 ^ 15
      ∧ t.reg FLT_CORE_STATUS_PHASE c.val = 1 ∧ t.reg64 FLT_CORE_IDX_LO FLT_CORE_IDX_HI c.val = x.n % 2 ^ 64
      ∧ t.maskBit EVT_PEND c.val 0 = true)

/-! ## Shared memory -/

/-- LDG, LDQ, DTAP and DTAPI send their read to the bank that their generator addresses: LDG the word at delay OFF, LDQ four adjacent
words, DTAP the word at the delay in bits 31:16 of Ds limited to the line, DTAPI four words around a fractional delay (04 R164, R169,
R171, R179, R180).
STG sends its word to the bank: a permitted write waits in the bank's queue (or at the crossbar while the queue is full), and a write
of a core whose group does not own the bank is discarded, counted and captured, and EV40 raised; STG itself stores no byte (04 R169;
05 R198, R200). Outside a crossfade the word is Dd.
Where the rules leave it open it says the model's choice: log entries 8 and 10. -/
def Obligations.CoreSharedAccess : Prop :=
  (∀ (s : State) (i : Issue) (x : Sample), let c := i.core
    let at_ (g : Fin 16) (k : Nat) := genWord s (genOf (s.core c) x g) false x.n (giAt (s.core c) x g) (glAt x g) k
    let len (g : Fin 16) := lineLen s (genOf (s.core c) x g) false (glAt x g)
    (∀ f, Runs s i (.ldg f) x → let p := at_ f.g f.off.toNat
      (s.mayRead p.1 c.val = true ∨ (s.bank p.1).room = false → Fetches (.ldg i f) s c x p.1 [p.2] (.word f.d))
      ∧ (s.mayRead p.1 c.val = false → (s.bank p.1).room = true → FetchRefused (.ldg i f) s c x p.1 [p.2] (.word f.d)))
    ∧ (∀ f, Runs s i (.ldq f) x → let p (j : Nat) := at_ f.g (f.off.toNat + j)
      (s.mayRead (p 0).1 c.val = true ∨ (s.bank (p 0).1).room = false →
        Fetches (.ldq i f) s c x (p 0).1 [(p 0).2, (p 1).2, (p 2).2, (p 3).2] (.quad ⟨4 * f.qd.val, by omega⟩)))
    ∧ (∀ f, Runs s i (.dtap f) x → let k := (dAt x f.dly).toNat / 2 ^ 16
      let p := at_ f.g (min k (len f.g - 1))
      (s.mayRead p.1 c.val = true ∨ (s.bank p.1).room = false → Fetches (.dtap i f) s c x p.1 [p.2] (.word f.d))
      ∧ ∃ t, exec (.dtap i f) s = .next t
        ∧ t.flag SE_ADDR_DLY_CLAMP c.val = (s.flag SE_ADDR_DLY_CLAMP c.val || decide (len f.g - 1 < k)))
    ∧ (∀ f, Runs s i (.dtapi f) x → let r := tapDelay (len f.g) (dAt x f.dly)
      let p (j : Nat) := at_ f.g (r.1 - 1 + j)
      let law := tapLaw (s.core c) x (genOf (s.core c) x f.g) r.2.1
      (s.mayRead (p 0).1 c.val = true ∨ (s.bank (p 0).1).room = false →
        Fetches (.dtapi i f) s c x (p 0).1 [(p 0).2, (p 1).2, (p 2).2, (p 3).2] (.tap f.a f.acc f.neg law.1 law.2))
      ∧ ∃ t, exec (.dtapi i f) s = .next t ∧ t.flag SE_ADDR_TAP_CLAMP c.val = (s.flag SE_ADDR_TAP_CLAMP c.val || r.2.2)))
  ∧ (∀ (s : State) (i : Issue) (x : Sample) (f : SharedAccess), Runs s i (.stg f) x → x.xfade = none → let c := i.core
    let p := genWord s (genOf (s.core c) x f.g) true x.n (giAt (s.core c) x f.g) (glAt x f.g) f.off.toNat
    let r : Req := { who := c.val, write := true, words := [p.2], data := dAt x f.d }
    ∃ t y, exec (.stg i f) s = .next t ∧ s.StoresNothing t ∧ (t.core c).run = some y
      ∧ SameBut x y false false false false false false ∧ (∀ d, d ≠ c → t.core d = s.core d) ∧ (∀ b, b ≠ p.1 → t.bank b = s.bank b)
      ∧ ((s.bank p.1).room = true → s.mayWrite p.1 c.val = true →
          (t.bank p.1).queue = (s.bank p.1).queue ++ [{ r with at_ := s.cycles }] ∧ (t.core c).waiting = (s.core c).waiting)
      ∧ ((s.bank p.1).room = true → s.mayWrite p.1 c.val = false → t.bank p.1 = s.bank p.1
          ∧ s.Counted t MEM_BANK_NONOWNER_CNT p.1.val ∧ s.Captured t 1 p.1 p.2 c.val ∧ (s.awake = true → s.Raised t 40))
      ∧ ((s.bank p.1).room = false → t.bank p.1 = s.bank p.1 ∧ (t.core c).waiting = some (p.1, r)))

/-- Data due at bundle `v` reach their destination: a word or four into D registers, an interpolated tap into its accumulator four
bundles later; a read whose crossbar retry failed is a core fault; a request that waited at the crossbar goes to its bank once there is
room (04 R169, R176, R177, R180; 18 R748).
The arbiter of a bank serves one operation: a waiting write stores its word and nothing else, the lowest requester of a collision
wins and the other write is counted, captured and EV42 raised, a read delivers the words as they stand, with 0 for an uncorrectable one,
and a repair writes back (05 R208, R214, R218, R219). -/
def Obligations.BankQueues : Prop :=
  (∀ (s : State) (c : CoreId) (x : Sample) (r : SharedRead) (rest : List SharedRead) (n : Nat), (s.core c).run = some x → x.dead = false →
    s.ok = true → x.reads = r :: rest → (∀ q ∈ rest, q.due ≠ r.due) →
    (∀ d w, r.failed = false → r.dest = .word d → r.data = [some w] → ∃ t y, exec (.sharedReadArrival c (r.due + x.off) n) s = .next t
      ∧ t = s.setCore c { s.core c with run := some y } ∧ y.reads = rest ∧ y.stalls = x.stalls + n ∧ y.a = x.a ∧ y.p = x.p
      ∧ if r.due < x.len then Adds x.d y.d d.val r.due w else y.d = x.d)
    ∧ (∀ d w0 w1 w2 w3, r.failed = false → r.dest = .quad d → d.val + 3 < 32 → r.data = [some w0, some w1, some w2, some w3] → r.due < x.len →
      ∃ t y, exec (.sharedReadArrival c (r.due + x.off) n) s = .next t
      ∧ t = s.setCore c { s.core c with run := some y } ∧ y.reads = rest
      ∧ (List.range 4).map (fun j => readAt y.d (d.val + j) r.due 0) = [w0, w1, w2, w3] ∧ y.a = x.a ∧ y.p = x.p)
    ∧ (∀ a acc neg ws sh w0 w1 w2 w3, r.failed = false → r.dest = .tap a acc neg ws sh → r.data = [some w0, some w1, some w2, some w3] →
      r.due + 4 < x.len → ∃ t y, exec (.sharedReadArrival c (r.due + x.off) n) s = .next t
      ∧ t = s.setCore c { s.core c with run := some y } ∧ y.reads = rest ∧ y.d = x.d ∧ y.p = x.p
      ∧ AccAdds x.a y.a (r.due + 4) acc [(a.val, BitVec.ofInt 80 ((if neg then -1 else 1) * tapSum sh [w0, w1, w2, w3] ws))])
    ∧ (r.failed = true → ∃ t y, exec (.sharedReadArrival c (r.due + x.off) n) s = .next t ∧ (t.core c).run = some y ∧ y.dead = true
      ∧ y.d = x.d ∧ y.a = x.a ∧ t.reg FLT_CORE_STATUS_CAUSE c.val = 8 ∧ t.banks = s.banks)
    ∧ (∀ b q, (s.core c).waiting = some (b, q) → (s.bank b).room = true → q.write = true → s.mayWrite b q.who = true →
      ∃ t, exec (.crossbarAccept c n) s = .next t ∧ (t.core c).waiting = none ∧ (t.core c).run = some { x with stalls := x.stalls + n }
        ∧ (t.bank b).queue = (s.bank b).queue ++ [{ q with at_ := s.cycles }] ∧ s.StoresNothing t))
  ∧ (∀ (s : State) (b : BankId) (scrub : Nat) (err : MemErr), s.ok = true → s.flag MEM_BANK_STATUS_SPARGING b.val = false →
    (∀ w v unc rest, (s.bank b).repairs = .writeBack w v unc :: rest → ∀ other, ∃ t, exec (.memOperation b err scrub other) s = .next t
      ∧ s.StoresWord t b w v ∧ (t.bank b).repairs = .reRead w unc :: rest ∧ (t.bank b).queue = (s.bank b).queue
      ∧ s.AtBanks t = s)
    ∧ (∀ r w, (s.bank b).repairs = [] → (s.bank b).queue = [r] → r.write = true → r.words = [w] →
      ∃ t, exec (.memOperation b err scrub none) s = .next t ∧ s.StoresWord t b w r.data ∧ (t.bank b).queue = []
        ∧ s.Changes (s.AtBanks t) [MEM_BANK_QWAIT_PEAK.key b.val, MEM_BANK_QWAIT_GUARD_CNT.key b.val] [])
    ∧ (∀ r q w, (s.bank b).repairs = [] → (s.bank b).queue = [r, q] → r.write = true → q.write = true → r.words = [w] → q.words = [w] →
      r.at_ = q.at_ → r.who < q.who → q.who < 16 →
      ∃ t, exec (.memOperation b err scrub none) s = .next t ∧ s.StoresWord t b w r.data ∧ (t.bank b).queue = []
        ∧ s.Counted t MEM_BANK_WLOST_CNT b.val ∧ s.Captured t 3 b w q.who ∧ (s.awake = true → s.Raised t 42))
    ∧ (∀ (c : CoreId) x r, (s.bank b).repairs = [] → (s.bank b).queue = [r] → r.write = false → r.who = c.val → (s.core c).run = some x →
      ∃ t y, exec (.memOperation b err scrub none) s = .next t ∧ (t.core c).run = some y ∧ s.StoresNothing t ∧ (t.bank b).queue = []
        ∧ y.reads = x.reads.map (fun q => if q.id = r.id then { q with data :=
            match err with
            | .uncorrectable k => ((r.words.map fun w => some (s.bankWord b w)).set k.val (some 0))
            | _ => r.words.map fun w => some (s.bankWord b w) } else q)))

/-- An error is classed when its re-read completes: transient (CE_CNT, EV43), lasting (LASTING_CNT, EV44, sparing of the row) or
uncorrectable (UE_CNT, EV45), and no byte changes then; a row copy that completes is remapped; a sparge leaves every word 0; the
sleep walker writes 0 for what it could not correct (05 R218, R219, R221, R225, R227). -/
def Obligations.BankErrors : Prop :=
  ∀ (s : State) (b : BankId), s.ok = true →
    (∀ w rest, (s.bank b).repairs = .reRead w false :: rest → ∃ t, exec (.errorReRead b false) s = .next t
      ∧ (t.bank b).repairs = rest ∧ s.StoresNothing t ∧ s.Changes (s.AtBanks t) (MEM_BANK_CE_CNT.key b.val :: captureKeys) [43]
      ∧ s.Counted t MEM_BANK_CE_CNT b.val ∧ s.Captured t 4 b w 0)
    ∧ (∀ w rest, (s.bank b).repairs = .reRead w true :: rest → ∃ t, exec (.errorReRead b false) s = .next t
      ∧ (t.bank b).repairs = rest ∧ s.StoresNothing t ∧ s.Changes (s.AtBanks t) (MEM_BANK_UE_CNT.key b.val :: captureKeys) [45]
      ∧ s.Counted t MEM_BANK_UE_CNT b.val ∧ s.Captured t 6 b w 0)
    ∧ (∀ w rest, (s.bank b).repairs = .reRead w false :: rest → ∃ t, exec (.errorReRead b true) s = .next t
      ∧ (t.bank b).repairs = rest ∧ s.StoresNothing t ∧ s.Counted t MEM_BANK_LASTING_CNT b.val ∧ s.Captured t 5 b w 0
      ∧ (s.awake = true → s.Raised t 44) ∧ t.maskBit FLT_SUM_MEM_LASTING b.val = true
      ∧ ((s.bank b).copies = [] → 0 < (s.bank b).spares (w % 4) → (t.bank b).copies = [{ way := w % 4, row := w / 1024 }]))
    ∧ (∀ r rest, (s.bank b).copies = r :: rest → ∃ t, exec (.sparingComplete b) s = .next t
      ∧ (t.bank b).copies = rest ∧ (t.bank b).remaps = (s.bank b).remaps ++ [r] ∧ s.StoresNothing t
      ∧ t.reg MEM_BANK_STATUS_SPARE_Q b.val = rest.length % 2 ^ 4
      ∧ ∃ e ∈ t.aonLog, e.kind = 0x05 ∧ e.code = b.val * 4 + r.way ∧ e.arg = r.row)
    ∧ (s.flag MEM_BANK_STATUS_SPARGING b.val = true → ∀ stuck, ∃ t, exec (.spargeComplete stuck) s = .next t
      ∧ (∀ w, t.bankWord b w = 0) ∧ t.flag MEM_BANK_STATUS_SPARGING b.val = false
      ∧ ∀ d, s.flag MEM_BANK_STATUS_SPARGING d.val = false → (t.bank d).mem = (s.bank d).mem)
    ∧ (∀ n w lasting, s.power.sleep = 2 ∨ s.power.sleep = 3 → s.flag MEM_SCRUB_SLEEP_EN = true → (s.reg MEM_RET_MASK).testBit b.val = true →
      w < 786432 → ∃ t, exec (.scrubPass n [(b, w)] lasting) s = .next t ∧ s.StoresWord t b w 0
        ∧ t.walkCe = s.walkCe + n ∧ t.walkPasses = s.walkPasses + 1 ∧ t.walkLost = s.walkLost ++ [(b, w)] ∧ t.regs = s.regs)

/-- CROSSBAR_RETRY and CORE_MEMORY_RE_READ: a retry that succeeds is only counted; one that fails raises EV45, and a read of a core it
belongs to is marked failed, its newest write to the bank taken back; a core word that is clean on the re-read counts as transient,
one that fails again as lasting with EVc (18 R738, R748).
Where the rules leave it open it says the model's choice: log entry 10. -/
def Obligations.RetriesClassErrors : Prop :=
  ∀ (s : State) (c : CoreId) (b : BankId),
    (∀ x, ∃ t, exec (.crossbarRetry x false) s = .next t ∧ s.Changes t [FLT_XBAR_RETRY_CNT.key 0] [] ∧ s.Counted t FLT_XBAR_RETRY_CNT 0)
    ∧ (∀ x due, (s.core c).run = some x → ∃ t y, exec (.crossbarRetry (.coreRead c due) true) s = .next t ∧ (t.core c).run = some y
      ∧ s.Changes { t with cores := s.cores } [FLT_XBAR_RETRY_CNT.key 0, FLT_XBAR_FAIL_CNT.key 0, FLT_SUM_XBAR.key 0] [45]
      ∧ s.Counted t FLT_XBAR_FAIL_CNT 0 ∧ t.flag FLT_SUM_XBAR = true
      ∧ y.reads = x.reads.map fun r => if r.due + x.off = due then { r with failed := true } else r)
    ∧ (∀ x q r, (s.core c).run = some x → (s.bank b).queue = q ++ [r] → r.write = true → r.who = c.val →
      ∃ t, exec (.crossbarRetry (.coreWrite c b) true) s = .next t ∧ (t.bank b).queue = q ∧ (t.core c).xbarFail = true ∧ s.StoresNothing t)
    ∧ (∀ who w wr, ∃ t, exec (.crossbarRetry (.other who b w wr) true) s = .next t ∧ t.xbarFails = s.xbarFails ++ [(who, b, w, wr)]
      ∧ s.StoresNothing t)
    ∧ (∀ m word half, ∃ t, exec (.coreMemoryReRead c m word half false) s = .next t
      ∧ s.Changes t [FLT_CORE_LCE_CNT.key c.val] [] ∧ s.Counted t FLT_CORE_LCE_CNT c.val)
    ∧ (∀ m word half, ∃ t, exec (.coreMemoryReRead c m word half true) s = .next t
      ∧ s.Changes t [FLT_CORE_LLAST_CNT.key c.val, FLT_CORE_LADDR_WORD.key c.val, FLT_CORE_LADDR_MEM.key c.val, FLT_CORE_LADDR_HALF.key c.val,
          FLT_SUM_LOCAL_LASTING.key 0] [c.val]
      ∧ s.Counted t FLT_CORE_LLAST_CNT c.val ∧ t.reg FLT_CORE_LADDR_WORD c.val = word.toNat)

/-- The handover of a bank: an accepted release stops the owner's writes and, once those accepted before have landed, leaves the bank
without an owner; a grant of a released bank to an allowed class gives it that owner; each completes with EV47; what is not accepted
sets HANDOVER_ERR and changes nothing else; a write of QCLR clears PEAK and GUARD_CNT (05 R203 to R205, R237). -/
def Obligations.BankHandover : Prop :=
  ∀ (s : State) (b : BankId),
    (s.releaseOk b = true → ∃ t, exec (.bankRelease b) s = .next t ∧ s.AtBanks t = s
      ∧ t.bank b = { s.bank b with releasing := true } ∧ (∀ d, d ≠ b → t.bank d = s.bank d) ∧ ∀ who, t.mayWrite b who = false)
    ∧ (s.releaseOk b = false → ∃ t, exec (.bankRelease b) s = .next t ∧ s.Changes t [MEM_BANK_STATUS_HANDOVER_ERR.key b.val] []
      ∧ t.flag MEM_BANK_STATUS_HANDOVER_ERR b.val = true)
    ∧ ((s.bank b).releasing = true → (∀ r ∈ (s.bank b).queue, r.write = false) → ∃ t, exec (.bankReleaseComplete b) s = .next t
      ∧ s.Changes (s.AtBanks t) [MEM_BANK_STATUS_OWNER_NOW.key b.val, MEM_BANK_STATUS_RELEASED.key b.val] [47]
      ∧ (t.bank b).releasing = false ∧ (t.bank b).mem = (s.bank b).mem ∧ t.reg MEM_BANK_STATUS_OWNER_NOW b.val = 0
      ∧ t.flag MEM_BANK_STATUS_RELEASED b.val = true)
    ∧ (∀ cls : Fin 16, s.grantOk b cls.val = true → ∃ t, exec (.bankGrant b cls) s = .next t
      ∧ s.Changes t [MEM_BANK_STATUS_OWNER_NOW.key b.val, MEM_BANK_STATUS_RELEASED.key b.val] [47]
      ∧ t.reg MEM_BANK_STATUS_OWNER_NOW b.val = cls.val ∧ t.flag MEM_BANK_STATUS_RELEASED b.val = false)
    ∧ (∀ cls : Fin 16, s.grantOk b cls.val = false → ∃ t, exec (.bankGrant b cls) s = .next t
      ∧ s.Changes t [MEM_BANK_STATUS_HANDOVER_ERR.key b.val] [] ∧ t.flag MEM_BANK_STATUS_HANDOVER_ERR b.val = true)
    ∧ (∃ t, exec (.qwaitClear b) s = .next t
      ∧ s.Changes t [MEM_BANK_QWAIT_PEAK.key b.val, MEM_BANK_QWAIT_GUARD_CNT.key b.val] []
      ∧ t.reg MEM_BANK_QWAIT_PEAK b.val = 0 ∧ t.reg MEM_BANK_QWAIT_GUARD_CNT b.val = 0)

/-- The memory window: a write reaches the word of the page that MEM_WIN_SEL selects and no other byte, a read returns the word and changes
nothing; beyond the bank's words a read gives 0, a write is discarded and RANGE is set; a violation of ownership sets VIOL (05 R230 to
R233). -/
def Obligations.MemoryWindow : Prop :=
  ∀ (s : State) (word : BitVec 20) (v : Word), s.ok = true → s.xbarFails = [] → s.memErrs = [] → let b := s.winBank
    let w := word.toNat
    (s.reg MEM_WIN_SEL_SPACE = 0 → w < 786432 → s.flag MEM_BANK_STATUS_SPARGING b.val = false →
      (s.mayWrite b 19 = true → ∃ t, exec (.windowWrite word v) s = .next t ∧ s.StoresWord t b w v ∧ { t with banks := s.banks } = s)
      ∧ (s.mayWrite b 19 = false → ∃ t, exec (.windowWrite word v) s = .next t ∧ t.banks = s.banks
        ∧ s.Changes t (MEM_WIN_STATUS_VIOL.key 0 :: MEM_BANK_NONOWNER_CNT.key b.val :: captureKeys) [40]
        ∧ s.Counted t MEM_BANK_NONOWNER_CNT b.val ∧ s.Captured t 1 b w 19 ∧ t.flag MEM_WIN_STATUS_VIOL = true)
      ∧ (s.mayRead b 19 = true → ∃ t, exec (.windowRead word) s = .next t ∧ t.hostOut = [s.bankWord b w]
        ∧ { t with hostOut := s.hostOut } = s)
      ∧ (s.mayRead b 19 = false → ∃ t, exec (.windowRead word) s = .next t ∧ t.hostOut = [0] ∧ t.banks = s.banks
        ∧ t.flag MEM_WIN_STATUS_VIOL = true ∧ s.Counted t MEM_BANK_UNPUB_CNT b.val))
    ∧ (s.reg MEM_WIN_SEL_SPACE = 0 → 786432 ≤ w →
      (∃ t, exec (.windowWrite word v) s = .next t ∧ s.Changes t [MEM_WIN_STATUS_RANGE.key 0] [] ∧ t.flag MEM_WIN_STATUS_RANGE = true)
      ∧ ∃ t, exec (.windowRead word) s = .next t ∧ t.hostOut = [0] ∧ t.flag MEM_WIN_STATUS_RANGE = true ∧ t.banks = s.banks)
    ∧ (s.reg MEM_WIN_SEL_SPACE = 0 → w < 786432 → s.flag MEM_BANK_STATUS_SPARGING b.val = true →
      (∃ t, exec (.windowWrite word v) s = .next t ∧ s.Changes t [MEM_WIN_STATUS_SPARGE_HIT.key 0] []
        ∧ t.flag MEM_WIN_STATUS_SPARGE_HIT = true)
      ∧ ∃ t, exec (.windowRead word) s = .next t ∧ t.hostOut = [0] ∧ t.flag MEM_WIN_STATUS_SPARGE_HIT = true ∧ t.banks = s.banks)
    ∧ (s.reg MEM_WIN_SEL_SPACE = 1 → let a := s.privAddr w
      (s.privBusy a = false → ∃ t, exec (.windowWrite word v) s = .next t ∧ t.privWord a = v ∧ (∀ q, q ≠ a → t.privWord q = s.privWord q)
        ∧ { t with bce := s.bce } = s)
      ∧ (s.privBusy a = true → ∃ t, exec (.windowWrite word v) s = .next t ∧ s.Changes t [MEM_WIN_STATUS_VIOL.key 0] [37]
        ∧ t.flag MEM_WIN_STATUS_VIOL = true)
      ∧ ∃ t, exec (.windowRead word) s = .next t ∧ t.hostOut = [s.privWord a] ∧ { t with hostOut := s.hostOut } = s)

/-! ## Sample engine: groups and cores -/

/-- Host commands on a group and a core: RUN and MODE take what is written unless the group is being replaced; a stop, a mute and an
unmute wait for the tick, an unmute only with cause LATE or HOST; CLR_PEAK clears the peaks; TAKEOVER acts on a member with a ready spare
that is not in a retry; a self-test sets or clears BIST_FAIL; a read of the tick index returns it and latches its companions (02 R66 to
R71, R95, R102, R104, R108, R111).
Where the rules leave it open it says the model's choice: log entries 15 and 19. -/
def Obligations.GroupCommands : Prop :=
  ∀ (s : State) (g : GroupId) (c : CoreId),
    (s.runLocked g = false → (∃ t, exec (.runStart g) s = .next t ∧ s.Changes t [SE_RG_CTL_RUN.key g.val] [] ∧ t.flag SE_RG_CTL_RUN g.val = true)
      ∧ (s.flag SE_RG_CTL_RUN g.val = true → ∃ t, exec (.runStop g) s = .next t
        ∧ s.Changes { t with groups := s.groups } [SE_RG_CTL_RUN.key g.val] [] ∧ t.flag SE_RG_CTL_RUN g.val = false
        ∧ t.group g = { s.group g with stopReq := s.rgState g != 0, startDue := false } ∧ ∀ h, h ≠ g → t.group h = s.group h))
    ∧ (s.runLocked g = true → exec (.runStart g) s = .next s ∧ exec (.runStop g) s = .next s)
    ∧ (∀ m : Fin 4, m ≠ 3 → ∃ t, exec (.modeChange g m) s = .next t ∧ s.Changes t [SE_RG_CTL_MODE.key g.val] []
        ∧ t.reg SE_RG_CTL_MODE g.val = m.val)
    ∧ exec (.modeChange g 3) s = .next s
    ∧ (s.reg SE_RG_STATUS_MUTE_CAUSE g.val ∈ [1, 3] → ∃ t, exec (.unmute g) s = .next t ∧ { t with groups := s.groups } = s
        ∧ t.group g = { s.group g with unmuteReq := true } ∧ ∀ h, h ≠ g → t.group h = s.group h)
    ∧ (s.reg SE_RG_STATUS_MUTE_CAUSE g.val ∉ [1, 3] → exec (.unmute g) s = .next s)
    ∧ (s.rgState g ∉ [0, 5] → ∃ t, exec (.mute g) s = .next t ∧ { t with groups := s.groups } = s
        ∧ t.group g = { s.group g with muteReq := true, unmuteReq := false } ∧ ∀ h, h ≠ g → t.group h = s.group h)
    ∧ (∃ t, exec (.clrPeak c) s = .next t ∧ s.Changes t [SC_CYC_PEAK.key c.val, SC_STALL_PEAK.key c.val] []
        ∧ t.reg SC_CYC_PEAK c.val = 0 ∧ t.reg SC_STALL_PEAK c.val = 0)
    ∧ (s.isActive c = true → (s.readySpare c).isSome → s.reg FLT_CORE_STATUS_PHASE c.val ≠ 1 → (s.core c).takeover = none →
        ∃ t, exec (.takeover c) s = .next t ∧ { t with cores := s.cores } = s ∧ t.core c = { s.core c with takeover := some false }
          ∧ ∀ d, d ≠ c → t.core d = s.core d)
    ∧ ((s.readySpare c).isNone ∨ s.reg FLT_CORE_STATUS_PHASE c.val = 1 → exec (.takeover c) s = .next s)
    ∧ (∃ t, exec (.selfTestComplete c true) s = .next t ∧ s.Changes t [SE_STATUS_BIST_FAIL.key 0, SC_STATUS_STATE.key c.val] []
        ∧ t.maskBit SE_STATUS_BIST_FAIL c.val = false)
    ∧ (∃ t, exec (.selfTestComplete c false) s = .next t ∧ s.Changes t [SE_STATUS_BIST_FAIL.key 0, SC_STATUS_STATE.key c.val] [c.val]
        ∧ t.maskBit SE_STATUS_BIST_FAIL c.val = true ∧ t.reg SC_STATUS_STATE c.val = 6)
    ∧ (∀ i, ∃ t, exec (.tickIndexRead g false i) s = .next t ∧ { t with hostOut := s.hostOut, latches := s.latches } = s
        ∧ t.hostOut = [BitVec.ofNat 32 (s.group g).n] ∧ t.latch i SE_RG_TICK_HI_INDEX_HI g.val = (s.group g).n / 2 ^ 32 % 2 ^ 32)
    ∧ (∀ i, ∃ t, exec (.tickIndexRead g true i) s = .next t ∧ { t with hostOut := s.hostOut, latches := s.latches } = s
        ∧ t.hostOut = [BitVec.ofNat 32 ((s.group g).tickTim % timPerSec / timPerNs)]
        ∧ t.latch i SE_RG_TICK_SEC_LO g.val + 2 ^ 32 * t.latch i SE_RG_TICK_SEC_HI g.val = (s.group g).tickTim / timPerSec % 2 ^ 48)

/-- A sample whose tick of its group is due begins at that tick: its index and time are recorded; a tick that is not due changes
nothing (01 R26; 02 R49, R109).
A sample completes: its buffered state writes reach the state memory of the core and of its spare, the cycle and write figures are
shown, LATE and FAULT are cleared and the core has no sample under way (02 R52, R54, R56, R58, R98, R111).
Where the rules leave it open it says the model's choice: log entry 12. -/
def Obligations.SamplesBeginAndComplete : Prop :=
  (∀ (s : State) (g : GroupId) (fails : List (CoreId × CheckFail)),
    (s.dueTick g = none → exec (.sampleTick g fails) s = .next s)
    ∧ ∀ n, s.dueTick g = some n → ∃ t, exec (.sampleTick g fails) s = .next t ∧ (t.group g).begun = true ∧ (t.group g).n = n
      ∧ (t.group g).tickTim = s.tim ∧ (t.group g).tickCycle = s.cycles ∧ (t.group g).marks = [] ∧ t.tim = s.tim ∧ t.cycles = s.cycles
      ∧ t.pending = s.pending)
  ∧ (∀ (s : State) (c : CoreId) (x : Sample) (n : Nat), s.ok = true → (s.core c).run = some x → x.dead = false → x.second = none →
    partDone (s.core c) x = true → (∀ r ∈ x.reads, x.len ≤ r.due) → (s.core c).waiting = none → (s.core c).xbarFail = false →
    s.writesLanded c = true → ∃ t, exec (.sampleComplete c n none) s = .next t ∧ (t.core c).run = none
      ∧ (∀ d ∈ s.withSpare c, ∀ a, memWord (t.core d).state a = (tabGet? a x.commit).getD (memWord (s.core d).state a))
      ∧ (∀ d, d ∉ s.withSpare c → t.core d = s.core d) ∧ s.StoresNothing t
      ∧ t.reg SC_CYC_LAST c.val = min 65535 (x.off + x.len + 64 + (x.stalls + n)) ∧ t.reg SC_STALL_LAST c.val = min 65535 (x.stalls + n)
      ∧ t.reg SC_STWR_LAST c.val = min 8191 x.writes ∧ t.flag SC_STATUS_LATE c.val = false ∧ t.flag SC_STATUS_FAULT c.val = false)

/-- RAMP_END: a ramp-down that is over leads to the state it was for, with an event where the state changes; a ramp-up that is over leaves
the state as it is and RAMPING clear (02 R64, R66 to R68, R108).
LATE_LIMIT_MUTE: a late sample that brings CONSEC_LATE to LATE_LIMIT mutes a running group with cause LATE; the core's sample is
abandoned and counted and both events are raised (02 R73, R76 to R78).
Where the rules leave it open it says the model's choice: log entries 12, 14, 15 and 48. -/
def Obligations.GroupRampsAndLateMutes : Prop :=
  (∀ (s : State) (g : GroupId) (n : Nat) (r : Ramp), s.dueTick g = some n → s.marked g .ramp = false → s.Quiet g →
    (s.group g).ramp = some r → s.rampLen g r ≤ r.j →
    (∀ k, k < 5 → r.down = true → (s.group g).target = some k → let st := if k = 0 then 0 else if k = 4 then 4 else s.modeState g
      ∃ t, exec (.rampEnd g) s = .next t ∧ t.rgState g = st ∧ (t.group g).target = none ∧ s.StoresNothing t
        ∧ (s.rgState g ≠ st → s.awake = true → s.Raised t (20 + g.val)))
    ∧ (r.down = false → s.flag SE_RG_CTL_RUN g.val = true → s.modeState g = s.rgState g →
      ∃ t, exec (.rampEnd g) s = .next t ∧ t.rgState g = s.rgState g ∧ (t.group g).ramp = none
        ∧ t.flag SE_RG_STATUS_RAMPING g.val = false ∧ s.Changes { t with groups := s.groups } [SE_RG_STATUS_RAMPING.key g.val] []))
  ∧ (∀ (s : State) (g : GroupId) (n : Nat) (c : CoreId) (x : Sample), s.dueTick g = some n → (s.group g).marks = [] → s.Quiet g →
    (s.group g).ramp = none → s.rgState g = 1 → (s.group g).ran = true → s.reg SE_RG_STATUS_ACTIVE g.val = 2 ^ c.val →
    (s.core c).run = some x → x.dead = false → (s.core c).retrying = false → (s.core c).takeover = none →
    s.reg FLT_CORE_STATUS_PHASE c.val ≠ 1 → s.reg SE_RG_STATUS_CONSEC_LATE g.val < 15 → s.reg SE_RG_CTL_LATE_LIMIT g.val ≠ 0 →
    s.reg SE_RG_CTL_LATE_LIMIT g.val ≤ s.reg SE_RG_STATUS_CONSEC_LATE g.val + 1 →
    ∃ t, exec (.lateLimitMute g) s = .next t ∧ t.rgState g = 4 ∧ t.reg SE_RG_STATUS_MUTE_CAUSE g.val = 1
      ∧ s.Counted t SE_RG_LATE_CNT g.val ∧ s.Counted t SC_LATE_CNT c.val ∧ t.flag SC_STATUS_LATE c.val = true ∧ (t.core c).run = none
      ∧ memByte 0 (t.core c).state = memByte 0 (s.core c).state ∧ s.StoresNothing t
      ∧ (s.awake = true → s.Raised t (16 + g.val) ∧ s.Raised t (20 + g.val)))

/-! ## Update chamber -/

/-- A chamber write reaches the chamber page of every named core and of its spare at word INDEX and no other word, INDEX advances with
AUTOINC; a write to the active page or to a core in a crossfade is discarded with EV31; an access to a core whose chamber sync runs waits;
a read returns the word of the lowest named core (06 R242 to R245). -/
def Obligations.ChamberAccess : Prop :=
  ∀ (s : State) (v : Word), s.ok = true → let m := s.reg UC_CW_SEL_CORES
    let w := s.reg UC_CW_ADDR_INDEX % 65536
    let next := if s.flag UC_CW_ADDR_AUTOINC then (s.reg UC_CW_ADDR_INDEX + 1) % 65536 else s.reg UC_CW_ADDR_INDEX
    (s.flag UC_CW_SEL_PAGE = false → s.chamberBusy m = false → (maskCores m).any s.inCrossfade = false → s.flag UC_CTL_JNL_EN = false →
      ∃ t, exec (.chamberWrite v) s = .next t ∧ t.reg UC_CW_ADDR_INDEX = next
        ∧ s.Changes { t with cores := s.cores } [UC_CW_ADDR_INDEX.key 0, UC_CW_STATUS_NO_CORE.key 0] []
        ∧ (m = 0 → t.flag UC_CW_STATUS_NO_CORE = true)
        ∧ (∀ c ∈ maskCores m, ∀ d ∈ s.withSpare c, let x := s.core d
            memWord (t.core d).coef[1 - x.cpage] w = v ∧ (t.core d).coef[x.cpage] = x.coef[x.cpage]
            ∧ (∀ q, q ≠ w → memWord (t.core d).coef[1 - x.cpage] q = memWord x.coef[1 - x.cpage] q)
            ∧ (t.core d).prog = x.prog ∧ (t.core d).state = x.state ∧ (t.core d).run = x.run)
        ∧ ∀ d, (∀ c ∈ maskCores m, d ∉ s.withSpare c) → t.core d = s.core d)
    ∧ (s.flag UC_CW_SEL_PAGE = true → ∃ t, exec (.chamberWrite v) s = .next t
        ∧ s.Changes t [UC_CW_ADDR_INDEX.key 0, UC_CW_STATUS_NO_CORE.key 0, UC_CW_STATUS_DISCARD.key 0] [31]
        ∧ t.flag UC_CW_STATUS_DISCARD = true ∧ t.reg UC_CW_ADDR_INDEX = next)
    ∧ (s.flag UC_CW_SEL_PAGE = false → s.chamberBusy m = true → ∃ t, exec (.chamberWrite v) s = .next t
        ∧ t.hostBus = s.hostBus ++ [{ write := true, addr := 0x040018, data := v }] ∧ { t with hostBus := s.hostBus } = s)
    ∧ (∀ c rest, maskCores m = c :: rest → s.chamberBusy s.readCore = false → ∃ t, exec .chamberRead s = .next t
        ∧ t.hostOut = [memWord (s.core c).coef[if s.flag UC_CW_SEL_PAGE then (s.core c).cpage else 1 - (s.core c).cpage]
            (s.reg UC_CW_ADDR_INDEX)]
        ∧ s.Changes { t with hostOut := s.hostOut } [UC_CW_ADDR_INDEX.key 0] [] ∧ t.reg UC_CW_ADDR_INDEX = next)

/-- SLUICE_ARM: a busy slot, and every other check that fails, refuses the arm with its cause and EV25; an arm that passes all checks arms
the slot with the fields of UC_SL_CFG. SLUICE_CANCEL of an armed sluice whose effect is not near returns the slot to IDLE with result
CANCELLED (06 R247, R252).
A broadcast that no armed slot waits for is counted and raises EV29; one that names a slot's identifier gives that slot its time,
unless the time is past (06 R254). -/
def Obligations.SluicesAreArmed : Prop :=
  (∀ (s : State) (g : GroupId),
    (∀ cause, s.sluiceCause g (s.sluiceFields g) = some cause → ∃ t, exec (.sluiceArm g) s = .next t
      ∧ s.Changes t [UC_SL_STATUS_RESULT.key g.val, UC_SL_STATUS_CAUSE.key g.val, UC_SL_REFUSE_CNT.key g.val] [25]
      ∧ t.reg UC_SL_STATUS_RESULT g.val = 2 ∧ t.reg UC_SL_STATUS_CAUSE g.val = cause ∧ s.Counted t UC_SL_REFUSE_CNT g.val)
    ∧ (s.reg UC_SL_STATUS_STATE g.val ≠ 0 → ∃ t, exec (.sluiceArm g) s = .next t ∧ t.reg UC_SL_STATUS_CAUSE g.val = 1
      ∧ t.sluices = s.sluices)
    ∧ (s.sluiceCause g (s.sluiceFields g) = none → ∃ t, exec (.sluiceArm g) s = .next t
      ∧ t.sluices[g] = some (s.sluiceFields g) ∧ t.reg UC_SL_STATUS_STATE g.val = 1 ∧ t.reg UC_SL_STATUS_RESULT g.val = 0
      ∧ t.maskBit UC_STATUS_SL_ARMED g.val = true ∧ { t with regs := s.regs, sluices := s.sluices } = s)
    ∧ (∀ u, s.sluices[g] = some u → s.reg UC_SL_STATUS_STATE g.val = 1 → s.nearEffect g u = false → ∃ t, exec (.sluiceCancel g) s = .next t
      ∧ t.sluices[g] = none ∧ t.reg UC_SL_STATUS_STATE g.val = 0 ∧ t.reg UC_SL_STATUS_RESULT g.val = 3 ∧ t.cores = s.cores
      ∧ t.banks = s.banks))
  ∧ (∀ (s : State) (id : Half) (sec ns : Nat),
    let waits (g : GroupId) (u : Sluice) := s.sluices[g] = some u ∧ s.reg UC_SL_STATUS_STATE g.val = 1 ∧ u.mode = 2 ∧ u.at_ = none
      ∧ u.id = id.toNat
    ((∀ g u, ¬ waits g u) → ∃ t, exec (.sluiceBroadcastReceive id sec ns) s = .next t ∧ s.Changes t [UC_BC_MISS_CNT.key 0] [29]
      ∧ s.Counted t UC_BC_MISS_CNT 0)
    ∧ ∀ g u, waits g u → ∃ t, exec (.sluiceBroadcastReceive id sec ns) s = .next t
      ∧ (s.timePast g sec ns = false → t.sluices[g] = some { u with at_ := some (sec, ns), since := s.cycles }
        ∧ t.reg UC_SL_STATUS_STATE g.val = 1)
      ∧ (s.timePast g sec ns = true → t.sluices[g] = none ∧ t.reg UC_SL_STATUS_STATE g.val = 0 ∧ t.reg UC_SL_STATUS_RESULT g.val = 2
        ∧ t.reg UC_SL_STATUS_CAUSE g.val = 9))

/-- A sluice takes effect: with COPY the pages of the named core swap at the tick and the slot is idle again, a CUT swaps halfway and
ends at its last sample, a crossfade swaps at its end; a program swap applies the state-initialisation list; RESULT, the effect index,
the count and EV24 follow the effect, EV26 the end of a morph (06 R249, R255 to R259, R269, R270, R275).
Where the rules leave it open it says the model's choice: log entry 14. -/
def Obligations.SluicesTakeEffect : Prop :=
  ∀ (s : State) (g : GroupId) (n : Nat) (c : CoreId) (u : Sluice), s.dueTick g = some n → s.sluices[g] = some u → u.cores = 2 ^ c.val →
    u.heirs = 0 →
    (s.reg UC_SL_STATUS_STATE g.val = 1 → s.marked g .sluice = false → u.mode = 0 → u.at_ = none → u.morph = 0 → u.glides = false →
      u.since + 120 < s.cycles → (s.group g).stepped = false → ∃ t, exec (.sluiceApply g) s = .next t
      ∧ PagesSwapped (s.core c) (t.core c) u.pages ∧ (t.core c).coef = (s.core c).coef ∧ (t.core c).prog = (s.core c).prog
      ∧ (u.pages.testBit 1 = false → (t.core c).state = (s.core c).state)
      ∧ (∀ w v, u.pages.testBit 1 = true → (s.core c).chInit = [(w, v)] → (t.core c).state = memSetWord (s.core c).state w.toNat v
        ∧ (t.core c).chInit = [])
      ∧ t.sluices[g] = none ∧ t.reg UC_SL_STATUS_STATE g.val = 0 ∧ t.reg UC_SL_STATUS_RESULT g.val = 1
      ∧ t.reg64 UC_SL_EFF_LO UC_SL_EFF_HI g.val = n % 2 ^ 64 ∧ s.Counted t UC_SL_COUNT g.val ∧ (s.awake = true → s.Raised t 24))
    ∧ (s.reg UC_SL_STATUS_STATE g.val = 2 → u.swapped = false → u.a + 2 ^ (u.m - 1) ≤ n → n < u.a + 2 * 2 ^ (u.m - 1) →
      ∃ t, exec (.cutSwap g) s = .next t ∧ PagesSwapped (s.core c) (t.core c) u.pages ∧ t.reg UC_SL_STATUS_STATE g.val = 2
        ∧ t.sluices[g] = some { u with swapped := true })
    ∧ (s.reg UC_SL_STATUS_STATE g.val = 2 → u.swapped = true → 1 ≤ u.m → u.a + 2 ^ u.m ≤ n → ∃ t, exec (.cutEnd g) s = .next t
      ∧ t.sluices[g] = none ∧ t.reg UC_SL_STATUS_STATE g.val = 0 ∧ t.cores = s.cores ∧ (s.awake = true → s.Raised t 26))
    ∧ (s.reg UC_SL_STATUS_STATE g.val = 3 → u.a + 2 ^ u.m ≤ n → ∃ t, exec (.crossfadeEnd g) s = .next t
      ∧ PagesSwapped (s.core c) (t.core c) u.pages ∧ t.sluices[g] = none ∧ t.reg UC_SL_STATUS_STATE g.val = 0
      ∧ (s.awake = true → s.Raised t 26))

/-- Glides: a staged entry waits in the core and its spare (a core outside every group sets NOGROUP, a full list FULL, with EV31); a
linear glide starts with its first step at the coming tick, and ends with its target in the page, EV28 (06 R260 to R262, R264, R268).
Where the rules leave it open it says the model's choice: log entry 14. -/
def Obligations.Glides : Prop :=
  ∀ (s : State) (g : GroupId) (n : Nat) (c : CoreId), s.ok = true →
    (∀ v, s.reg UC_GL_SEL_CORES = 2 ^ c.val →
      (s.isActive c = true → (s.core c).glides.length < 1024 → ∃ t e, exec (.glideStage v) s = .next t
        ∧ (∀ d ∈ s.withSpare c, t.core d = { s.core d with glides := (s.core d).glides ++ [e] })
        ∧ (∀ d, d ∉ s.withSpare c → t.core d = s.core d) ∧ e.target = v ∧ e.word = BitVec.ofNat 16 (s.reg UC_GL_CFG_INDEX)
        ∧ e.k = s.reg UC_GL_CFG_K ∧ e.log = s.flag UC_GL_CFG_LAW ∧ e.run = none ∧ e.since = s.cycles)
      ∧ (s.isActive c = false → ∃ t, exec (.glideStage v) s = .next t ∧ s.Changes t [UC_GL_STATUS_NOGROUP.key 0] [31]
        ∧ t.flag UC_GL_STATUS_NOGROUP = true)
      ∧ (s.isActive c = true → 1024 ≤ (s.core c).glides.length → ∃ t, exec (.glideStage v) s = .next t
        ∧ s.Changes t [UC_GL_STATUS_FULL.key 0] [31] ∧ t.flag UC_GL_STATUS_FULL = true))
    ∧ (∀ e, s.dueTick g = some n → (s.group g).marks = [] → s.sluices[g] = none → s.reg SE_RG_STATUS_ACTIVE g.val = 2 ^ c.val →
      (s.core c).glides = [e] →
      (e.run = none → e.withSluice = false → e.log = false → 1 ≤ e.k → e.since + 120 < s.cycles →
        let p := (s.core c).cpage
        let w0 := memWord (s.core c).coef[p] e.word.toNat
        ∃ t, exec (.glideStart g) s = .next t
          ∧ memWord (t.core c).coef[p] e.word.toNat = BitVec.ofInt 32 (w0.toInt + (e.target.toInt - w0.toInt) / 2 ^ e.k)
          ∧ (∀ q, q ≠ e.word.toNat → memWord (t.core c).coef[p] q = memWord (s.core c).coef[p] q)
          ∧ (t.core c).glides = [{ e with run := some { j := 1, w0 := w0, page := p, start := n } }])
      ∧ (∀ u, e.run = some u → u.start ≠ n → 2 ^ e.k ≤ u.j + 1 → ∃ t, exec (.glideEnd g) s = .next t
          ∧ memWord (t.core c).coef[u.page] e.word.toNat = e.target ∧ (t.core c).glides = [] ∧ (s.awake = true → s.Raised t 28)))

/-- A chamber sync that completes leaves the chamber pages equal to the active ones, in the core and its spare, and raises EV27 when it is
the last of its tick; the journal is cleared to zeros; a replay writes a committed word into the active page (06 R278, R279, R284,
R285).
Where the rules leave it open it says the model's choice: log entry 16. -/
def Obligations.SyncAndJournal : Prop :=
  ∀ (s : State) (c : CoreId), s.ok = true →
    (∀ r, (s.core c).sync = some r → ∃ t, exec (.chamberSyncComplete c) s = .next t
      ∧ (∀ d ∈ s.withSpare c, let x := s.core d
          (t.core d).sync = none ∧ t.flag UC_CORE_STATUS_SYNC_BUSY d.val = false
          ∧ (r.coef = true → (t.core d).coef[1 - x.cpage] = x.coef[x.cpage]) ∧ (r.prog = true → (t.core d).prog[1 - x.ppage] = x.prog[x.ppage])
          ∧ (t.core d).coef[x.cpage] = x.coef[x.cpage] ∧ (t.core d).prog[x.ppage] = x.prog[x.ppage])
      ∧ (∀ d, d ∉ s.withSpare c → t.core d = s.core d) ∧ s.StoresNothing t
      ∧ ((∀ d, d ∉ s.withSpare c → (s.core d).sync = none) → s.awake = true → s.Raised t 27))
    ∧ (∃ t, exec .journalClear s = .next t ∧ { t with jnlClearing := s.jnlClearing } = s
      ∧ t.jnlClearing = (s.jnlClearing || s.reg UC_JNL_CFG_SIZE != 0))
    ∧ (s.jnlClearing = true → s.xbarFails = [] → s.mayWrite s.jnlBank 19 = true → let b := s.jnlBank
      let lo := s.reg UC_JNL_BASE
      ∃ t, exec .journalClearComplete s = .next t ∧ t.jnlClearing = false ∧ t.reg UC_JNL_STATUS_ENTRIES = 0
      ∧ t.flag UC_JNL_STATUS_FULL = false ∧ (∀ i, i < 256 * s.reg UC_JNL_CFG_SIZE → t.bankWord b (lo + i) = 0)
      ∧ (∀ d w, (d = b → w < lo ∨ lo + 256 * s.reg UC_JNL_CFG_SIZE ≤ w) → t.bankWord d w = s.bankWord d w)
      ∧ s.Changes { t with banks := s.banks, jnlClearing := s.jnlClearing } [UC_JNL_STATUS_ENTRIES.key 0, UC_JNL_STATUS_FULL.key 0] [])
    ∧ (s.replayDue = false → exec .journalReplay s = .next s)
    ∧ (∀ w v a, s.replayDue = true → w < 65536 → s.jnlRead s.jnlCap 0 = [(1, c.val * 2 ^ 24 + w, v), (2, 2 ^ c.val, a)] →
      ∃ t, exec .journalReplay s = .next t ∧ t.replayDue = false ∧ t.reg UC_JNL_STATUS_ENTRIES = 2 ∧ t.reg UC_JNL_STATUS_SKIP = 0
      ∧ memWord (t.core c).coef[(s.core c).cpage] w = v
      ∧ (t.core c).coef[1 - (s.core c).cpage] = (t.core c).coef[(s.core c).cpage]
      ∧ (∀ d, d ∉ s.withSpare c → t.core d = s.core d) ∧ s.StoresNothing t)

/-! ## Block convolution engine -/

/-- Starting and stopping: EN = 1 gives every valid job a start index at a multiple of its largest class after the registered tick, the job
runs from that tick; EN = 0 gives each group the first multiple of 16 at least 17 ticks on (07 R325, R326, R331). A write registered
within 200 ns of a tick may count as before or after it.
Where the rules leave it open it says the model's choice: log entry 25. -/
def Obligations.BceStartStop : Prop :=
  ∀ (s : State),
    let near (g : GroupId) (f : Nat → Nat) (a : Nat) := a = f (s.group g).n ∨ a = f ((s.group g).n + 1)
    (s.flag BCE_CTL_EN = false → s.flag BCE_STATUS_STOPPING = false → ∃ t, exec .bceEnable s = .next t ∧ t.flag BCE_CTL_EN = true
      ∧ t.flag BCE_STATUS_RUN = true ∧ t.banks = s.banks ∧ t.bce.priv = s.bce.priv
      ∧ ∀ j, j < 128 → s.jobValid j = true → t.reg BCE_JOB_STATUS_STATE j = 1
        ∧ near (s.jobGroup j) (fun n => nextMultiple (s.jobMax j) (n + 1) % 2 ^ 64) (t.jobStart j))
    ∧ (s.flag BCE_CTL_EN = false → s.flag BCE_STATUS_STOPPING = true → ∃ t, exec .bceEnable s = .next t ∧ s.Changes t [BCE_CTL_EN.key 0] []
      ∧ t.flag BCE_CTL_EN = true)
    ∧ (s.flag BCE_CTL_EN = true → exec .bceEnable s = .next s)
    ∧ (∀ j : Fin 128, s.reg BCE_JOB_STATUS_STATE j.val = 1 → s.jobStart j.val ≤ s.tickNow (s.jobGroup j.val) →
      ∃ t, exec (.bceJobStart j) s = .next t ∧ s.Changes t [BCE_JOB_STATUS_STATE.key j.val] [] ∧ t.reg BCE_JOB_STATUS_STATE j.val = 2)
    ∧ (s.flag BCE_CTL_EN = true → s.flag BCE_STATUS_STOPPING = false → ∃ t, exec .bceStop s = .next t ∧ t.flag BCE_CTL_EN = false
      ∧ t.flag BCE_STATUS_STOPPING = true
      ∧ s.Changes { t with bce := s.bce, free := s.free } [BCE_CTL_EN.key 0, BCE_STATUS_STOPPING.key 0] []
      ∧ ∀ g, ∃ a, tabGet? g.val t.bce.stop = some a ∧ near g (fun n => nextMultiple 16 (n + 17)) a)
    ∧ (s.ok = true → s.flag BCE_STATUS_STOPPING = true → s.stopDone = true → s.flag BCE_CTL_EN = false →
      ∃ t, exec .bceStopComplete s = .next t ∧ t.flag BCE_STATUS_RUN = false ∧ t.flag BCE_STATUS_STOPPING = false
        ∧ (s.awake = true → s.Raised t 38) ∧ t.bce.running = none ∧ t.bce.ready = []
        ∧ (∀ j, j < 128 → s.jobValid j = true → t.reg BCE_JOB_STATUS_STATE j = 0)
        ∧ ∀ f, f < 128 → s.flag BCE_FLT_CFG_VALID f = true → t.fltState f = 0
          ∧ ∀ i, i < 2 ^ s.reg BCE_FLT_RING_RLOG2 f → t.privWord (s.reg BCE_FLT_RING_BASE f + i) = 0)

/-- Filters: an enable that is accepted while the engine runs gives the filter its s_on and STATE PENDING with EV33, one that is refused
sets EN_ERR; a disable gives s_off; a swap lets the new filter's s_on be the old one's s_off; at those ticks the states become ON and OFF
(07 R327 to R330). -/
def Obligations.BceFilters : Prop :=
  ∀ (s : State) (f : Fin 128), let k := f.val
    let n := (s.group (s.fltGroup k)).n
    let on (nr : Nat) := nextMultiple (s.jobMax (s.fltJob k)) (max (nr + 1) (s.jobStart (s.fltJob k)) + s.jobLead (s.fltJob k))
    let eff := [BCE_FLT_STATUS_STATE.key k, BCE_FLT_EFF_LO.key k, BCE_FLT_EFF_HI.key k]
    (s.fltState k = 0 → s.flag BCE_FLT_CTL_EN k = false → s.fltRefused k = true → ∃ t, exec (.filterEnable f) s = .next t
      ∧ s.Changes t [BCE_STATUS_EN_ERR.key 0] [] ∧ t.flag BCE_STATUS_EN_ERR = true)
    ∧ (s.fltState k = 0 → s.flag BCE_FLT_CTL_EN k = false → s.fltRefused k = false →
      (s.flag BCE_STATUS_RUN = false → ∃ t, exec (.filterEnable f) s = .next t ∧ s.Changes t [BCE_FLT_CTL_EN.key k] []
        ∧ t.flag BCE_FLT_CTL_EN k = true)
      ∧ (s.flag BCE_STATUS_RUN = true → s.flag BCE_STATUS_STOPPING = false → ∃ t a, exec (.filterEnable f) s = .next t
        ∧ s.Changes { t with bce := s.bce, free := s.free } (BCE_FLT_CTL_EN.key k :: eff) [33] ∧ t.fltState k = 1
        ∧ (a = on n ∨ a = on (n + 1)) ∧ tabGet? k t.bce.on = some a ∧ t.reg64 BCE_FLT_EFF_LO BCE_FLT_EFF_HI k = a % 2 ^ 64))
    ∧ (s.flag BCE_FLT_CTL_EN k = true → s.fltState k ∈ [1, 2] → ∃ t a, exec (.filterDisable f) s = .next t
      ∧ s.Changes { t with bce := s.bce, free := s.free } (BCE_FLT_CTL_EN.key k :: eff) [33] ∧ t.fltState k = 3
      ∧ t.flag BCE_FLT_CTL_EN k = false ∧ (a = nextMultiple 16 (n + 17) ∨ a = nextMultiple 16 (n + 18)) ∧ tabGet? k t.bce.off = some a)
    ∧ (s.flag BCE_FLT_CTL_EN k = true → s.fltState k = 0 → ∃ t, exec (.filterDisable f) s = .next t
      ∧ s.Changes t [BCE_FLT_CTL_EN.key k] [] ∧ t.flag BCE_FLT_CTL_EN k = false)
    ∧ (let o := s.reg BCE_SWAP_OLD
      let w := s.reg BCE_SWAP_NEW
      let fits := s.fltJob o = s.fltJob w ∧ s.sameTail o w = true ∧ s.fltState o = 2 ∧ s.fltState w = 0
        ∧ s.flag BCE_FLT_CFG_VALID w = true ∧ s.jobValid (s.fltJob w) = true
      (o < 128 → w < 128 → fits → ∃ t a, exec .filterSwap s = .next t ∧ t.fltState o = 3 ∧ t.fltState w = 1
        ∧ tabGet? w t.bce.on = some a ∧ tabGet? o t.bce.off = some a ∧ t.banks = s.banks ∧ t.bce.priv = s.bce.priv)
      ∧ (¬ fits → ∃ t, exec .filterSwap s = .next t ∧ s.Changes t [BCE_STATUS_SWAP_ERR.key 0] [] ∧ t.flag BCE_STATUS_SWAP_ERR = true))
    ∧ (∀ a, tabGet? k s.bce.on = some a → s.fltState k = 1 → a ≤ s.tickNow (s.fltGroup k) → ∃ t, exec (.filterOn f) s = .next t
      ∧ s.Changes t [BCE_FLT_STATUS_STATE.key k] [33] ∧ t.fltState k = 2)
    ∧ (∀ a, tabGet? k s.bce.off = some a → s.fltState k = 3 → a ≤ s.tickNow (s.fltGroup k) → ∃ t, exec (.filterOff f) s = .next t
      ∧ s.Changes { t with bce := s.bce } [BCE_FLT_STATUS_STATE.key k] [33] ∧ t.fltState k = 0 ∧ t.bce.priv = s.bce.priv)

/-- Slices: a forward transform that completes makes the multiply slices of every contributing filter ready, the last multiply of an output
block its inverse, and an inverse closes its block and adds into the ring; a word of private memory that was uncorrectable is 0
afterwards, FLT_SUM.BCE_UE is set and EV36 raised; a released input block makes its forward slice ready (07 R297, R298, R311, R320, R321;
18 R752).
Where the rules leave it open it says the model's choice: log entry 24. -/
def Obligations.BceSlices : Prop :=
  ∀ (s : State), s.ok = true →
    let waits (t : State) (x : Slice) := x ∈ t.bce.ready ∨ t.bce.running = some x
    (∀ j cls k, s.bce.running = some (.forward j cls k) → ∃ t, exec (.forwardSliceComplete none) s = .next t
      ∧ ∀ f p, f ∈ s.jobFilters j → s.contributes f cls (k + s.segRatio j cls) = true → p < s.segCount j cls →
        waits t (.multiply j f cls (k + s.segRatio j cls) p))
    ∧ (∀ j f cls b p, s.bce.running = some (.multiply j f cls b p) → (∀ q, Slice.multiply j f cls b q ∉ s.bce.ready) →
      ∃ t, exec (.multiplySliceComplete none) s = .next t ∧ waits t (.inverse j f cls b))
    ∧ (∀ j f cls b, s.bce.running = some (.inverse j f cls b) → ∃ t, exec (.inverseSliceComplete none) s = .next t
      ∧ (f, cls, b) ∈ t.bce.closed ∧ s.StoresNothing t
      ∧ ((tabGet s.bce.acc (4 * f + cls) []).all (fun x => x == 0) = true → ∀ w, t.privWord w = s.privWord w))
    ∧ (∀ j f cls b w, s.bce.running = some (.inverse j f cls b) → (tabGet s.bce.acc (4 * f + cls) []).all (fun x => x == 0) = true →
      ∃ t, exec (.inverseSliceComplete (some w)) s = .next t ∧ t.privWord w = 0 ∧ t.flag FLT_SUM_BCE_UE = true
        ∧ (s.awake = true → s.Raised t 36))
    ∧ (∀ g j cls, j < 128 → s.jobValid j = true → s.jobGroup j = g → s.reg BCE_JOB_STATUS_STATE j = 2 → cls ∈ s.jobClasses j →
      let n := s.tickNow g
      let k := n / classSize cls - 1
      n % classSize cls = 0 → s.jobStart j + classSize cls ≤ n → tabGet? (4 * j + cls) s.bce.released ≠ some k →
      ∃ t, exec (.inputBlockRelease g) s = .next t ∧ waits t (.forward j cls k) ∧ t.bce.priv = s.bce.priv ∧ s.StoresNothing t)
    ∧ (s.bce.running = none → s.bce.ready = [] → ∃ t, exec (.probeSliceComplete true) s = .next t
      ∧ t.probe.frames = s.probe.frames.drop 1 ∧ t.flag PRB_STATUS_BACKLOG = !(s.probe.frames.drop 1).isEmpty
      ∧ s.Changes { t with probe := s.probe } [PRB_STATUS_BACKLOG.key 0] [])

/-- Deadlines and delivery: a block whose work is not done at its deadline is abandoned, its filter's misses and EV32 follow and its tail
blocks are marked; a tail delivery copies the ring words of a filter that is on into its tail buffer, zeroes them and writes the stamp
(07 R300, R303, R323); the busy fraction is shown and warns with EV39 (R333). -/
def Obligations.BceDelivery : Prop :=
  ∀ (s : State) (g : GroupId), s.ok = true → let n := s.tickNow g
    (s.bce.running = none → s.bce.ready = [] → exec (.bceDeadline g) s = .next s)
    ∧ (∀ j f cls b, s.bce.running = some (.inverse j f cls b) → s.bce.ready = [] → j < 128 → f < 128 → s.jobValid j = true →
      s.jobGroup j = g → cls ∈ s.jobClasses j → f ∈ s.jobFilters j → s.contributes f cls b = true → (f, cls, b) ∉ s.bce.closed →
      (n + 16) % classSize cls = 0 → b = (n + 16) / classSize cls → ∃ t, exec (.bceDeadline g) s = .next t
        ∧ t.bce.running = none ∧ s.Counted t BCE_FLT_MISS_CNT f ∧ s.Counted t BCE_MISS_CNT 0 ∧ (s.awake = true → s.Raised t 32)
        ∧ (f, b * classSize cls / 16, 2 ^ cls) ∈ t.bce.drops ∧ (f, cls, b) ∈ t.bce.closed)
    ∧ (∀ f, f < 128 → (∀ h, h < 128 → s.flag BCE_FLT_CFG_VALID h = true → h = f) → s.flag BCE_FLT_CFG_VALID f = true →
      s.jobValid (s.fltJob f) = true → s.fltGroup f = g → n % 16 = 0 → s.flag BCE_STATUS_RUN = true → let q := n / 16 + 1
      tabGet? g.val s.bce.delivered ≠ some q → s.tailOn g f q = true → s.xbarFails = [] → 4 ≤ s.reg BCE_FLT_RING_RLOG2 f →
      let bank : BankId := Fin.ofNat 16 (s.reg BCE_FLT_TAIL_TBANK f)
      let sbank : BankId := Fin.ofNat 16 (s.reg BCE_FLT_STAMP_SBANK f)
      let tail (i : Nat) := s.reg BCE_FLT_TAIL_TB f + (16 * q + i) % 64
      let ring (i : Nat) := s.reg BCE_FLT_RING_BASE f + (16 * q + i) % 2 ^ s.reg BCE_FLT_RING_RLOG2 f
      let stamp := s.reg BCE_FLT_STAMP_SB f + q % 4
      s.mayWrite bank 17 = true → s.mayWrite sbank 17 = true → (sbank = bank → ∀ i, i < 16 → stamp ≠ tail i) →
      ∃ t, exec (.tailDelivery g) s = .next t
        ∧ (∀ i, i < 16 → t.bankWord bank (tail i) = s.privWord (ring i) ∧ t.privWord (ring i) = 0)
        ∧ t.bankWord sbank stamp = BitVec.ofNat 32 (q % 2 ^ 28 + s.dropBits f q * 2 ^ 28)
        ∧ (∀ b w, (b = bank → ∀ i, i < 16 → w ≠ tail i) → (b = sbank → w ≠ stamp) → t.bankWord b w = s.bankWord b w)
        ∧ tabGet? g.val t.bce.delivered = some q)
    ∧ (∀ busy : Half, ∃ t, exec (.bceBusyWindow busy) s = .next t ∧ t.reg BCE_DENSITY_BUSY = busy.toNat
      ∧ s.Changes t [BCE_DENSITY_BUSY.key 0] (if s.reg BCE_CTL_WARN * 256 < busy.toNat then [39] else []))

/-! ## Live probe -/

/-- The probe starts at the first multiple of 16 at least 17 ticks after its enable is registered, with every output's first steep, and
stops at such a tick; the weir fixes the gains of the next block, all off where the block was disturbed; a steep that has run gives way to
the next; a parity error stops the probe with EV55 (08 R346, R349, R351, R352, R357; 18 R735).
Where the rules leave it open it says the model's choice: log entries 26 to 28. -/
def Obligations.ProbeRuns : Prop :=
  ∀ (s : State), let n := (s.group s.probeGroup).n
    let sched (a : Nat) := a = nextMultiple 16 (n + 17) ∨ a = nextMultiple 16 (n + 18)
    (s.flag PRB_CTL_EN = false → s.probe.running = false → ∃ t a, exec .probeEnable s = .next t ∧ t.probe.sp = some a ∧ sched a
      ∧ t.flag PRB_CTL_EN = true ∧ s.Changes { t with probe := s.probe, free := s.free } [PRB_CTL_EN.key 0] [])
    ∧ (∀ a, s.probe.sp = some a → s.probe.running = false → a ≤ s.tickNow s.probeGroup → ∃ t, exec .probeStart s = .next t
      ∧ t.probe.running = true ∧ t.flag PRB_STATUS_RUN = true ∧ s.Changes { t with probe := s.probe } [PRB_STATUS_RUN.key 0] []
      ∧ ∀ o ∈ s.poutList, (t.pout o).steepNo = 0 ∧ (t.pout o).steepStart = a ∧ (t.pout o).steepLen = s.steepLength o)
    ∧ (s.flag PRB_CTL_EN = true → s.probe.running = true → s.probe.stopAt = none → ∃ t a, exec .probeStop s = .next t
      ∧ t.probe.stopAt = some a ∧ sched a ∧ t.flag PRB_CTL_EN = false
      ∧ s.Changes { t with probe := s.probe, free := s.free } [PRB_CTL_EN.key 0] [])
    ∧ (∀ m, s.probe.running = true → s.probe.last = some m → m % 16 = 15 → s.probe.block ≠ some (m / 16) → s.probe.stopAt = none →
      ∃ t, exec .weirBlock s = .next t ∧ t.probe.block = some (m / 16) ∧ t.probe.disturbed = false
        ∧ t.probe.ka = s.reg PRB_WEIR_KA ∧ t.probe.kr = s.reg PRB_WEIR_KR
        ∧ (s.probe.disturbed = true ∨ s.probeAllowed = false → ∀ o ∈ s.poutList, (t.pout o).gain = List.replicate 16 none
          ∧ t.flag PRB_OUT_STATUS_ACTIVE o = false ∧ t.flag PRB_OUT_STATUS_SUPPRESSED o = true))
    ∧ (∀ m a, s.probe.running = true → s.probe.last = some m → m % 16 = 15 → s.probe.block ≠ some (m / 16) → s.probe.stopAt = some a →
      a ≤ m → s.flag PRB_CTL_EN = false → ∃ t, exec .weirBlock s = .next t ∧ t.probe.running = false ∧ t.flag PRB_STATUS_RUN = false)
    ∧ (∀ (o : Fin 64) m, s.probe.running = true → s.probe.last = some m → (s.pout o.val).steepStart + (s.pout o.val).steepLen ≤ m + 1 →
      ∃ t, exec (.steepEnd o) s = .next t ∧ (t.pout o.val).steepNo = (s.pout o.val).steepNo + 1
        ∧ (t.pout o.val).steepStart = (s.pout o.val).steepStart + (s.pout o.val).steepLen ∧ { t with probe := s.probe } = s)
    ∧ (∃ t, exec .probeParityError s = .next t ∧ t.probe.running = false ∧ t.flag PRB_CTL_EN = false ∧ t.flag PRB_STATUS_RUN = false
      ∧ (s.awake = true → s.Raised t 55) ∧ s.StoresNothing t)

/-- Results and the closed loop: a frame waits in a queue of 64, beyond which it is dropped and counted with EV50; a complete steep is
published in the pair's other slot with EV48; the loop starts when enabled, is held with EV53 when its coefficient page has changed, skips
a result that does not qualify and otherwise stages one glide for each coefficient word with EV52 (08 R362, R364, R368 to R373).
Where the rules leave it open it says the model's choice: log entries 26 and 29. -/
def Obligations.ProbeResults : Prop :=
  ∀ (s : State) (o : Fin 64) (i : Fin 16), let p := 16 * o.val + i.val
    (s.probe.running = true → s.probe.frames.length < 64 → ∃ t, exec (.bceFrameQueue o i) s = .next t
      ∧ t.probe.frames = s.probe.frames ++ [(o.val, i.val)] ∧ t.flag PRB_STATUS_BACKLOG = true
      ∧ s.Changes { t with probe := s.probe } [PRB_STATUS_BACKLOG.key 0] [])
    ∧ (s.probe.running = true → 64 ≤ s.probe.frames.length → ∃ t, exec (.bceFrameQueue o i) s = .next t
      ∧ t.probe.frames = s.probe.frames ∧ s.Counted t PRB_DROP_CNT 0 ∧ s.Changes { t with probe := s.probe } [PRB_DROP_CNT.key 0] [50])
    ∧ (s.readyResult o.val i.val = none → exec (.resultPublish o i) s = .next s)
    ∧ (∀ q, s.readyResult o.val i.val = some q → s.ok = true → s.xbarFails = [] →
      s.mayWrite (Fin.ofNat 16 (s.reg PRB_RES_BASE_BANK)) 18 = true → ∃ t, exec (.resultPublish o i) s = .next t
        ∧ t.pairSlot p = !s.pairSlot p
        ∧ t.bankWord (Fin.ofNat 16 (s.reg PRB_RES_BASE_BANK)) (s.slotWord0 p (!s.pairSlot p) + 2) = BitVec.ofNat 32 q.no
        ∧ (s.awake = true → s.Raised t 48) ∧ ∃ note, tabGet? p t.probe.notes = some note ∧ note.steep = q.no)
    ∧ (s.flag PRB_LOOP_LIM_EN o.val = false → s.reg PRB_LOOP_CFG_NC o.val ≠ 0 → ∃ t, exec (.loopEnable o true) s = .next t
      ∧ t.reg PRB_LOOP_STATUS_STATE o.val = 1 ∧ (t.pout o.val).loopGain = List.replicate 16 0
      ∧ s.Changes { t with probe := s.probe } [PRB_LOOP_LIM_EN.key o.val, PRB_LOOP_STATUS_STATE.key o.val] [])
    ∧ (∃ t, exec (.loopEnable o false) s = .next t ∧ t.reg PRB_LOOP_STATUS_STATE o.val = 0 ∧ t.flag PRB_LOOP_LIM_EN o.val = false)
    ∧ (s.reg PRB_LOOP_STATUS_STATE o.val = 1 → let c := s.loopCore o.val
      ((s.core c).cpage ≠ (s.pout o.val).loopPage → ∃ t, exec (.loopUpdate o) s = .next t
        ∧ s.Changes t [PRB_LOOP_STATUS_STATE.key o.val, PRB_LOOP_STATUS_HOLD_CAUSE.key o.val] [53]
        ∧ t.reg PRB_LOOP_STATUS_STATE o.val = 2 ∧ t.reg PRB_LOOP_STATUS_HOLD_CAUSE o.val = 1)
      ∧ (∀ q, (s.core c).cpage = (s.pout o.val).loopPage → s.rgState (s.groupOf c) = 1 → s.reg UC_SL_STATUS_STATE (s.groupOf c).val ≠ 3 →
        s.reg PRB_OUT_MASK_MICS o.val = 2 ^ i.val → tabGet? p s.probe.notes = some q → s.flag PRB_CTL_LOOP_EN = true →
        (s.pout o.val).loopSteep ≠ some q.steep →
        (q.fine = false → ∃ t, exec (.loopUpdate o) s = .next t ∧ s.Counted t PRB_LOOP_STATUS_SKIPS o.val ∧ t.cores = s.cores)
        ∧ (q.fine = true → 128 * (s.reg PRB_LOOP_LIM_SNR_MIN o.val : Int) ≤ q.snr → (s.pout o.val).loopAfter = 0 →
          (s.core c).glides.length + s.reg PRB_LOOP_CFG_NC o.val ≤ 1024 → ∃ t, exec (.loopUpdate o) s = .next t
          ∧ (t.core c).glides.length = (s.core c).glides.length + s.reg PRB_LOOP_CFG_NC o.val
          ∧ s.Counted t PRB_LOOP_STATUS_UPDATES o.val ∧ (s.awake = true → s.Raised t 52) ∧ s.StoresNothing t)))

/-! ## Stream mover -/

/-- HEADGATE_OPEN and HEADGATE_CLOSE of a group ticked by the time counter: where the first multiple of 64 at or after T lies after the
last tick begun, and the headgate is neither armed nor in a ramped CLOSE, it is armed with that index, which is shown; else, and where no
route names it, the command is refused with REFUSED and EV61. HEADGATE_CANCEL more than 200 ns before the tick disarms it; after the tick
it is ignored (09 R405, R406, R408).
A headgate at its tick a: an OPEN makes sample a the first open one, ramping over 64 samples with RAMP; a CLOSE closes it from a, or
from a + 64 after a ramp, STATE following then; each change of STATE raises EV60 (09 R404, R407).
Where the rules leave it open it says the model's choice: log entries 20 and 47. -/
def Obligations.Headgates : Prop :=
  (∀ (s : State) (h : Fin 256),
    let T := (s.reg STR_HG_TIME_SEC_LO h.val + 2 ^ 32 * s.reg STR_HG_TIME_SEC_HI h.val) * 1000000000 + s.reg STR_HG_TIME_NS h.val
    let st := s.reg STR_HG_STATUS_STATE h.val
    let refused (cmd : Instr) := ∃ t, exec cmd s = .next t ∧ s.Changes t [STR_HG_STATUS_REFUSED.key h.val] [61]
      ∧ t.flag STR_HG_STATUS_REFUSED h.val = true
    (s.hgGroup h.val = none → refused (.headgateOpen h) ∧ refused (.headgateClose h) ∧ exec (.headgateCancel h) s = .next s)
    ∧ ∀ g, s.hgGroup h.val = some g → s.tickFromTime g = true → let x := s.group g
      let armed (cmd : Instr) (opens : Bool) := ∃ t a u, exec cmd s = .next t ∧ a % 64 = 0 ∧ T * s.fs g ≤ a * 1000000000
        ∧ a * 1000000000 < T * s.fs g + 64000000000 ∧ tabGet? h.val t.hgs = some u ∧ u.a = some a ∧ u.opens = opens
        ∧ u.ramp = s.flag STR_HG_CFG_RAMP h.val ∧ (∀ k, k ≠ h.val → tabGet? k t.hgs = tabGet? k s.hgs)
        ∧ t.reg STR_HG_EFF_LO h.val + 2 ^ 32 * t.reg STR_HG_EFF_HI h.val = a % 2 ^ 64
        ∧ t.reg STR_HG_STATUS_STATE h.val = (if opens then 1 else 3)
        ∧ s.Changes { t with hgs := s.hgs } [STR_HG_EFF_LO.key h.val, STR_HG_EFF_HI.key h.val, STR_HG_STATUS_STATE.key h.val] []
      (st ∈ [0, 2] → (x.begun = true → 64 * (x.n / 64) * 1000000000 < T * s.fs g) →
        armed (.headgateOpen h) true ∧ armed (.headgateClose h) false)
      ∧ ((st ∈ [1, 3] ∨ x.begun = true ∧ T * s.fs g ≤ 64 * (x.n / 64) * 1000000000) →
        refused (.headgateOpen h) ∧ refused (.headgateClose h))
      ∧ ∀ u a, tabGet? h.val s.hgs = some u → u.a = some a →
        (st ∈ [1, 3] → (x.begun = true → x.n < a) → cycles200ns < s.cyclesTo g a → ∃ t, exec (.headgateCancel h) s = .next t
          ∧ t.hgs = tabErase h.val s.hgs ∧ t.reg STR_HG_STATUS_STATE h.val = (if st = 1 then 0 else 2)
          ∧ s.Changes { t with hgs := s.hgs } [STR_HG_STATUS_STATE.key h.val] [])
        ∧ (x.begun = true → a ≤ x.n → exec (.headgateCancel h) s = .next s))
  ∧ (∀ (s : State) (h : Fin 256) (g : GroupId) (n : Nat) (u : Headgate), s.hgGroup h.val = some g → s.dueTick g = some n →
    tabGet? h.val s.hgs = some u →
    let keys := [STR_HG_EFF_LO.key h.val, STR_HG_EFF_HI.key h.val, STR_HG_STATUS_STATE.key h.val]
    (u.a = some n → s.reg STR_HG_STATUS_STATE h.val = (if u.opens then 1 else 3) → (s.group g).stepped = false →
        u.since + cycles200ns < s.cycles → ∃ t, exec (.headgateEffect h) s = .next t
      ∧ t.reg STR_HG_STATUS_STATE h.val = (if u.opens then 2 else if u.ramp then 3 else 0)
      ∧ s.Changes { t with hgs := s.hgs, hgRamps := s.hgRamps } keys (if u.opens || !u.ramp then [60] else [])
      ∧ (∀ m x, m < n → u.opens = true → (t.hgAt h.val m).apply x = 0)
      ∧ (∀ m x, n ≤ m → (t.hgAt h.val m).apply x =
          (let j := m - n + 1
          if u.opens then (if u.ramp ∧ j ≤ 64 then BitVec.ofInt 32 (x.toInt * j / 64) else x)
          else if u.ramp ∧ j ≤ 64 then BitVec.ofInt 32 (x.toInt * (64 - j : Nat) / 64) else 0)))
    ∧ (∀ a, u.a = some a → s.reg STR_HG_STATUS_STATE h.val = 3 → u.ramp = true → a + 64 ≤ n → ∃ t,
        exec (.headgateRampEnd h) s = .next t ∧ t.reg STR_HG_STATUS_STATE h.val = 0
        ∧ s.Changes t [STR_HG_STATUS_STATE.key h.val] [60])
    ∧ (∀ a, u.a = some a → n < a + 64 → exec (.headgateRampEnd h) s = .next s))

/-- BLOCK_IN_TIME_TEST of an INDEPENDENT member: a block with all its samples is presented, with a ramp in 16 steps after an underrun; a
member with a closed route is left out; another block underruns: it is counted with EV56, its words fade from the block before, or are
0, and its stamp reads CONCEALED. NONAUDIO_MUTE_END lets received words pass again once the span is written, with EV63 (09 R412, R413,
R415, R416, R419).
Where the rules leave it open it says the model's choice: log entry 20. -/
def Obligations.BlocksInTime : Prop :=
  ∀ (s : State) (c : Fin 8192) (k : Nat), s.ok = true → let ch := tabGet s.ingress c.val {}
    let bs := 8 * 2 ^ ch.bs.val
    let x := s.chanSt c.val
    let word (i : Nat) := ch.base + (k * bs + i) % ch.len
    let got := (List.range bs).all fun i => (tabGet? (k * bs + i) x.rx).isSome
    let concealing := [STR_AG_STATUS_CONCEALING.key ch.ag]
    (ch.valid = true → ch.agEn = true → s.flag STR_AG_CFG_LOCKSTEP ch.ag = false → (∀ j, x.tested = some j → j < k) →
      (s.memberClosed c.val (k * bs) = true → ∃ t, exec (.blockInTimeTest c k) s = .next t ∧ (t.chanSt c.val).st = 3
        ∧ s.Changes { t with chans := s.chans } concealing [])
      ∧ (s.memberClosed c.val (k * bs) = false → got = true → x.st ≠ 1 → x.ramp = none → ∃ t, exec (.blockInTimeTest c k) s = .next t
        ∧ (t.chanSt c.val).st = 0 ∧ (t.chanSt c.val).good = true ∧ s.Changes { t with chans := s.chans } concealing [])
      ∧ (s.memberClosed c.val (k * bs) = false → s.mayWrite ch.bank 16 = true → s.xbarFails = [] → bs ≤ ch.len →
        (∀ r ∈ (s.bank ch.bank).queue, r.who = 16 → r.words.length = 1) →
        (got = true → x.st = 1 → ∃ t, exec (.blockInTimeTest c k) s = .next t ∧ (t.chanSt c.val).st = 2
          ∧ s.Changes { t with chans := s.chans, banks := s.banks } concealing [59]
          ∧ ∀ i, i < min bs 16 → t.bankWord ch.bank (word i) = BitVec.ofInt 32 ((s.strPeek ch (k * bs + i)).toInt * (i + 1) / 16))
        ∧ (got = false → (ch.stampEn = true → ∀ m j, j < 2 → chanWord ch m ≠ ch.sbase + 2 * stampSlot ch k + j) →
          ∃ t, exec (.blockInTimeTest c k) s = .next t ∧ (t.chanSt c.val).st = 1 ∧ s.Counted t STR_AG_UNDER_CNT ch.ag
          ∧ t.reg STR_AG_LAST_LO ch.ag + 2 ^ 32 * t.reg STR_AG_LAST_HI ch.ag = k * bs % 2 ^ 64
          ∧ (s.awake = true → s.Raised t 56)
          ∧ (ch.stampEn = true → (t.bankWord ch.bank (ch.sbase + 2 * stampSlot ch k + 1)).getLsbD 24 = true)
          ∧ ∀ i, i < bs → (x.good = true → t.bankWord ch.bank (word i) = (if i < 16 then
              BitVec.ofInt 32 ((s.strPeek ch (k * bs - bs + i % bs)).toInt * (15 - i : Nat) / 16) else 0))
            ∧ (x.good = false → x.fade = none → t.bankWord ch.bank (word i) = 0))))
    ∧ (let p := c.val - c.val % 2
      let y := s.chanSt p
      (y.naMute = false → exec (.nonaudioMuteEnd c) s = .next s)
      ∧ ∀ e m, y.naMute = true → y.naUntil = some e → y.last = some m → e ≤ m → y.naPd = none → ∃ t, exec (.nonaudioMuteEnd c) s = .next t
        ∧ t.chanSt p = { y with naMute := false, naUntil := none } ∧ t.chanSt (p + 1) = { s.chanSt (p + 1) with naMute := false }
        ∧ (∀ q, q ≠ p → q ≠ p + 1 → t.chanSt q = s.chanSt q) ∧ s.Changes { t with chans := s.chans } [] [63])

/-! ## Serial audio ports -/

/-- PORT_OPEN: refused with EV77 for a group without a rate; a master port with a tick begun takes a = n + 2, a slave is STARTING;
PORT_CLOSE: a port that frames closes when its frame ends, a STARTING or LOST one at once; the close gives CLOSED and EV72. PORT_MUTE writes
MUTE. MCLK_CONTROL writes EN and SRC, and M unless it is below 8 (10 R449, R451 to R453, R455, R457, R461, R462).
Where the rules leave it open it says the model's choice: log entry 80. -/
def Obligations.PortCommands : Prop :=
  ∀ (s : State) (p : PortId),
    let g := s.sapGroup p
    let x := s.port p
    let st := s.reg SAP_STATUS_STATE p.val
    let en := s.flag SAP_CTL_EN p.val
    let others (t : State) := ∀ q, q ≠ p → t.port q = s.port q
    let closes (cmd : Instr) (keys : List Nat) := ∃ t, exec cmd s = .next t ∧ t.reg SAP_STATUS_STATE p.val = 0 ∧ (t.port p).a = none
      ∧ (t.port p).closing = false ∧ others t ∧ s.Changes { t with ports := s.ports } (SAP_STATUS_STATE.key p.val :: keys) [72]
    (s.fs g = 0 → ∃ t, exec (.portOpen p) s = .next t ∧ s.Changes t [] [77])
    ∧ (s.fs g ≠ 0 → en = true → exec (.portOpen p) s = .next s)
    ∧ (s.fs g ≠ 0 → en = false → x.closing = false → st = 0 →
      (s.reg SAP_CFG_MODE p.val = 0 → (s.group g).begun = true → ∃ t, exec (.portOpen p) s = .next t ∧ t.flag SAP_CTL_EN p.val = true
        ∧ (t.port p).a = some ((s.group g).n + 2) ∧ others t
        ∧ t.reg SAP_EFF_LO p.val + 2 ^ 32 * t.reg SAP_EFF_HI p.val = ((s.group g).n + 2) % 2 ^ 64
        ∧ s.Changes { t with ports := s.ports } [SAP_CTL_EN.key p.val, SAP_EFF_LO.key p.val, SAP_EFF_HI.key p.val] [])
      ∧ (s.reg SAP_CFG_MODE p.val ≠ 0 → ∃ t, exec (.portOpen p) s = .next t ∧ t.flag SAP_CTL_EN p.val = true
        ∧ t.reg SAP_STATUS_STATE p.val = 1 ∧ (t.port p).wellFormed = 0 ∧ others t
        ∧ s.Changes { t with ports := s.ports } [SAP_CTL_EN.key p.val, SAP_STATUS_STATE.key p.val] []))
    ∧ (en = true → st = 2 → ∃ t, exec (.portClose p) s = .next t ∧ t.flag SAP_CTL_EN p.val = false ∧ t.port p = { x with closing := true }
        ∧ others t ∧ s.Changes { t with ports := s.ports } [SAP_CTL_EN.key p.val] [])
    ∧ (en = true → st ∈ [1, 3] → closes (.portClose p) [SAP_CTL_EN.key p.val])
    ∧ (en = false → exec (.portClose p) s = .next s)
    ∧ (x.closing = true → closes (.portCloseComplete p) [])
    ∧ (x.closing = false → exec (.portCloseComplete p) s = .next s)
    ∧ (∀ m, ∃ t, exec (.portMute p m) s = .next t ∧ t.flag SAP_CTL_MUTE p.val = m ∧ s.Changes t [SAP_CTL_MUTE.key p.val] [])
    ∧ ∀ (k : Fin 4) (v : Word), ∃ t, exec (.mclkControl k v) s = .next t ∧ t.flag SAP_MCLK_EN k.val = v.getLsbD 0
        ∧ t.flag SAP_MCLK_SRC k.val = v.getLsbD 1
        ∧ t.reg SAP_MCLK_M k.val = (if v.toNat / 256 % 256 < 8 then s.reg SAP_MCLK_M k.val else v.toNat / 256 % 256)
        ∧ s.Changes t [SAP_MCLK_EN.key k.val, SAP_MCLK_SRC.key k.val, SAP_MCLK_M.key k.val] []

/-- SAP_FRAME: the frame's words, converted from WORDW bits, become those of the tick that ends it (of a slave, the first tick at or
after its boundary + 400 ns); the second well-formed frame in a row makes a slave RUNNING with EV72, and EV76 out of LOST; a malformed
frame is counted with EV74 and its words are 0. SLAVE_CLOCK_LOST after 2 frame periods makes a port LOST with EV75. Converting a
received word back gives that word (10 R437, R438, R443, R446, R449, R454 to R456).
Where the rules leave it open it says the model's choice: log entry 81. -/
def Obligations.PortFrames : Prop :=
  (∀ ww w ornd, ww ∈ [16, 20, 24, 32] → w < 2 ^ ww → sapOut ornd ww (sapIn ww w) = w)
  ∧ ∀ (s : State) (p : PortId) (l0 l1 : List Word),
    let g := s.sapGroup p
    let x := s.port p
    let st := s.reg SAP_STATUS_STATE p.val
    let stamped := [SAP_FS_NS.key p.val, SAP_PHASE_PHI.key p.val]
    let held (t : State) := ∀ line slot, line < 2 → s.sapOutput p line = false → slot ≤ s.reg SAP_CFG_SLOTS p.val →
      tabGet? (line * 32 + slot) (t.port p).inWords = some (BitVec.ofNat 32
        (let raw := ((if line = 0 then l0 else l1).getD slot 0).toNat
        (if s.reg SAP_CFG_FMT p.val = 2 then raw else raw / 2 ^ (s.sapSlotBits p - s.sapWordBits p)) % 2 ^ s.sapWordBits p
          * 2 ^ (32 - s.sapWordBits p)))
    (st = 0 ∨ s.ticking g = false → exec (.sapFrame p l0 l1 false) s = .next s)
    ∧ (s.ticking g = true → s.reg SAP_CFG_SLOTS p.val < 32 → x.closing = false →
      (∀ a, let n := (s.dueTick g).getD (s.group g).n
        s.sapMaster p = true → st = 2 → x.a = some a → a < n → x.inAt ≠ some n → ∃ t, exec (.sapFrame p l0 l1 false) s = .next t
        ∧ (t.port p).inAt = some n ∧ held t ∧ (t.port p).stamp = s.tim ∧ t.reg SAP_FS_NS p.val = s.timNs)
      ∧ (s.sapMaster p = false → st = 2 → x.outOf.isSome = true → s.tickFromTime g = true → ∃ t n,
          exec (.sapFrame p l0 l1 false) s = .next t
        ∧ (s.tim + 400 * timPerNs) * s.fs g ≤ n * timPerSec ∧ n * timPerSec < (s.tim + 400 * timPerNs) * s.fs g + timPerSec
        ∧ (t.port p).inAt = some n ∧ held t ∧ (t.port p).stamp = s.tim)
      ∧ (s.sapMaster p = false → st = 2 → x.outOf.isSome = true → ∃ t, exec (.sapFrame p l0 l1 true) s = .next t
        ∧ (t.port p).inWords = [] ∧ (t.port p).wellFormed = 0 ∧ s.Counted t SAP_FRERR_CNT p.val ∧ (s.awake = true → s.Raised t 74))
      ∧ (s.sapMaster p = false → st ∈ [1, 3] →
        (x.wellFormed = 0 → ∃ t, exec (.sapFrame p l0 l1 false) s = .next t ∧ (t.port p).wellFormed = 1
          ∧ s.Changes { t with ports := s.ports } stamped [])
        ∧ (1 ≤ x.wellFormed → ∃ t, exec (.sapFrame p l0 l1 false) s = .next t ∧ t.reg SAP_STATUS_STATE p.val = 2
          ∧ s.Changes { t with ports := s.ports } (SAP_STATUS_STATE.key p.val :: stamped) (if st = 3 then [72, 76] else [72]))
        ∧ ∃ t, exec (.sapFrame p l0 l1 true) s = .next t ∧ (t.port p).wellFormed = 0 ∧ s.Counted t SAP_FRERR_CNT p.val
          ∧ s.Changes { t with ports := s.ports } (SAP_FRERR_CNT.key p.val :: stamped) [74]))
    ∧ (s.sapMaster p = false → x.bounded = true → st ∈ [1, 2] → x.closing = false →
      (2 * timPerSec ≤ (s.tim - x.stamp) * s.fs g → ∃ t, exec (.slaveClockLost p) s = .next t ∧ t.reg SAP_STATUS_STATE p.val = 3
        ∧ (t.port p).out = [] ∧ s.Counted t SAP_LOST_CNT p.val ∧ (∀ q, q ≠ p → t.port q = s.port q)
        ∧ s.Changes { t with ports := s.ports } [SAP_STATUS_STATE.key p.val, SAP_LOST_CNT.key p.val] [75])
      ∧ ((s.tim - x.stamp) * s.fs g < 2 * timPerSec → exec (.slaveClockLost p) s = .next s))

/-! ## Ronzu device link -/

/-- Host commands on a port: EN = 1 starts training from OFF, LEFT and DOWN by the host; EN = 0, a loss of signal and a missing frame lead
to DOWN with their cause, which is counted; WAKE, CLR and the eye monitor write what the rules give, a crossing of a threshold raising
event 83 + 4p; every change of state raises event 80 + 4p (11 R487 to R490, R502, R504, R508).
Where the rules leave it open it says the model's choice: log entry 82. -/
def Obligations.LinkCommands : Prop :=
  ∀ (s : State) (p : LinkId), let st := s.reg RLK_STATUS_STATE p.val
    let x := s.link p
    let others (t : State) := ∀ q, q ≠ p → t.link q = s.link q
    let down (cmd : Instr) (cause : Nat) := ∃ t, exec cmd s = .next t ∧ t.reg RLK_STATUS_STATE p.val = 4
      ∧ t.reg RLK_STATUS_DOWN_CAUSE p.val = cause ∧ (st ≠ 4 → s.Counted t RLK_DOWN_CNT p.val ∧ (s.awake = true → s.Raised t (80 + 4 * p.val)))
      ∧ s.StoresNothing t ∧ t.cores = s.cores
    ((st ∈ [0, 5] ∨ st = 4 ∧ s.reg RLK_STATUS_DOWN_CAUSE p.val = 7) → ∃ t, exec (.linkEnable p) s = .next t
        ∧ t.flag RLK_CTL_EN p.val = true ∧ t.reg RLK_STATUS_STATE p.val = 1 ∧ t.link p = { x with good := 0 } ∧ others t
        ∧ s.Changes { t with links := s.links } (RLK_CTL_EN.key p.val :: RLK_STATUS_STATE.key p.val :: followKeys) [80 + 4 * p.val])
    ∧ (st ∉ [0, 5] → ¬(st = 4 ∧ s.reg RLK_STATUS_DOWN_CAUSE p.val = 7) → ∃ t, exec (.linkEnable p) s = .next t ∧ t.flag RLK_CTL_EN p.val = true ∧ s.Changes t [RLK_CTL_EN.key p.val] [])
    ∧ (st ∈ [0, 5] → ∃ t, exec (.linkDisable p) s = .next t ∧ t.flag RLK_CTL_EN p.val = false ∧ s.Changes t [RLK_CTL_EN.key p.val] [])
    ∧ (st ∉ [0, 5] → down (.linkDisable p) 7)
    ∧ (st ∈ [1, 2] → ∃ t, exec (.linkDisable p) s = .next t ∧ t.flag RLK_CTL_EN p.val = false
        ∧ s.Changes { t with links := s.links } (RLK_CTL_EN.key p.val :: RLK_STATUS_STATE.key p.val :: RLK_DOWN_CNT.key p.val
          :: RLK_STATUS_DOWN_CAUSE.key p.val :: followKeys) [80 + 4 * p.val])
    ∧ (st = 3 → down (.lossOfSignal p) 1 ∧ down (.noFrame p) 3)
    ∧ (st ≠ 3 → exec (.lossOfSignal p) s = .next s ∧ exec (.noFrame p) s = .next s)
    ∧ (∃ t, exec (.linkWake p) s = .next t ∧ t.link p = { x with wakeUntil := s.cycles + 6000000 } ∧ others t
        ∧ { t with links := s.links } = s)
    ∧ (∃ t, exec (.delayClear p) s = .next t ∧ t.reg RLK_DELAY_MIN p.val = 0 ∧ t.reg RLK_DELAY_MAX p.val = 0
        ∧ t.link p = { x with delaySeen := false } ∧ others t
        ∧ s.Changes { t with links := s.links } [RLK_DELAY_MIN.key p.val, RLK_DELAY_MAX.key p.val] [])
    ∧ ∀ (h v : Byte), let low := decide (h.toNat < s.reg RLK_EYE_WARN_H p.val ∨ v.toNat < s.reg RLK_EYE_WARN_V p.val)
      ∃ t, exec (.eyeUpdate p h v) s = .next t ∧ t.reg RLK_EYE_HMARGIN p.val = h.toNat ∧ t.reg RLK_EYE_VMARGIN p.val = v.toNat
        ∧ t.link p = { x with eyeLow := low } ∧ others t
        ∧ s.Changes { t with links := s.links } [RLK_EYE_HMARGIN.key p.val, RLK_EYE_VMARGIN.key p.val]
          (if low && !x.eyeLow then [83 + 4 * p.val] else [])

/-- Services of the link: UNWRAP, 4 periods ahead and with both ring ports UP, is taken and sent, and at its tick the device stops
wrapping with an event for each wrapped port; a wake request goes out on every UP port and as WAKE blocks on a LEFT one, at most once in
10 ms; a broadcast joins the queue of every UP port that has room and is received here (06 R253; 11 R496, R504, R505).
Where the rules leave it open it says the model's choice: log entries 50 and 83. -/
def Obligations.LinkServices : Prop :=
  ∀ (s : State),
    let u := s.reg RLK_UNWRAP_LO_U_LO + 2 ^ 32 * s.reg RLK_UNWRAP_HI_U_HI
    let st (p : LinkId) := s.reg RLK_STATUS_STATE p.val
    (∀ e w, s.ringPort 3 = some e → s.ringPort 4 = some w →
      (s.reg RLK_GLB_STATUS_WRAP ≠ 0 → st e = 3 → st w = 3 → s.linkIdx + 4 ≤ u → ∃ t, exec .unwrap s = .next t ∧ t.unwrapAt = some u
        ∧ (∀ p, (t.link p).unwrapSend = (if s.flag RLK_STATUS_WRAPPED p.val then some u else (s.link p).unwrapSend))
        ∧ { t with links := s.links, unwrapAt := s.unwrapAt } = s)
      ∧ (s.reg RLK_GLB_STATUS_WRAP = 0 ∨ st e ≠ 3 ∨ st w ≠ 3 ∨ u < s.linkIdx + 4 → exec .unwrap s = .next s))
    ∧ (∀ k, s.unwrapAt = some k → k ≤ s.nearestLink → ∃ t, exec .unwrapApply s = .next t ∧ t.reg RLK_GLB_STATUS_WRAP = 0
        ∧ t.unwrapAt = none ∧ (∀ p : LinkId, t.flag RLK_STATUS_WRAPPED p.val = false ∧ (t.link p).unwrapSend = none
          ∧ (s.flag RLK_STATUS_WRAPPED p.val = true → s.awake = true → s.Raised t (82 + 4 * p.val))))
    ∧ (∀ k, s.unwrapAt = some k → s.nearestLink < k → exec .unwrapApply s = .next s)
    ∧ ((∀ c, s.wakeSent = some c → c + 6000000 ≤ s.cycles) → ∃ t, exec .wakeGo s = .next t ∧ t.wakeSent = some s.cycles
        ∧ { t with links := s.links, wakeSent := s.wakeSent } = s
        ∧ ∀ p, t.link p = (if st p = 5 then { s.link p with wakeUntil := s.cycles + 6000000 }
          else if st p = 3 then { s.link p with wakeReq := some (s.reg RLK_GLB_CTL_WAKE_ID, s.flag RLK_GLB_CTL_WAKE_ALL) } else s.link p))
    ∧ (∀ c, s.wakeSent = some c → s.cycles < c + 6000000 → exec .wakeGo s = .next s)
    ∧ let sec := s.reg UC_BC_SEC_LO + 2 ^ 32 * s.reg UC_BC_SEC_HI
      ∃ t, exec .broadcastOriginate s = .next t ∧ t.bcSeq = (s.bcSeq + 1) % 256
        ∧ (∀ p, st p ≠ 3 → t.link p = s.link p)
        ∧ (∀ p, st p = 3 → (s.link p).bcQueue.length < 8 → ∃ e, t.link p = { s.link p with bcQueue := (s.link p).bcQueue ++ [e] }
          ∧ e.left = 3 ∧ e.notBefore = s.cycles + 600 ∧ e.words[1]? = some (BitVec.ofNat 32 (s.reg UC_BC_NS))
          ∧ e.words[2]? = some (BitVec.ofNat 32 sec))
        ∧ (∀ p, st p = 3 → 8 ≤ (s.link p).bcQueue.length → t.link p = s.link p ∧ (s.awake = true → s.Raised t (83 + 4 * p.val)))
        ∧ ∀ g v, s.sluices[g] = some v → s.reg UC_SL_STATUS_STATE g.val = 1 → v.mode = 2 → v.at_ = none → v.id = s.reg UC_BC_ID →
          s.timePast g sec (s.reg UC_BC_NS) = false →
          t.sluices[g] = some { v with at_ := some (sec, s.reg UC_BC_NS), since := s.cycles }

/-- LINK_TICK: a port that is trained or training sends frame k with a good control field, segments without data until it is SYNC; an OFF
or LEFT port sends none. A received frame gives the partner's identity; the eighth good frame in a row leads from TRAINING to SYNC,
LEAVING to LEFT, REMOTE_FAIL and 16 invalid headers to DOWN; delay and offset follow the two formulas (11 R466, R470, R487 to R490,
R498).
Where the rules leave it open it says the model's choice: log entry 84. -/
def Obligations.LinkFrames : Prop :=
  (∀ (t1 t2 t3 t4 : Nat) (d th asym : Int), (t2 : Int) = t1 + d + th → (t4 : Int) = t3 + d - th → ((t3 : Int) - t1).natAbs < 2 ^ 59 →
    d.natAbs < 2 ^ 58 → th.natAbs < 2 ^ 58 →
    delayOf (t1 % stampMod) (t2 % stampMod) (t3 % stampMod) (t4 % stampMod) asym = (d / 256 + asym, th / 256 - asym))
  ∧ ∀ (s : State),
    (∀ stamps, s.dueLink = none → exec (.linkTick stamps) s = .next s)
    ∧ (∀ stamps k, s.dueLink = some k → ∃ t, exec (.linkTick stamps) s = .next t
      ∧ t.reg RLK_IDX_LO + 2 ^ 32 * t.reg RLK_IDX_HI = k ∧ t.linkBegun = true
      ∧ ∀ p : LinkId, let st := s.reg RLK_STATUS_STATE p.val
        (st ∈ [0, 5] → (t.link p).tx = none)
        ∧ (st ∈ [1, 2, 3, 4] → (∀ e ∈ (s.link p).bcQueue, e.words.length = 4) → (∀ c ∈ (s.link p).tunTx, c.words.length ≤ 40) →
          ∃ f, (t.link p).tx = some f ∧ f.index = k ∧ f.fsCode = BitVec.ofNat 8 (s.reg RLK_CFG_RATE p.val) ∧ cfOk f.cf = true
            ∧ (st ∈ [1, 4] → ∀ g ∈ f.segs, hdrValid g.header = false)))
    ∧ ∀ (p : LinkId) (f : LinkFrame) (stamp reserved badSync : Nat), let st := s.reg RLK_STATUS_STATE p.val
      let cmd := Instr.linkFrameReceive p f stamp reserved badSync
      (st ∈ [0, 5] → exec cmd s = .next s)
      ∧ (st ∈ [1, 2, 3, 4] → f.fsCode.toNat = s.reg RLK_CFG_RATE p.val → cfOk f.cf = true → ∃ t, exec cmd s = .next t
        ∧ t.reg RLK_STATUS_PARTNER_ID p.val = cfBits f.cf 0 8 12 ∧ t.reg RLK_STATUS_PARTNER_PORT p.val = cfBits f.cf 0 20 2
        ∧ (cfBits f.cf 0 26 1 = 1 → t.reg RLK_STATUS_STATE p.val = 5 ∧ t.reg RLK_STATUS_DOWN_CAUSE p.val = 5)
        ∧ (cfBits f.cf 0 26 1 = 0 →
          (st = 1 → t.reg RLK_STATUS_STATE p.val = if 7 ≤ (s.link p).good then 2 else 1)
          ∧ (st = 2 → t.reg RLK_STATUS_STATE p.val = 2)
          ∧ (st = 3 → 16 ≤ badSync → t.reg RLK_STATUS_STATE p.val = 4 ∧ t.reg RLK_STATUS_DOWN_CAUSE p.val = 2)
          ∧ (st = 3 → badSync < 16 → cfBits f.cf 0 24 1 = 1 → t.reg RLK_STATUS_STATE p.val = 4 ∧ t.reg RLK_STATUS_DOWN_CAUSE p.val = 4))
        ∧ ∀ t1 t4, (s.link p).txStamps.find? (fun t => t.1 % 2 ^ 32 == cfBits f.cf 5 0 32) = some t1 →
          (s.link p).rxStamps.find? (fun t => t.1 + 1 == f.index) = some t4 →
          let r := delayOf t1.2 (stampOf (f.cf.getD 3 0) (f.cf.getD 4 0)) (stampOf (f.cf.getD 1 0) (f.cf.getD 2 0)) t4.2
            (BitVec.ofNat 32 (s.reg RLK_ASYM p.val)).toInt
          t.reg RLK_DELAY_D p.val = (BitVec.ofInt 32 r.1).toNat
          ∧ t.reg RLK_OFFSET_THETA p.val = (BitVec.ofInt 32 (max (-(2 ^ 31)) (min (2 ^ 31 - 1) r.2))).toNat)
      ∧ (st ∈ [1, 2, 3, 4] → f.fsCode.toNat = s.reg RLK_CFG_RATE p.val → cfOk f.cf = false → reserved = 0 → ∃ t, exec cmd s = .next t
        ∧ s.Counted t RLK_CF_ERR_CNT p.val ∧ (st ≠ 3 → (t.link p).good = 0))

/-! ## Time counter -/

/-- STEP adds TIM_ADJ_NS and SET loads TIM_SET: the counter takes the value in one command, which is counted with EV105, and the anchor
ends; a read of TIM_NS latches its companions; PPS_OUT rises after a whole second; PTP moves off a lane without link (12 R513, R514, R518,
R528; 13 R584). -/
def Obligations.TimeCommands : Prop :=
  ∀ (s : State),
    let top : Int := 2 ^ 48 * 1000000000 * (3 * 2 ^ 48)
    let stepped (cmd : Instr) (v : Int) := ∃ t, exec cmd s = .next t ∧ (t.tim : Int) = v % top ∧ s.Counted t TIM_STEP_CNT 0
      ∧ t.reg CLK_ANCHOR = 0 ∧ s.Changes { t with tim := s.tim, groups := s.groups } [TIM_STEP_CNT.key 0, CLK_ANCHOR.key 0] [105]
      ∧ ∀ g, t.group g = (if s.fs g ≠ 0 ∧ s.tickFromTime g = true then { s.group g with stepped := true } else s.group g)
    stepped .stepTime (s.tim + (BitVec.ofNat 32 (s.reg TIM_ADJ_NS_ADJ)).toInt * (3 * 2 ^ 48))
    ∧ stepped .setTime (((s.reg TIM_SET_SEC_LO + 2 ^ 32 * s.reg TIM_SET_SEC_HI) * 1000000000 + s.reg TIM_SET_NS : Nat) * (3 * 2 ^ 48))
    ∧ (∀ i, ∃ t, exec (.timeReadLatch i) s = .next t ∧ { t with hostOut := s.hostOut, latches := s.latches } = s
      ∧ t.hostOut = [BitVec.ofNat 32 (s.tim / (3 * 2 ^ 48) % 1000000000)]
      ∧ t.latch i TIM_SEC_LO + 2 ^ 32 * t.latch i TIM_SEC_HI = s.tim / (3 * 2 ^ 48) / 1000000000 % 2 ^ 48
      ∧ t.latch i TIM_FRAC = s.tim % (3 * 2 ^ 48) / (3 * 2 ^ 32))
    ∧ (s.flag TIM_PPS_OUT_EN = true → s.tim % timPerSec < s.timAdvance → ∃ t, exec .ppsOutput s = .next t
      ∧ t.time = { s.time with ppsUntil := s.cycles + s.reg TIM_PPS_WIDTH * 600000 } ∧ { t with time := s.time } = s)
    ∧ (s.flag TIM_PPS_OUT_EN = false ∨ s.timAdvance ≤ s.tim % timPerSec → exec .ppsOutput s = .next s)
    ∧ let l := s.reg TIM_STATUS_PTP_LANE_NOW
      (l < 2 → s.flag NET_LANE_STATUS_LINK l = false → s.flag NET_LANE_STATUS_LINK (1 - l) = true → ∃ t, exec .ptpLaneMove s = .next t
        ∧ t.reg TIM_STATUS_PTP_LANE_NOW = 1 - l ∧ s.Changes t [TIM_STATUS_PTP_LANE_NOW.key 0] [])
      ∧ (s.flag NET_LANE_STATUS_LINK l = true → exec .ptpLaneMove s = .next s)

/-- An offset update: without a source nothing happens; the first one of a source enters ACQUIRE and steps the counter by an offset above
1 us; the sixteenth below 100 ns in a row enters TRACK; in TRACK an offset within JUMP_THR steers, the rate word following the frequency,
and the fourth above it starts a rejoin. HOLDOVER begins after three intervals without update and ends in FREE after TMAX seconds; a
stepping rejoin steps the counter at its instant and ends in TRACK (12 R514, R520 to R524; 13 R581 to R583).
Where the rules leave it open it says the model's choice: log entries 22 and 87. -/
def Obligations.TimeServo : Prop :=
  ∀ (s : State) (raw : Int) (dt : Nat),
    let theta := raw - (BitVec.ofNat 32 (s.reg CLK_ANCHOR)).toInt * 65536
    let top : Int := 2 ^ 48 * 1000000000 * (3 * 2 ^ 48)
    let st := s.reg TIM_STATUS_STATE
    let shown (t : State) := t.reg TIM_THETA = (BitVec.ofInt 32 (max (-(2 ^ 31)) (min (2 ^ 31 - 1) (theta / 256)))).toNat
    let rate (t : State) := dt ≠ 0 → ((t.reg TIM_RATE_LO + 2 ^ 32 * t.reg TIM_RATE_HI : Nat) : Int) =
      roundHalfEven (t.time.f.num * 2 ^ 48) (t.time.f.den * 1000000000) % 2 ^ 40
    (s.timeSource = 0 → exec (.servoUpdate raw dt) s = .next s)
    ∧ (s.timeSource ≠ 0 → st = 0 → ∃ t, exec (.servoUpdate raw dt) s = .next t ∧ t.reg TIM_STATUS_STATE = 1 ∧ shown t
      ∧ t.time.source = s.timeSource ∧ (s.awake = true → s.Raised t 104)
      ∧ (65536000 < theta.natAbs → (t.tim : Int) = (s.tim + theta * (3 * 2 ^ 32)) % top ∧ t.flag TIM_STATUS_COARSE = false
        ∧ s.Counted t TIM_STEP_CNT 0)
      ∧ (theta.natAbs ≤ 65536000 → t.tim = s.tim ∧ rate t))
    ∧ (s.timeSource ≠ 0 → s.time.source = s.timeSource → s.time.rejoin = none →
      (st = 1 → s.time.stepped = true → theta.natAbs < 6553600 → ∃ t, exec (.servoUpdate raw dt) s = .next t ∧ t.tim = s.tim ∧ shown t
        ∧ t.reg TIM_STATUS_STATE = (if 15 ≤ s.time.close then 2 else 1) ∧ rate t)
      ∧ (st = 2 → theta.natAbs ≤ s.reg CLK_REJOIN_JUMP_THR * 65536000 → ∃ t, exec (.servoUpdate raw dt) s = .next t ∧ shown t ∧ rate t
        ∧ t.time.jumps = 0 ∧ s.Changes { t with time := s.time } [TIM_THETA.key 0, TIM_RATE_LO.key 0, TIM_RATE_HI.key 0] [])
      ∧ (st = 2 → s.reg CLK_REJOIN_JUMP_THR * 65536000 < theta.natAbs → 3 ≤ s.time.jumps → s.flag CLK_REJOIN_MODE = false →
          s.reg CLK_REJOIN_STEP_THR ≠ 0 → theta.natAbs ≤ s.reg CLK_REJOIN_STEP_THR * 65536000000 → ∃ t,
          exec (.servoUpdate raw dt) s = .next t ∧ t.flag CLK_STATUS_REJOINING = true ∧ t.time.rejoin = some .slew
        ∧ s.Changes { t with time := s.time } [TIM_THETA.key 0, CLK_STATUS_REJOINING.key 0] [111]))
    ∧ (st = 2 → s.time.rejoin = none → s.time.lastUpdate + 3 * s.time.interval * 3 / 5 ≤ s.cycles → ∃ t, exec .holdoverEntry s = .next t
      ∧ t.reg TIM_STATUS_STATE = 3 ∧ t.time = { s.time with f := s.time.i, holdSince := s.cycles }
      ∧ s.Changes { t with time := s.time } (TIM_RATE_LO.key 0 :: TIM_RATE_HI.key 0 :: TIM_STATUS_STATE.key 0 :: followKeys) [104])
    ∧ (s.cycles < s.time.lastUpdate + 3 * s.time.interval * 3 / 5 → exec .holdoverEntry s = .next s)
    ∧ (let due := s.time.holdSince + s.reg TIM_HOLD_TMAX * 600000000
      (st = 3 → s.reg TIM_HOLD_TMAX ≠ 0 → due ≤ s.cycles → ∃ t, exec .holdoverTimeout s = .next t ∧ t.reg TIM_STATUS_STATE = 0
        ∧ s.Changes t (TIM_STATUS_STATE.key 0 :: followKeys) [104])
      ∧ (s.reg TIM_HOLD_TMAX = 0 ∨ s.cycles < due → exec .holdoverTimeout s = .next s))
    ∧ ∀ delta due, s.time.rejoin = some (.step delta due) →
      (s.tim + s.timAdvance < due → exec .rejoinStep s = .next s)
      ∧ (due ≤ s.tim + s.timAdvance → ∃ t, exec .rejoinStep s = .next t ∧ (t.tim : Int) = (s.tim + delta) % top
        ∧ t.reg TIM_STATUS_STATE = 2 ∧ t.time.rejoin = none ∧ t.flag CLK_STATUS_REJOINING = false ∧ t.flag CLK_STATUS_MUTING = false
        ∧ s.Counted t TIM_STEP_CNT 0 ∧ (s.awake = true → s.Raised t 105 ∧ s.Raised t 111)
        ∧ ∀ g, s.fs g ≠ 0 → s.tickFromTime g = true → (t.group g).gateReq = some (false, 0) ∧ (t.group g).gated = true)

/-- Updates by source: a PTP message counts only on the PTP lane with link, in the device's domain and where PTP is the source; a two-step
Sync is kept until its Follow_Up; delay messages give the path delay; an offset whose delay is an outlier is counted and dropped; the best
clock decides GM. An edge of PPS_IN, and 64 link offsets, give one servo update (12 R516, R521, R525, R527).
Where the rules leave it open it says the model's choice: log entries 21 and 88. -/
def Obligations.TimeSources : Prop :=
  ∀ (s : State),
    (∀ m : PtpMsg, let p := s.ptp
      (s.timeSource ≠ 1 ∨ m.lane.val ≠ s.reg TIM_STATUS_PTP_LANE_NOW ∨ m.domain ≠ s.reg TIM_CFG_DOMAIN
        ∨ s.reg NET_LANE_STATUS_LINK m.lane.val = 0 → exec (.ptpMessage m) s = .next s)
      ∧ (s.timeSource = 1 → m.lane.val = s.reg TIM_STATUS_PTP_LANE_NOW → m.domain = s.reg TIM_CFG_DOMAIN →
          s.reg NET_LANE_STATUS_LINK m.lane.val ≠ 0 →
        let gives (q : PtpState) := ∃ t, exec (.ptpMessage m) s = .next t ∧ t.ptp = q ∧ { t with ptp := s.ptp } = s
        (m.kind = .sync true → gives { p with syncSeq := some m.seq, syncRx := m.own1, syncCorr := m.corr })
        ∧ (m.kind = .followUp → p.syncSeq ≠ some m.seq → exec (.ptpMessage m) s = .next s)
        ∧ (∀ d, m.kind = .followUp → p.syncSeq = some m.seq → p.delay = some d →
          let q := { p with syncSeq := none, lastTx := some m.peer1, t1 := m.peer1, t2 := p.syncRx }
          (655360000 < (d - median p.delays).natAbs → ∃ t, exec (.ptpMessage m) s = .next t ∧ t.ptp = q
            ∧ s.Changes { t with ptp := s.ptp } [TIM_OUTLIER_CNT.key 0] [] ∧ s.Counted t TIM_OUTLIER_CNT 0)
          ∧ ((d - median p.delays).natAbs ≤ 655360000 → ∀ t0, p.lastTx = some t0 → exec (.ptpMessage m) s =
            exec (.servoUpdate (m.peer1 + (p.syncCorr + m.corr) + d - p.syncRx) ((m.peer1 - t0) / 65536)) { s with ptp := q }))
        ∧ (m.kind = .delayResp → s.reg TIM_CFG_PROFILE ∉ [1, 4] → p.lastTx.isSome = true →
          let d := ((p.t2 : Int) - p.t1 + ((m.peer1 : Int) - m.own1 - m.corr)) / 2
          gives { p with delay := some d, delays := (d :: p.delays).take 16 })
        ∧ (m.kind = .pdelayResp → s.reg TIM_CFG_PROFILE ≠ 0 →
          let d := ((m.own2 : Int) - m.own1 - ((m.peer2 : Int) - m.peer1) - m.corr) / 2
          gives { p with delay := some d, delays := (d :: p.delays).take 16 })
        ∧ (∀ gm cls, m.kind = .announce gm cls false → s.flag TIM_CFG_GM_CAPABLE = true → s.flag TIM_STATUS_GM = false → ∃ t,
          exec (.ptpMessage m) s = .next t ∧ t.flag TIM_STATUS_GM = true ∧ t.ptp.gm = none
          ∧ s.Changes { t with ptp := s.ptp } (TIM_STATUS_GM.key 0 :: followKeys) [106])
        ∧ (∀ gm cls, m.kind = .announce gm cls true → p.gm ≠ some gm → ∃ t, exec (.ptpMessage m) s = .next t
          ∧ t.flag TIM_STATUS_GM = false ∧ t.ptp.gm = some gm ∧ t.ptpClass = cls
          ∧ s.Changes { t with ptp := s.ptp, ptpClass := s.ptpClass } (TIM_STATUS_GM.key 0 :: followKeys) [106])))
    ∧ (s.flag TIM_PPS_IN_EN = false → exec .ppsInEdge s = .next s)
    ∧ (s.flag TIM_PPS_IN_EN = true → s.timeSource ≠ 3 → ∃ t, exec .ppsInEdge s = .next t ∧ s.Changes t [TIM_PPS_IN_NS.key 0] []
      ∧ t.reg TIM_PPS_IN_NS = s.timNs)
    ∧ (s.flag TIM_PPS_IN_EN = true → s.timeSource = 3 → s.ppsPasses = true → ∀ p, s.time.lastPps = some p → ∃ t sec,
      t.reg TIM_PPS_IN_NS = s.timNs ∧ t.time.lastPps = some sec ∧ (2 * s.tim < (2 * sec + 1) * timPerSec) ∧ 2 * sec * timPerSec ≤ 2 * s.tim + timPerSec
      ∧ exec .ppsInEdge s = exec (.servoUpdate (((sec * timPerSec : Nat) - (s.tim : Int)) / (3 * 2 ^ 32)) ((sec - p) * 1000000000)) t)
    ∧ (s.linkThetas < 64 → exec .linkOffsetUpdate s = .next s)
    ∧ (64 ≤ s.linkThetas → let t := { s with linkTheta := 0, linkThetas := 0 }
      (s.timeSource ≠ 2 → exec .linkOffsetUpdate s = .next t)
      ∧ (s.timeSource = 2 → exec .linkOffsetUpdate s =
        exec (.servoUpdate (s.linkTheta * 256 / s.linkThetas) (64000000000 / s.linkBase)) t))

/-! ## Network -/

/-- An RTP packet of the device's own is read back whole. A receive stream: a packet for no stream changes nothing, one that fails a later
test is counted, an accepted one makes the stream RUNNING and its path good, with EV97 and EV99 where they change; after four packet times
a path is lost and the stream LOST; EN takes the stream to STARTING or OFF; the media index is the one congruent to the time stamp nearest
the group's tick (12 R535, R536, R539, R540, R543).
Where the rules leave it open it says the model's choice: log entry 50. -/
def Obligations.NetReceive : Prop :=
  (∀ r : Rtp, r.pt < 128 → r.seq < 2 ^ 16 → r.ts < 2 ^ 32 → r.ssrc < 2 ^ 32 → rtpParse (rtpBytes r) = some r)
  ∧ (∀ n ts ofs : Nat, let u := mediaIndex n ts ofs
      (n : Int) - 2 ^ 31 ≤ u ∧ u < n + 2 ^ 31 ∧ (u - ((ts : Int) - ofs)) % 2 ^ 32 = 0)
  ∧ ∀ (s : State) (lane : Fin 2) (d : Datagram) (k : Fin 128),
    let st := s.reg NET_RX_STATUS_STATE k.val
    let x := s.rx k.val
    let up (t : State) (l : Fin 2) := if l = 0 then t.flag NET_RX_STATUS_PATH_A k.val else t.flag NET_RX_STATUS_PATH_B k.val
    (s.flag NET_LANE_CTL_EN lane.val = false ∨ (∀ j, j < 128 → s.rxMatches j lane d = false) → exec (.rxPacket lane d) s = .next s)
    ∧ (s.flag NET_LANE_CTL_EN lane.val = true → (∀ j, j < 128 → s.rxMatches j lane d = decide (j = k.val)) →
      (rtpParse d.payload = none → ∃ t, exec (.rxPacket lane d) s = .next t ∧ s.Counted t NET_RX_BAD_CNT k.val
        ∧ s.Changes { t with cc := s.cc } [NET_RX_BAD_CNT.key k.val] (if s.cc.badRaised = some s.timSec then [] else [98]))
      ∧ ∀ r, rtpParse d.payload = some r →
        (s.rxFits k.val r = false → ∃ t, exec (.rxPacket lane d) s = .next t ∧ s.Counted t NET_RX_BAD_CNT k.val ∧ t.rxs = s.rxs)
        ∧ (s.rxFits k.val r = true → ∃ t, exec (.rxPacket lane d) s = .next t ∧ t.reg NET_RX_STATUS_STATE k.val = 2
          ∧ up t lane = true ∧ (t.rx k.val).at_ = s.cycles ∧ (t.rx k.val).path lane = { seq := ((t.rx k.val).path lane).seq, at_ := s.cycles }
          ∧ (s.awake = true → (st ≠ 2 → s.Raised t 97) ∧ ((x.path lane).lost = true → s.Raised t 99))
          ∧ ∀ q, (x.path lane).seq = some q → let ahead := (r.seq + 65536 - q) % 65536
            1 < ahead → ahead < 32768 → s.Counted t (if lane = 0 then NET_RX_LOSS_A_CNT else NET_RX_LOSS_B_CNT) k.val))
    ∧ (let past (since : Nat) := decide (4 * s.rxSpp k.val * 600000000 ≤ (s.cycles - since) * s.fs (s.rxGroup k.val))
      ∃ t, exec (.streamLost k) s = .next t ∧ up t 0 = (up s 0 && !past x.a.at_) ∧ up t 1 = (up s 1 && !past x.b.at_)
        ∧ t.reg NET_RX_STATUS_STATE k.val = (if st = 2 ∧ past x.at_ = true then 3 else st)
        ∧ (st = 2 → past x.at_ = true → s.awake = true → s.Raised t 97)
        ∧ s.Changes { t with rxs := s.rxs, aonLog := s.aonLog, logPending := s.logPending, evtLogged := s.evtLogged, regs := s.regs } [] [])
    ∧ (∀ on, s.flag NET_RX_CTL_EN k.val = on → exec (.rxEnable k on) s = .next s)
    ∧ (s.flag NET_RX_CTL_EN k.val = false → s.flag NET_RX_CFG_VALID k.val = true → ∃ t, exec (.rxEnable k true) s = .next t
      ∧ t.flag NET_RX_CTL_EN k.val = true ∧ t.reg NET_RX_STATUS_STATE k.val = 1 ∧ t.rx k.val = {}
      ∧ (∀ l : Fin 2, s.flag NET_LANE_CTL_EN l.val = true → s.maskBit NET_RX_CFG_PATHS l.val k.val = true →
          isMulticast (s.rxDst k.val l) = true → .igmp l (s.rxDst k.val l) (s.rxSrc k.val l) true s.lanes[l].v2 ∈ t.netOut)
      ∧ s.Changes { t with rxs := s.rxs, netOut := s.netOut } [NET_RX_CTL_EN.key k.val, NET_RX_STATUS_STATE.key k.val]
          (if st = 1 then [] else [97]))
    ∧ (s.flag NET_RX_CTL_EN k.val = true → ∃ t, exec (.rxEnable k false) s = .next t ∧ t.flag NET_RX_CTL_EN k.val = false
      ∧ t.reg NET_RX_STATUS_STATE k.val = 0 ∧ t.rx k.val = {} ∧ up t 0 = false ∧ up t 1 = false
      ∧ s.Changes { t with rxs := s.rxs, netOut := s.netOut } [NET_RX_CTL_EN.key k.val, NET_RX_STATUS_STATE.key k.val,
          NET_RX_STATUS_PATH_A.key k.val, NET_RX_STATUS_PATH_B.key k.val] (if st = 0 then [] else [97]))

/-- A transmit stream: EN = 1 takes the smallest multiple of SPP that is at least n_r + 1 as its first sample, and a free sequence number;
the packet that is due after a tick goes out once on every path with a link, its time stamp m + TX_TS_OFS, its sequence number rising by
one, and is counted as dropped on the others (12 R544, R545; the first sequence number is the model's free value).
Where the rules leave it open it says the model's choice: log entry 96. -/
def Obligations.NetTransmit : Prop :=
  ∀ (s : State) (k : Fin 128), let g := s.txGroup k.val
    let n := (s.group g).n
    let spp := s.txSpp k.val
    let x := s.tx k.val
    let en := s.flag NET_TX_CTL_EN k.val
    (∀ on, en = on → exec (.txEnable k on) s = .next s)
    ∧ (en = true → ∃ t, exec (.txEnable k false) s = .next t ∧ t.flag NET_TX_CTL_EN k.val = false ∧ t.tx k.val = {}
      ∧ s.Changes { t with txs := s.txs } [NET_TX_CTL_EN.key k.val] [])
    ∧ (en = false → ∃ t, exec (.txEnable k true) s = .next t ∧ t.flag NET_TX_CTL_EN k.val = true ∧ (t.tx k.val).last = none
      ∧ (t.tx k.val).seq < 65536 ∧ s.Changes { t with txs := s.txs, free := s.free } [NET_TX_CTL_EN.key k.val] []
      ∧ ((s.group g).begun = false → (t.tx k.val).first = none)
      ∧ ((s.group g).begun = true → cycles200ns < s.cyclesToNext g → ∃ m, (t.tx k.val).first = some m ∧ m % spp = 0 ∧ n + 1 ≤ m
        ∧ m < n + 1 + spp))
    ∧ (en = false ∨ s.flag NET_TX_CFG_VALID k.val = false ∨ (s.group g).begun = false → exec (.txPacket k) s = .next s)
    ∧ (en = true → s.flag NET_TX_CFG_VALID k.val = true → (s.group g).begun = true → ∀ first, x.first = some first →
      let m := n / spp * spp - spp
      (n < spp ∨ m < first ∨ x.last = some m → exec (.txPacket k) s = .next s)
      ∧ (spp ≤ n → first ≤ m → x.last ≠ some m → ∃ t, exec (.txPacket k) s = .next t ∧ t.tx k.val = { x with seq := (x.seq + 1) % 65536, last := some m }
        ∧ s.Changes { t with txs := s.txs, netOut := s.netOut } [NET_TX_LOSS_A_CNT.key k.val, NET_TX_LOSS_B_CNT.key k.val] []
        ∧ (∀ l : Fin 2, s.maskBit NET_TX_CFG_PATHS l.val k.val = true →
          s.flag NET_LANE_CTL_EN l.val = true → s.flag NET_LANE_STATUS_LINK l.val = true →
          .udp l (if l = 0 then s.reg NET_TX_DST_A k.val else s.reg NET_TX_DST_B k.val)
            (if l = 0 then s.reg NET_TX_PORT_PORT_A k.val else s.reg NET_TX_PORT_PORT_B k.val)
            (rtpBytes { pt := s.reg NET_TX_CFG_PT k.val, seq := x.seq, ts := (m + s.reg NET_TX_TS_OFS k.val) % 2 ^ 32,
                        ssrc := s.reg NET_TX_SSRC k.val, payload := s.txPayload k.val m }) ∈ t.netOut)
        ∧ (s.reg NET_TX_CFG_PATHS k.val = 1 → s.flag NET_LANE_STATUS_LINK 0 = false → t.netOut = s.netOut ∧ s.Counted t NET_TX_LOSS_B_CNT k.val)))

/-- Lanes: EN, LINK with EV96, the address that a lane takes as its link comes up, and the link-local one after 10 s without a lease; a
frame of a lane that is off is lost, a bad one, a fragment and a multicast frame of no joined group are counted, ARP and echo requests for
the lane's own address are answered, a query is answered by the joined groups, a lease is taken (12 R533 to R535, R553, R555).
Where the rules leave it open it says the model's choice: log entry 37. -/
def Obligations.NetLanes : Prop :=
  ∀ (s : State) (l : Fin 2),
    let link := s.flag NET_LANE_STATUS_LINK l.val
    let en := s.flag NET_LANE_CTL_EN l.val
    let own := s.reg NET_LANE_IP_NOW_IP l.val
    let src := s.reg NET_LANE_IPCFG_SRC l.val
    let addr := [NET_LANE_IP_NOW_IP.key l.val, NET_LANE_STATUS_ADDR_OK.key l.val]
    let localIp (t : State) := 0xA9FE0100 ≤ t.reg NET_LANE_IP_NOW_IP l.val ∧ t.reg NET_LANE_IP_NOW_IP l.val < 0xA9FEFF00
    (∃ t, exec (.laneEnable l true) s = .next t ∧ t.flag NET_LANE_CTL_EN l.val = true ∧ s.Changes t [NET_LANE_CTL_EN.key l.val] [])
    ∧ (∃ t, exec (.laneEnable l false) s = .next t ∧ t.flag NET_LANE_CTL_EN l.val = false ∧ t.flag NET_LANE_STATUS_LINK l.val = false
      ∧ t.reg NET_LANE_IP_NOW_IP l.val = 0 ∧ t.flag NET_LANE_STATUS_ADDR_OK l.val = false
      ∧ s.Changes { t with lanes := s.lanes } (NET_LANE_CTL_EN.key l.val :: NET_LANE_STATUS_LINK.key l.val :: addr) (if link then [96] else []))
    ∧ (link = true → ∃ t, exec (.laneLinkChange l false) s = .next t ∧ t.flag NET_LANE_STATUS_LINK l.val = false
      ∧ s.Changes t [NET_LANE_STATUS_LINK.key l.val] [96])
    ∧ (link = true → en = true → s.reg NET_LANE_CFG_MODE l.val ≠ 0 → exec (.laneLinkChange l true) s = .next s)
    ∧ (link = false → exec (.laneLinkChange l false) s = .next s)
    ∧ (link = false → en = true → s.reg NET_LANE_CFG_MODE l.val ≠ 0 → ∃ t, exec (.laneLinkChange l true) s = .next t
      ∧ t.flag NET_LANE_STATUS_LINK l.val = true ∧ t.lanes[l].upSince = s.cycles
      ∧ s.Changes { t with lanes := s.lanes, free := s.free } (NET_LANE_STATUS_LINK.key l.val :: addr) [96]
      ∧ (s.flag NET_LANE_STATUS_ADDR_OK l.val = false → (src = 0 → t.reg NET_LANE_IP_NOW_IP l.val = s.reg NET_LANE_IP l.val % 2 ^ 32)
        ∧ (src = 1 → t.reg NET_LANE_IP_NOW_IP l.val = own) ∧ (src = 2 → localIp t)))
    ∧ (let due := link = true ∧ src = 1 ∧ s.flag NET_LANE_STATUS_ADDR_OK l.val = false ∧ s.lanes[l].upSince + 6000000000 ≤ s.cycles
      (due → ∃ t, exec (.linkLocalFallback l) s = .next t ∧ localIp t ∧ t.flag NET_LANE_STATUS_ADDR_OK l.val = true
        ∧ s.Changes { t with free := s.free } addr [])
      ∧ (¬due → exec (.linkLocalFallback l) s = .next s))
    ∧ ∀ (f : LaneFrame), let cmd := Instr.laneFrameReceive l f
      let counts (c : Field) := ∃ t, exec cmd s = .next t ∧ s.Counted t c l.val ∧ s.Changes t [c.key l.val] []
      let sends (o : NetOut) := ∃ t, exec cmd s = .next t ∧ t.netOut.head? = some o ∧ { t with netOut := s.netOut } = s
      (en = false ∨ link = false → exec cmd s = .next s)
      ∧ (en = true → link = true → f.fcsOk = false → counts NET_LANE_FCS_CNT)
      ∧ (en = true → link = true → f.fcsOk = true → s.flag NET_LANE_CFG_VLAN_EN l.val = true → f.vid ≠ some (s.reg NET_LANE_CFG_VID l.val) →
        exec cmd s = .next s)
      ∧ (en = true → link = true → f.fcsOk = true → (s.flag NET_LANE_CFG_VLAN_EN l.val = true → f.vid = some (s.reg NET_LANE_CFG_VID l.val)) →
        (f.kind = .pause → exec cmd s = .next s)
        ∧ (f.kind = .fragment → counts NET_LANE_FRAG_CNT)
        ∧ (∀ a, f.kind = .multicast a → (∀ j ∈ s.joined l, j.1 ≠ a) → counts NET_LANE_FILT_CNT)
        ∧ (∀ a w, f.kind = .arp a w → own ≠ 0 → a = own → sends (.arp l a w))
        ∧ (∀ a w, f.kind = .arp a w → a ≠ own → exec cmd s = .next s)
        ∧ (∀ a b dat, f.kind = .icmpEcho a b dat → own ≠ 0 → b = own → sends (.icmp l a dat))
        ∧ (∀ a, f.kind = .dhcpAck a → src = 1 → ∃ t, exec cmd s = .next t ∧ t.reg NET_LANE_IP_NOW_IP l.val = a % 2 ^ 32
          ∧ t.flag NET_LANE_STATUS_ADDR_OK l.val = (a != 0) ∧ s.Changes t addr [])
        ∧ (∀ v, f.kind = .igmpQuery v → ∃ t, exec cmd s = .next t ∧ t.lanes[l].v2 = v ∧ (s.joined l = [] → t.netOut = s.netOut)
          ∧ ∀ j, (s.joined l).getLast? = some j → t.netOut.head? = some (.igmp l j.1 j.2 true v)))

/-- CONTROL_MESSAGE: nothing but a message to an open control port counts; one without key, with a wrong tag, or beyond 1,000 in a second is
dropped and counted, EV101 once in a second; one whose SEQ does not exceed the floor is counted and answered with the floor; another raises
the floor to its SEQ and joins the mailbox (12 R547 to R549; 15 R654; 16 R674).
Where the rules leave it open it says the model's choice: log entries 35 and 89. -/
def Obligations.ControlChannel : Prop :=
  ∀ (s : State) (l : Fin 2) (d : Datagram),
    let opened := s.reg NET_CC_CFG_PORT ≠ 0 ∧ d.dport = s.reg NET_CC_CFG_PORT ∧ s.maskBit NET_CC_CFG_LANES l.val = true
      ∧ s.flag NET_LANE_CTL_EN l.val = true ∧ s.flag NET_LANE_STATUS_ADDR_OK l.val = true ∧ d.dst = s.reg NET_LANE_IP_NOW_IP l.val
    let cmd := Instr.controlMessage l d
    let second := s.cycles / 600000000
    let few := s.cc.second = second → s.cc.count < 1000
    let failed (t : State) := s.Counted t NET_CC_FAIL_CNT 0 ∧ t.cc.floors = s.cc.floors ∧ t.mbx = s.mbx
      ∧ (s.awake = true → s.cc.failRaised ≠ some second → s.Raised t 101)
    let dropped := ∃ t, exec cmd s = .next t ∧ failed t
      ∧ s.Changes { t with cc := s.cc } [NET_CC_FAIL_CNT.key 0] (if s.cc.failRaised = some second then [] else [101])
    (¬opened → exec cmd s = .next s)
    ∧ (opened → ¬few → dropped)
    ∧ (opened → ccParse d.payload = none → dropped)
    ∧ ∀ m, opened → ccParse d.payload = some m →
      (s.sec.ccKeys[m.key] = none → dropped)
      ∧ ∀ secret, s.sec.ccKeys[m.key] = some secret →
        (s.flag SEC_STATUS_KEYS_LOCKED = true ∨ Config.hmacSha256 secret m.covered ≠ m.tag → dropped)
        ∧ (few → s.flag SEC_STATUS_KEYS_LOCKED = false → Config.hmacSha256 secret m.covered = m.tag →
          (m.seq ≤ s.cc.floors[m.key] → ∃ t, exec cmd s = .next t ∧ failed t ∧ t.netOut.head? =
            some (.udp l d.src d.sport (ccBytes 0x81 m.key secret m.seq (beBytes 8 s.cc.floors[m.key]))))
          ∧ (s.cc.floors[m.key] < m.seq → ∃ t, exec cmd s = .next t ∧ t.cc.floors[m.key] = m.seq ∧ s.Counted t NET_CC_OK_CNT 0
            ∧ (∀ q : Fin 4, q ≠ m.key → t.cc.floors[q] = s.cc.floors[q])
            ∧ (s.mbx.remote < 15 → t.mbx = { s.mbx with
                queue := s.mbx.queue ++ [{ src := .control l d.src d.sport m.key.val m.seq, words := beWords m.payload }] })
            ∧ (15 ≤ s.mbx.remote → t.mbx = s.mbx ∧ t.netOut.head? = some (.udp l d.src d.sport (ccBytes 1 m.key secret m.seq
                (bePayload (replyWords ((beWords m.payload).headD 0) 1 [])))))))

/-! ## Clocks -/

/-- The reference: its stop shows REF_HOLD, its return within 100 ms ends it, a failed check raises EV108. Input monitors: an edge gives a
period; the first IN period makes an input OK, an edge after a stop RETURNING, the 64th IN period in a row OK, and a run of OUT periods that
an IN one ends is a glitch; no edge within two periods stops the input and puts its PLL in holdover; an input that is OK again lets its PLL
rejoin. Every change of monitor state raises EV109 (13 R570, R572, R574 to R578, R581).
Where the rules leave it open it says the model's choice: log entry 85. -/
def Obligations.ClockInputs : Prop :=
  ∀ (s : State),
    (s.flag CLK_STATUS_REF_HOLD = false → ∃ t, exec .referenceStop s = .next t ∧ t.flag CLK_STATUS_REF_HOLD = true
      ∧ t.refStopped = some s.cycles ∧ s.Changes { t with refStopped := s.refStopped } [CLK_STATUS_REF_HOLD.key 0] [])
    ∧ (s.flag CLK_STATUS_REF_HOLD = true → exec .referenceStop s = .next s)
    ∧ (∀ c, s.refStopped = some c →
      (s.cycles < c + 60000000 → ∃ t, exec .referenceReturn s = .next t ∧ t.flag CLK_STATUS_REF_HOLD = false ∧ t.refStopped = none
        ∧ s.Changes { t with refStopped := s.refStopped } [CLK_STATUS_REF_HOLD.key 0] [])
      ∧ (c + 60000000 ≤ s.cycles → exec .referenceReturn s = .next s))
    ∧ exec (.referenceCheck true) s = .next s ∧ (∃ t, exec (.referenceCheck false) s = .next t ∧ s.Changes t [] [108])
    ∧ ∀ (k : Fin 18), let st := s.reg CLK_IN_STATUS_STATE k.val
      let x := s.monitor k.val
      let enters (t : State) (n : Nat) := t.reg CLK_IN_STATUS_STATE k.val = n ∧ (s.awake = true → s.Raised t 109)
      (s.monitored k.val = false → exec (.inputEdge k) s = .next s)
      ∧ (s.monitored k.val = true → x.lastEdge = none → ∃ t, exec (.inputEdge k) s = .next t ∧ (t.monitor k.val).lastEdge = some s.cycles
        ∧ { t with monitors := s.monitors, plls := s.plls } = s)
      ∧ (∀ c, s.monitored k.val = true → x.lastEdge = some c → let p := 5 * (s.cycles - c)
        let isIn := 100 * p ≤ 105 * s.expectedThirds k.val ∧ 95 * s.expectedThirds k.val ≤ 100 * p
        ∃ t, exec (.inputEdge k) s = .next t ∧ (t.monitor k.val).lastEdge = some s.cycles
        ∧ (isIn ∨ x.outRun.length < 63 → t.reg CLK_IN_PERIOD k.val = p / 3 % 2 ^ 32)
        ∧ (st = 0 → isIn → enters t 1)
        ∧ (st = 0 → ¬isIn → t.reg CLK_IN_STATUS_STATE k.val = 0)
        ∧ (st = 2 → enters t 5)
        ∧ (st = 5 → isIn → (x.inRun < 63 → t.reg CLK_IN_STATUS_STATE k.val = 5 ∧ (t.monitor k.val).inRun = x.inRun + 1)
          ∧ (63 ≤ x.inRun → enters t 1))
        ∧ (st = 5 → ¬isIn → t.reg CLK_IN_STATUS_STATE k.val = 5 ∧ (t.monitor k.val).inRun = 0)
        ∧ (st = 3 → s.cycles < x.lastOut + 600000000 → t.reg CLK_IN_STATUS_STATE k.val = 3)
        ∧ (st = 1 → isIn → x.outRun ≠ [] → s.Counted t CLK_IN_GLITCH_CNT k.val ∧ (t.monitor k.val).outRun = []
          ∧ (x.glitches.length < 8 → t.reg CLK_IN_STATUS_STATE k.val = 1))
        ∧ (st = 1 → ¬isIn → x.outRun.length < 63 → t.reg CLK_IN_STATUS_STATE k.val = 1 ∧ (t.monitor k.val).outRun = p :: x.outRun)
        ∧ (63 ≤ x.inRun → st = 5 → isIn → ∀ n, s.pllInput n = some k.val → s.pllState n = 3 → (s.pll n).rateRamp = false →
          t.pllState n = if s.flag CLK_REJOIN_MODE then 2 else 4))
      ∧ (∀ c, x.lastEdge = some c → let due := s.monitored k.val = true ∧ st ≠ 0 ∧ st ≠ 2 ∧ 2 * s.expectedThirds k.val ≤ 5 * (s.cycles - c)
        (¬due → exec (.inputStopped k) s = .next s)
        ∧ (due → ∃ t, exec (.inputStopped k) s = .next t ∧ enters t 2 ∧ s.Counted t CLK_IN_STOP_CNT k.val
          ∧ ∀ n, s.pllInput n = some k.val → s.pllState n = 2 → t.pllState n = 3 ∧ s.Counted t CLK_MPLL_HOLD_CNT n.val))

/-- PLLs: a media monitor failure gates the groups, raises EV108 and starts a relock; at its declared instant a PLL locks, starts again up
to three attempts in all, or fails with EV108; a rate change ends in GATED once every group is silent and relocks at once under FALLBACK,
else when its input is OK; a rejoin ends with EV111 (13 R565, R569, R573, R579, R582).
Where the rules leave it open it says the model's choice: log entries 23 and 86. -/
def Obligations.ClockPlls : Prop :=
  ∀ (s : State) (n : Fin 2), let st := s.pllState n
    let x := s.pll n
    let state := CLK_MPLL_STATUS_STATE.key n.val
    (st ∈ [2, 3, 4, 6] → ∃ t, exec (.mediaMonitorFail n) s = .next t ∧ t.pllState n = 1 ∧ (t.pll n).lockSince = s.cycles
      ∧ (t.pll n).attempts = 0 ∧ s.Counted t CLK_MPLL_RELOCK_CNT n.val ∧ (s.awake = true → s.Raised t 108)
      ∧ ∀ g, s.fs g ≠ 0 → s.pllOf g = n.val → (t.group g).gated = true ∧ (t.group g).gate = none)
    ∧ (st ∉ [2, 3, 4, 6] → exec (.mediaMonitorFail n) s = .next s)
    ∧ (∀ passes, let cmd := Instr.pllLockDeclare (if n = 0 then 3 else 4) passes
      (st ≠ 1 ∨ s.cycles < x.lockSince + 1200000 → exec cmd s = .next s)
      ∧ (st = 1 → x.lockSince + 1200000 ≤ s.cycles →
        (passes = true → ∃ t, exec cmd s = .next t ∧ t.pllState n = (if x.fallback then 6 else 2) ∧ (t.pll n).attempts = 0
          ∧ ((t.pll n).waitEdge = true ↔ s.reg CLK_MPLL_CFG_REF n.val ≠ 0 ∧ x.fallback = false)
          ∧ s.Changes { t with plls := s.plls, groups := s.groups } [state] (if x.rateRamp then [110] else []))
        ∧ (passes = false → x.attempts < 2 → ∃ t, exec cmd s = .next t ∧ (t.pll n).attempts = x.attempts + 1
          ∧ (t.pll n).lockSince = s.cycles ∧ { t with plls := s.plls } = s)
        ∧ (passes = false → 2 ≤ x.attempts → ∃ t, exec cmd s = .next t ∧ t.pllState n = 7 ∧ s.Changes t [state] [108])))
    ∧ (∀ passes, let cmd := Instr.pllLockDeclare (if n = 0 then 1 else 2) passes
      let y := s.sps[n]
      let lock := if n = 0 then CLK_STATUS_SP0_LOCK else CLK_STATUS_SP1_LOCK
      (y.locking = false ∨ s.cycles < y.since + 120000 → exec cmd s = .next s)
      ∧ (y.locking = true → y.since + 120000 ≤ s.cycles →
        (passes = true → ∃ t, exec cmd s = .next t ∧ t.flag lock = true ∧ t.sps[n].locking = false
          ∧ s.Changes { t with sps := s.sps } [lock.key 0, CLK_STATUS_SP1_VCO.key 0] [])
        ∧ (passes = false → y.attempts < 2 → ∃ t, exec cmd s = .next t ∧ t.sps[n] = { y with attempts := y.attempts + 1, since := s.cycles }
          ∧ { t with sps := s.sps } = s)
        ∧ (passes = false → 2 ≤ y.attempts → ∃ t, exec cmd s = .next t ∧ t.sps[n].failed = true ∧ s.Changes { t with sps := s.sps } [] [108])))
    ∧ (let silent := x.rateRamp = true ∧ st = 3 ∧ ∀ g, s.fs g ≠ 0 → s.pllOf g = n.val → (s.group g).gated = true
      (silent → ∃ t, exec (.rateChangeGate n) s = .next t ∧ t.pllState n = 5 ∧ ∀ p, s.sapMaster p = true → s.fs (s.sapGroup p) ≠ 0 →
        s.pllOf (s.sapGroup p) = n.val → s.sapState p = 2 → t.sapState p = 0)
      ∧ (¬silent → exec (.rateChangeGate n) s = .next s))
    ∧ (let fb := s.flag CLK_MPLL_CFG_FALLBACK n.val
      let ready := st = 5 ∧ (fb = true ∨ ∀ i, s.pllInput n = some i → s.reg CLK_IN_STATUS_STATE i = 1)
      (ready → ∃ t, exec (.rateChangeRelock n) s = .next t ∧ t.pllState n = 1 ∧ (t.pll n).fallback = fb ∧ (t.pll n).lockSince = s.cycles
        ∧ s.Counted t CLK_MPLL_RELOCK_CNT n.val ∧ s.Changes { t with plls := s.plls } [state, CLK_MPLL_RELOCK_CNT.key n.val,
          CLK_MPLL_RATIO_LO_FRAC.key n.val, CLK_MPLL_RATIO_HI_INT.key n.val] [])
      ∧ (¬ready → exec (.rateChangeRelock n) s = .next s))
    ∧ (st = 4 → ∃ t, exec (.rejoinEnd (if n = 0 then 1 else 2)) s = .next t ∧ t.pllState n = 2 ∧ s.Changes t [state] [111])
    ∧ (st ≠ 4 → exec (.rejoinEnd (if n = 0 then 1 else 2)) s = .next s)
    ∧ (s.time.rejoin = some .slew → (BitVec.ofNat 32 (s.reg TIM_THETA)).toInt.natAbs < 25600 → ∃ t, exec (.rejoinEnd 0) s = .next t
      ∧ t.reg TIM_STATUS_STATE = 2 ∧ t.flag CLK_STATUS_REJOINING = false ∧ t.time.rejoin = none ∧ t.tim = s.tim
      ∧ (s.awake = true → s.Raised t 111))
    ∧ (s.time.rejoin ≠ some .slew ∨ 25600 ≤ (BitVec.ofNat 32 (s.reg TIM_THETA)).toInt.natAbs → exec (.rejoinEnd 0) s = .next s)

/-! ## Configuration loader -/

/-- The loader: GO starts a verify pass while idle and is remembered as ignored otherwise; a verify pass waits for a chamber sync; a
refused bitstream ends with RESULT 2, its code and EV119 and changes nothing else; one that passed goes to its apply pass, a partial load of
a running group waiting for its ramp first and entering LOADING at the tick where that has ended; an apply pass that finds damage ends with
RESULT 4 and the groups OFF, one that completes with RESULT 1, its SEQ and the restore list; a restore of a partial load that fails is
skipped (14 R594, R595, R608 to R612, R617 to R619; 06 R240).
Where the rules leave it open it says the model's choice: log entries 38, 73 and 74. -/
def Obligations.LoaderStages : Prop :=
  ∀ (s : State), let st := s.reg LDR_STATUS_STATE
    let ended (t : State) (result : Nat) := t.reg LDR_STATUS_STATE = 0 ∧ t.reg LDR_STATUS_RESULT = result ∧ t.loader.load = none
    let own := [LDR_STATUS_UNVERIFIED, LDR_STATUS_KIND, LDR_STATUS_SKIPPED, LDR_STATUS_STATE, LDR_ERR_CODE, LDR_ERR_RECORD, LDR_ERR_OFS,
      LDR_ERR_ARG].map fun f => f.key 0
    (st ≠ 0 → ∃ t, exec .goLoad s = .next t ∧ t.flag LDR_STATUS_GO_IGNORED = true ∧ s.Changes t [LDR_STATUS_GO_IGNORED.key 0] [])
    ∧ (st = 0 → ∃ t, exec .goLoad s = .next t ∧ t.reg LDR_STATUS_STATE = 1 ∧ t.reg LDR_STATUS_SKIPPED = 0
      ∧ t.loader = { s.loader with load := some { addr := s.reg LDR_SRC_ADDR, len := s.reg LDR_SRC_LEN } }
      ∧ s.Changes { t with loader := s.loader } [LDR_STATUS_STATE.key 0, LDR_STATUS_SKIPPED.key 0] [])
    ∧ ((s.loader.load = none ∨ st ≠ 1) → exec .verifyPassComplete s = .next s)
    ∧ (∀ ld0, st = 1 → s.loader.load = some ld0 → ld0.boot = false → let ld := s.loadPlan ld0
      let v := ((s.putFlag LDR_STATUS_UNVERIFIED 0 Config.devFuse).putFlag LDR_STATUS_KIND 0 ld.isChamber).put LDR_STATUS_SKIPPED 0
        (min 65535 (s.skipCount ld))
      (s.syncWait ld = true → exec .verifyPassComplete s = .next s)
      ∧ (s.syncWait ld = false →
        (∀ e, v.loadError ld {} = some e → ∃ t, exec .verifyPassComplete s = .next t ∧ ended t 2 ∧ t.reg LDR_ERR_CODE = e.code % 2 ^ 8
          ∧ (∀ k, e.index = some k → t.reg LDR_ERR_RECORD = k % 2 ^ 24) ∧ (∀ k, e.ofs = some k → t.reg LDR_ERR_OFS = k % 2 ^ 32)
          ∧ s.Changes { t with loader := s.loader, free := s.free } (LDR_STATUS_RESULT.key 0 :: own) [119])
        ∧ (v.loadError ld {} = none →
          (ld.kind = .whole → ∃ t, exec .verifyPassComplete s = .next t ∧ t.reg LDR_STATUS_STATE = 3 ∧ t.reg LDR_ERR_CODE = 0
            ∧ t.routes = [] ∧ t.ingress = [] ∧ t.egress = [] ∧ (t.loader.load.map fun l => l.steps) = some ld.steps)
          ∧ (∀ g, ld.kind = .chamber g → ∃ t, exec .verifyPassComplete s = .next t ∧ t.reg LDR_STATUS_STATE = 3 ∧ t.reg LDR_ERR_CODE = 0
            ∧ t.loader = { s.loader with load := some ld } ∧ s.Changes { t with loader := s.loader } own [])
          ∧ (∀ g, ld.kind = .part g → s.fs g ≠ 0 → ∃ t, exec .verifyPassComplete s = .next t ∧ t.reg LDR_STATUS_STATE = 2
            ∧ t.loader = { s.loader with load := some ld } ∧ t.group g = { s.group g with waitRamp := true }
            ∧ (∀ h, h ≠ g → t.group h = s.group h) ∧ s.Changes { t with loader := s.loader, groups := s.groups } own []))))
    ∧ (∀ ld g n, s.loader.load = some ld → ld.kind = .part g →
      (st ≠ 2 → exec .loadingEntry s = .next s)
      ∧ (st = 2 → s.dueTick g = none → exec .loadingEntry s = .next s)
      ∧ (st = 2 → s.dueTick g = some n → s.marked g .ramp = false → (s.group g).waitRamp = true →
        (s.rgState g = 0 ∨ ∃ r, (s.group g).ramp = some r ∧ r.down = true ∧ (s.group g).target = some 5 ∧ s.rampLen g r ≤ r.j) →
        s.rgState g ≠ 5 →
        ∃ t, exec .loadingEntry s = .next t ∧ t.rgState g = 5 ∧ t.reg LDR_STATUS_STATE = 3 ∧ t.flag SE_RG_CTL_RUN g.val = false
          ∧ (t.group g).waitRamp = false ∧ t.reg SE_RG_CFG_MEMBERS g.val = 0 ∧ (∀ p ∈ t.ingress, p.2.group ≠ g)
          ∧ (∀ p ∈ t.egress, p.2.group ≠ g)))
    ∧ (s.loader.load = none → exec .loadingEntry s = .next s ∧ exec .applyPassComplete s = .next s)
    ∧ (∀ ld, s.loader.load = some ld → let l := s.loadBytes ld
      let bad := bsDigestOk l = false ∨ bsDigest l ≠ ld.digest ∨ ∃ p ∈ (s.loadArea ld).recs, p.2 = false
      ((st ≠ 3 ∨ s.syncWait ld = true ∨ s.reg MEM_STATUS_SPARGING ≠ 0) → exec .applyPassComplete s = .next s)
      ∧ (st = 3 → s.syncWait ld = false → s.reg MEM_STATUS_SPARGING = 0 →
        (bad → ∃ t, exec .applyPassComplete s = .next t ∧ ended t 4 ∧ t.loader.list = s.loader.list
          ∧ (s.awake = true → t.maskBit EVT_PEND 23 3 = true)
          ∧ (ld.kind = .whole → ∀ g, t.rgState g = 0 ∧ t.flag SE_RG_CTL_RUN g.val = false)
          ∧ (∀ g, ld.kind = .part g → t.rgState g = 0 ∧ t.flag SE_RG_CTL_RUN g.val = false)
          ∧ (∀ g, ld.kind = .chamber g → s.Changes { t with loader := s.loader } [LDR_STATUS_STATE.key 0, LDR_STATUS_RESULT.key 0] [119]))
        ∧ (¬bad → ld.boot = false → ld.restore = false → ∃ t, exec .applyPassComplete s = .next t ∧ ended t 1
          ∧ (ld.kind = .whole → t.reg64 LDR_BOOT_SEQ_LO LDR_BOOT_SEQ_HI = ld.seq % 2 ^ 64
            ∧ t.loader.list.head? = some { group := none, addr := ld.addr, len := ld.len, digest := ld.digest })
          ∧ (∀ g, ld.kind = .part g → t.reg64 LDR_GRP_SEQ_LO LDR_GRP_SEQ_HI g.val = ld.seq % 2 ^ 64
            ∧ t.loader.list.getLast? = some { group := some g, addr := ld.addr, len := ld.len, digest := ld.digest })
          ∧ (∀ g, ld.kind = .chamber g → t.reg64 LDR_GRP_SEQ_LO LDR_GRP_SEQ_HI g.val = ld.seq % 2 ^ 64 ∧ t.loader.list = s.loader.list))))
    ∧ ((st ≠ 4 ∨ s.reg MEM_STATUS_SPARGING ≠ 0) → exec .restore s = .next s)
    ∧ (∀ e g, st = 4 → s.reg MEM_STATUS_SPARGING = 0 → s.loader.todo = [e] → e.group = some g →
      let w : State := { s.put LDR_STATUS_STATE 0 0 with loader := { s.loader with todo := [] } }
      let ld := w.loadPlan { addr := e.addr, len := e.len, restore := true }
      ∃ t, exec .restore s = .next t ∧ t.reg LDR_STATUS_STATE = 0 ∧ t.loader.todo = [] ∧ t.power.waking = none
        ∧ (if ld.digest ≠ e.digest ∨ (w.loadError ld { fast := true }).isSome then t.maskBit LDR_RESTORE_SKIP g.val = true
          else t.reg LDR_STATUS_RESULT = 1 ∧ t.loader.list = s.loader.list))

/-- Records: the next record of a running apply pass is applied by the command of its type and taken off the steps; nothing happens when
no apply pass runs. Registers take the record's images; RATEGROUP, TIME, POWER_POLICY, PROBE and SPARE set the fields of their group, media
clocks, power policy, probe and spares; PROGRAM fills a program page, COEF a coefficient page, STATE_INIT state memory or the chamber list,
BANK_INIT a bank, ROUTE the tables of the stream mover, REG_WRITE the masked fields (14 R605, R607, R610, R611; 06 R238, R246).
Where the rules leave it open it says the model's choice: log entry 90. -/
def Obligations.LoadRecords : Prop :=
  ∀ (s : State) (ld : Load) (r : Rec) (rest : List LoadStep), s.loader.load = some ld →
    (∀ p ∈ recordCommands, s.reg LDR_STATUS_STATE ≠ 3 ∨ s.syncWait ld = true ∨ s.reg MEM_STATUS_SPARGING ≠ 0 → exec p.2 s = .next s)
    ∧ (s.reg LDR_STATUS_STATE = 3 → s.syncWait ld = false → s.reg MEM_STATUS_SPARGING = 0 → ld.steps = .record r :: rest →
      ∀ p ∈ recordCommands, p.1 = r.typ → ∃ t, exec p.2 s = .next t ∧ t.loader = { s.loader with load := some { ld with steps := rest } }
        ∧ (r.typ ∈ [0x01, 0x06, 0x09, 0x0A, 0x0B, 0x0D, 0x0E, 0x10, 0x12] → ((recImages r).map fun q => q.1).Nodup →
          (∀ q ∈ recImages r, ∀ e ∈ fieldsAt q.1, t.reg e.1 e.2 = e.1.bits q.2)
          ∧ s.Changes { t with loader := s.loader } ((recImages r).flatMap fun q => (fieldsAt q.1).map fun e => e.1.key e.2) [])
        ∧ (r.typ = 0x02 → let g := r.wn 0 % 4
          t.reg SE_RG_CFG_RATE g = r.wn 0 / 2 ^ 8 % 2 ^ 4 ∧ t.reg SE_RG_SAFEMAP_CNT g = r.wn 1 % 128
          ∧ t.reg SE_RG_CFG_MEMBERS g = ld.members (r.wn 0 / 2 ^ 16) % 2 ^ 16
          ∧ (∀ c : CoreId, (ld.members (r.wn 0 / 2 ^ 16)).testBit c.val = true → t.reg SC_CFG_ROLE c.val = 1 ∧ t.reg SC_CFG_GROUP c.val = g)
          ∧ t.cores = s.cores ∧ t.banks = s.banks)
        ∧ (r.typ = 0x03 → let c := targetOf ld.remap (Fin.ofNat 16 (r.wn 0 % 16))
          let x := s.core c
          let pg : Fin 2 := if ld.isChamber then 1 - x.ppage else x.ppage
          { t with loader := s.loader, cores := s.cores } = s ∧ (∀ d, d ≠ c → t.core d = s.core d)
          ∧ { t.core c with prog := x.prog } = x ∧ (t.core c).prog[1 - pg] = x.prog[1 - pg] ∧ (t.core c).prog[pg].len = r.wn 0 / 2 ^ 16
          ∧ ∀ k, memWord (t.core c).prog[pg].mem k = (r.words.drop 101).getD k 0)
        ∧ (r.typ = 0x04 → s.ok = true → { t with loader := s.loader, cores := s.cores } = s ∧ ∀ c, let x := s.core c
          let pg : Fin 2 := if ld.isChamber then 1 - x.cpage else x.cpage
          if c ∈ ld.cores (r.wn 0) then (t.core c).coef[1 - pg] = x.coef[1 - pg] ∧ { t.core c with coef := x.coef } = x
            ∧ ∀ a, memWord (t.core c).coef[pg] a
              = (if a < r.wn 1 then none else (r.words.drop 2)[a - r.wn 1]?).getD (memWord x.coef[pg] a)
          else t.core c = x)
        ∧ (r.typ = 0x05 → s.ok = true → { t with loader := s.loader, cores := s.cores } = s ∧ ∀ c, let x := s.core c
          let ps := statePairs (r.words.drop 1)
          if c ∈ ld.cores (r.wn 0) then
            (ld.isChamber = true → ld.remap = [] → t.core c = { x with chInit := x.chInit ++ ps })
            ∧ (ld.isChamber = false → { t.core c with state := x.state } = x
              ∧ ∀ a, memWord (t.core c).state a = ((ps.reverse.find? fun q => q.1.toNat == a).map fun q => q.2).getD (memWord x.state a))
          else t.core c = x)
        ∧ (r.typ = 0x07 → s.ok = true → let b : BankId := Fin.ofNat 16 (r.wn 0 % 16)
          { t with loader := s.loader, banks := s.banks } = s ∧ (∀ c, c ≠ b → t.bank c = s.bank c)
          ∧ { t.bank b with mem := (s.bank b).mem } = s.bank b
          ∧ ∀ a, t.bankWord b a = (if a < r.wn 1 then none else (r.words.drop 2)[a - r.wn 1]?).getD (s.bankWord b a))
        ∧ (r.typ = 0x08 → { t with loader := s.loader, ingress := s.ingress, egress := s.egress, routes := s.routes } = s
          ∧ (((routeEntries (r.words.drop 1)).map fun e => e.1).Nodup → ∀ e ∈ routeEntries (r.words.drop 1), let (i, a, b, c, d) := e
            (r.wn 0 % 4 = 0 → a.getLsbD 26 = true → tabGet? i t.ingress = some (descOf a b c d))
            ∧ (r.wn 0 % 4 = 1 → a.getLsbD 26 = true → tabGet? i t.egress = some (descOf a b c d))
            ∧ (r.wn 0 % 4 = 2 → a.getLsbD 0 = true → tabGet? i t.routes = some (routeOf a b c d))))
        ∧ (r.typ = 0x0C → (∀ q ∈ [(0x0C0000, r.w 0), (0x0D0004, r.w 1), (0x0D0100, r.w 3), (0x0D0104, r.w 4), (0x0D0140, r.w 5),
            (0x0D0144, r.w 6)], ∀ e ∈ fieldsAt q.1, e.1.key e.2 ≠ CLK_WCLK_IN_FAM.key 0 → t.reg e.1 e.2 = e.1.bits q.2)
          ∧ t.reg CLK_WCLK_IN_FAM = r.wn 2 % 2)
        ∧ (r.typ = 0x0F → t.reg PRB_CTL_GROUP = r.wn 0 % 4 ∧ t.flag PRB_CTL_EN = s.flag PRB_CTL_EN)
        ∧ (r.typ = 0x11 → t.reg MEM_RET_MASK = r.wn 0 % 2 ^ 16 ∧ t.reg PWR_CFG_PL_DEFAULT = r.wn 0 / 2 ^ 16 % 2 ^ 3
          ∧ t.reg PWR_CFG_RETAIN_ON_PINRST = r.wn 0 / 2 ^ 19 % 2 ∧ t.reg PWR_CFG_BO_MUTE = r.wn 1 % 2 ∧ t.reg PWR_CFG_BO_DROP = r.wn 1 / 2 % 2
          ∧ t.reg PWR_CFG_BO_FLASH = r.wn 1 / 4 % 2 ∧ t.reg PWR_CFG_WAKE_SRC = r.wn 2 % 2 ^ 7
          ∧ s.Changes { t with loader := s.loader } ([MEM_RET_MASK, PWR_CFG_PL_DEFAULT, PWR_CFG_RETAIN_ON_PINRST, PWR_CFG_BO_MUTE,
            PWR_CFG_BO_DROP, PWR_CFG_BO_FLASH, PWR_CFG_WAKE_SRC].map fun f => f.key 0) [])
        ∧ (r.typ = 0x13 → ((triples r.words).map fun e => e.1.toNat).Nodup →
          (∀ e ∈ triples r.words, ∀ q ∈ fieldsAt e.1.toNat, t.reg q.1 q.2 = if q.1.bits e.2.1 = 0 then s.reg q.1 q.2 else q.1.bits e.2.2)
          ∧ s.Changes { t with loader := s.loader } ((triples r.words).flatMap fun e => (fieldsAt e.1.toNat).map fun q => q.1.key q.2) [])
        ∧ (r.typ = 0x14 → ld.remap = [] → (r.words.map fun w => w.toNat / 16 % 16).Nodup → ∀ w ∈ r.words,
          t.reg SC_CFG_ROLE (w.toNat / 16 % 16) = 2 ∧ t.reg SC_CFG_PRIMARY (w.toNat / 16 % 16) = w.toNat % 16))

/-! ## Security processor -/

/-- Operations of SEC: asked only while MGT runs an image and no brownout warning stands, else nothing happens; a refused one changes
nothing; an accepted one has its effect; both raise EV118. Slots are erased or committed unless running or TRIAL; CONFIRM needs TRIAL;
RAISE_MINVER, RAISE_EPOCH and REVOKE need a CONFIRMED running slot; a header, floors or key is written to the copy that does not count, with
the next generation (15 R625, R629, R630, R633, R638 to R640, R646, R647, R651, R652; 12 R550).
Where the rules leave it open it says the model's choice: log entries 41, 43 and 44. -/
def Obligations.SecOperations : Prop :=
  ∀ (s : State) (k : Fin 2) (j : Fin 4) (clk : Word) (mode : Byte) (key : BitVec 256) (auth : Option (Fin 4)), s.ok = true →
    let refused (cmd : Instr) := ∃ t, exec cmd s = .next t ∧ s.Changes { t with free := s.free } [] [118]
    let does (cmd : Instr) (p : State → Prop) := ∃ t, exec cmd s = .next t ∧ (s.awake = true → s.Raised t 118) ∧ p t
    let flashBut (t : State) (lo hi : Nat) := ∀ a, a < lo ∨ hi ≤ a → t.flashByte a = s.flashByte a
    let idle := s.sec.running ≠ some k ∧ s.imageState k ≠ 2
    let state := if k = 0 then SEC_BOOT_STATE_A else SEC_BOOT_STATE_B
    let fail := if k = 0 then SEC_BOOT_LAST_FAIL_A else SEC_BOOT_LAST_FAIL_B
    let running := if Config.devFuse then 0 else s.runningState
    let asked : List Instr := [.eraseSlot k, .commitSlot k, .confirm, .raiseMinver, .raiseEpoch, .revoke j, .writeHeader clk mode, .writeFloors,
      .keyInstall j key auth, .keyLock j]
    ((s.sec.phase ≠ .run ∨ s.flag PWR_STATUS_BO_WARN = true) → ∀ cmd ∈ asked, exec cmd s = .next s)
    ∧ (s.sec.phase = .run → s.flag PWR_STATUS_BO_WARN = false →
      (¬idle → refused (.eraseSlot k) ∧ refused (.commitSlot k))
      ∧ (idle → does (.eraseSlot k) fun t => t.reg state = 0 ∧ flashBut t (slotBase k) (slotBase k + slotBytes)
        ∧ ∀ a, slotBase k ≤ a → a < slotBase k + slotBytes → t.flashByte a = 0xFF)
      ∧ (idle → does (.commitSlot k) fun t => flashBut t (slotBase k) (slotBase k + 1) ∧ t.reg fail = ((s.bundleErr k true).getD 0) % 2 ^ 8
        ∧ t.flashByte (slotBase k) = match s.bundleErr k true with
          | none => s.flashByte (slotBase k) &&& 0xFE
          | some _ => 0)
      ∧ (running ≠ 2 → refused .confirm)
      ∧ (running = 2 → s.sec.running = some k → does .confirm fun t => t.imageState k = 3 ∧ t.flag SEC_STATUS_TRIAL = false
        ∧ t.reg SEC_TRIAL_SECONDS = 0 ∧ t.imageState (1 - k) = (if s.imageState (1 - k) = 3 then 4 else s.imageState (1 - k))
        ∧ t.reg SEC_MINVER = (if s.sec.minverRaise = true ∧ s.reg SEC_MINVER < s.reg SEC_VERSION then s.reg SEC_VERSION % 2 ^ 32
          else s.reg SEC_MINVER) ∧ (s.awake = true → s.Raised t 116))
      ∧ (¬(running = 3 ∧ s.reg SEC_MINVER < s.reg SEC_VERSION) → refused .raiseMinver)
      ∧ (running = 3 → s.reg SEC_MINVER < s.reg SEC_VERSION → does .raiseMinver fun t => t.reg SEC_MINVER = s.reg SEC_VERSION % 2 ^ 32
        ∧ flashBut t 0x2000 0x4000
        ∧ ∀ (c : Fin 2) gen, s.mvCount = some (c, gen) → gen + 1 < 2 ^ 32 → t.minVersion = s.reg SEC_VERSION % 2 ^ 32
          ∧ t.flashBytes (0x2000 + 4096 * c.val) 4096 = s.flashBytes (0x2000 + 4096 * c.val) 4096)
      ∧ (¬(running = 3 ∧ s.fuseEpoch < min (s.reg SEC_IMG_EPOCH) 32) → refused .raiseEpoch)
      ∧ (running = 3 → s.fuseEpoch < min (s.reg SEC_IMG_EPOCH) 32 → does .raiseEpoch fun t => t.fuseEpoch = min (s.reg SEC_IMG_EPOCH) 32
        ∧ t.reg SEC_EPOCH_FUSE = t.fuseEpoch ∧ s.Changes { t with free := s.free, fuseEpoch := s.fuseEpoch } [SEC_EPOCH_FUSE.key 0] [118])
      ∧ (¬(running = 3 ∧ s.reg SEC_KEYS_SIGNER ≠ j.val ∧ ∃ i : Fin 4, i ≠ j ∧ s.keyDead i.val = false) → refused (.revoke j))
      ∧ (running = 3 → s.reg SEC_KEYS_SIGNER ≠ j.val → (∃ i : Fin 4, i ≠ j ∧ s.keyDead i.val = false) → does (.revoke j) fun t =>
        t.fuseRevoke.testBit j.val = true ∧ (∀ i, i ≠ j.val → t.fuseRevoke.testBit i = s.fuseRevoke.testBit i)
        ∧ t.reg SEC_KEYS_REVOKED = t.fuseRevoke % 2 ^ 4 ∧ t.maskBit SEC_KEYS_LOADED j.val = false ∧ t.flash = s.flash)
      ∧ (does (.writeHeader clk mode) fun t => ∃ c < 2, flashBut t (4096 * c) (4096 * c + 4096)
        ∧ leAt (t.flashBytes (4096 * c) 64) 8 4 = clk.toNat ∧ leAt (t.flashBytes (4096 * c) 64) 12 1 = mode.toNat
        ∧ (mode.toNat ≤ 2 → headerOk (t.flashBytes (4096 * c) 64) = true) ∧ (s.flashBytes 0 64 = s.flashBytes 4096 64 → c = 1))
      ∧ (let kept := Config.devFuse = false ∧ ∀ i : Fin 4, s.storedFloors[i] ≤ s.askedFloors[i]
        (¬kept → refused .writeFloors)
        ∧ (kept → does .writeFloors fun t => t.cc.accepted = 0 ∧ flashBut t 0x4000 0x6000
          ∧ ∀ c gen, s.floorCount = some (c, gen) → gen + 1 < 2 ^ 32 → (∀ i : Fin 4, s.askedFloors[i] < 2 ^ 64) →
            t.storedFloors = s.askedFloors))
      ∧ (let open_ := Config.devFuse = false ∧ (s.sec.ccLocked.testBit j.val = false ∨ auth = some j)
        (¬open_ → refused (.keyInstall j key auth))
        ∧ (open_ → does (.keyInstall j key auth) fun t => flashBut t 0x6000 0x8000 ∧ t.sec.ccLocked = s.sec.ccLocked
          ∧ t.sec.ccKeys[j] = some ((List.range 32).map fun i => key.extractLsb' (8 * i) 8)
          ∧ (∀ i : Fin 4, i ≠ j → t.sec.ccKeys[i] = s.sec.ccKeys[i]) ∧ t.maskBit SEC_CC_KEYS_PRESENT j.val = true))
      ∧ (let holds := Config.devFuse = false ∧ s.sec.ccKeys[j].isSome = true
        (¬holds → refused (.keyLock j))
        ∧ (holds → does (.keyLock j) fun t => flashBut t 0x6000 0x8000 ∧ t.sec.ccKeys = s.sec.ccKeys ∧ t.sec.ccLocked.testBit j.val = true
          ∧ (∀ i, i ≠ j.val → t.sec.ccLocked.testBit i = s.sec.ccLocked.testBit i) ∧ t.maskBit SEC_CC_KEYS_LOCKED j.val = true)))

/-- Recovery: in a window START erases the named slot and begins a transfer; each word is programmed in order; DONE commits the slot and
restarts SEC; ABORT, or 10 s without a data write, ends the transfer with the slot erased and ERR set; a window of 2 s without a transfer
ends in a restart (15 R649, R650). -/
def Obligations.Recovery : Prop :=
  ∀ (s : State) (w : Word), s.ok = true → s.flag PWR_STATUS_BO_WARN = false →
    let erased (t : State) (k : Fin 2) := (∀ a, slotBase k ≤ a → a < slotBase k + slotBytes → t.flashByte a = 0xFF)
      ∧ ∀ a, a < slotBase k ∨ slotBase k + slotBytes ≤ a → t.flashByte a = s.flashByte a
    let boots (t : State) := (t.sec.phase = .window ∧ t.reg SEC_RCV_STATUS_STATE = 1 ∧ t.sec.since = s.cycles)
      ∨ ∃ slot trial fallback, t.sec.phase = .verify slot trial fallback ∧ t.reg LDR_STATUS_STATE = 1
    let ends (cmd : Instr) (k : Fin 2) := ∃ t, exec cmd s = .next t ∧ erased t k ∧ t.sec.phase = .window ∧ t.sec.since = s.cycles
      ∧ t.reg SEC_RCV_STATUS_STATE = 1 ∧ t.flag SEC_RCV_STATUS_ERR = true
    (s.sec.phase ≠ .window → exec .recoveryStart s = .next s ∧ exec .recoveryWindowExpiry s = .next s)
    ∧ ((∀ k n, s.sec.phase ≠ .receive k n) → exec (.recoveryData w) s = .next s ∧ exec .recoveryDone s = .next s
      ∧ exec .recoveryAbort s = .next s ∧ exec .recoveryTimeout s = .next s)
    ∧ (s.sec.phase = .window →
      (∀ k : Fin 2, s.reg SEC_RCV_CTL_SLOT = k.val → ∃ t, exec .recoveryStart s = .next t ∧ erased t k
        ∧ t.sec = { s.sec with phase := .receive k 0, since := s.cycles } ∧ t.reg SEC_RCV_STATUS_STATE = 2)
      ∧ (s.cycles < s.sec.since + 1200000000 → exec .recoveryWindowExpiry s = .next s)
      ∧ (s.sec.since + 1200000000 ≤ s.cycles → ∃ t, exec .recoveryWindowExpiry s = .next t ∧ boots t))
    ∧ (∀ k n, s.sec.phase = .receive k n → let at_ := slotBase k + 4096 + 4 * n
      (4 * n < min (s.reg SEC_RCV_LEN) bundleMax → ∃ t, exec (.recoveryData w) s = .next t
        ∧ t.sec = { s.sec with phase := .receive k (n + 1), since := s.cycles }
        ∧ (∀ i < 4, t.flashByte (at_ + i) = s.flashByte (at_ + i) &&& w.extractLsb' (8 * i) 8)
        ∧ ∀ a, a < at_ ∨ at_ + 4 ≤ a → t.flashByte a = s.flashByte a)
      ∧ (min (s.reg SEC_RCV_LEN) bundleMax ≤ 4 * n → ∃ t, exec (.recoveryData w) s = .next t ∧ t.sec = { s.sec with since := s.cycles }
        ∧ t.flash = s.flash)
      ∧ (∃ t, exec .recoveryDone s = .next t ∧ boots t ∧ ((s.bundleErr k true).isSome = true → t.flashByte (slotBase k) = 0))
      ∧ ends .recoveryAbort k
      ∧ (s.cycles < s.sec.since + 6000000000 → exec .recoveryTimeout s = .next s)
      ∧ (s.sec.since + 6000000000 ≤ s.cycles → ends .recoveryTimeout k))

/-! ## Resets -/

/-- P- and H-class resets: they put the device in its reset state with the cause shown, keep flash, fuses and waiting commands, keep banks by
class and retention, the floors in class H, and the time in whole seconds; during a running one a reset of no wider class is only seen. The
pins hold the reset, whose end starts SEC; the lock of the SYS PLL, declared 200 microseconds after its start, lets SEC go on, is tried three
times in all, and then is a clock fault (05 R228; 12 R531; 13 R569, R572; 15 R644; 16 R690, R700; 17 R710; 19 R758 to R761, R764).
Where the rules leave it open it says the model's choice: log entries 45 and 70. -/
def Obligations.Resets : Prop :=
  ∀ (s : State), s.ok = true →
    let idle := s.sec.phase ≠ .held ∧ s.sec.phase ≠ .start ∧ s.power.warm = false
    let resets (cmd : Instr) (code : Nat) (hold : Bool) :=
      (idle → ∃ t, exec cmd s = .next t ∧ t.reg GLB_RST_CAUSE_LAST = code ∧ t.maskBit GLB_RST_HIST_SEEN (code - 1) = true
        ∧ t.pending = s.pending ∧ t.cycles = s.cycles ∧ t.flash = s.flash ∧ t.fuseEpoch = s.fuseEpoch ∧ t.fuseRevoke = s.fuseRevoke
        ∧ t.sec.phase = (if hold then .held else .start) ∧ t.power.held = (if hold then some code else none) ∧ t.power.sleep = 0
        ∧ (∀ g, t.rgState g = 0 ∧ t.group g = {} ∧ t.flag SE_RG_CTL_RUN g.val = false) ∧ (∀ c, t.core c = {}) ∧ t.loader = {}
        ∧ t.routes = [] ∧ t.ingress = [] ∧ t.egress = [] ∧ t.flag CLK_STATUS_SYS_LOCK = false ∧ t.flag TIM_STATUS_COARSE = true
        ∧ (code ≤ 2 → t.tim = 0 ∧ (∀ b, (t.bank b).mem = []))
        ∧ (2 < code → (s.power.sleep < 2 → t.tim = s.timSec * timPerSec) ∧ t.cc.floors = s.cc.floors
          ∧ (s.jnlClearing = false → ∀ b : BankId, (t.bank b).mem = if code ∉ [3, 7, 8]
            ∨ (s.flag PWR_CFG_RETAIN_ON_PINRST = true ∧ s.maskBit MEM_RET_MASK b.val = true) then (s.bank b).mem else [])))
      ∧ (∀ c, (s.sec.phase = .held ∨ s.sec.phase = .start) → s.reg GLB_RST_CAUSE_LAST = c → c ∈ [1, 2, 3, 4, 5, 6, 7, 8, 0xC] →
        (code ∈ [1, 2] → c ∈ [1, 2, 0xC]) → code ≠ 1 → exec cmd s = .next (s.putMaskBit GLB_RST_HIST_SEEN (code - 1) true))
    resets .powerOnReset 1 false
    ∧ (s.power.sleep ≠ 4 → resets .nrstPin 3 true)
    ∧ (s.power.sleep = 4 → ∃ t, exec .nrstPin s = .next t ∧ t.power.waking = some 4 ∧ t.reg PWR_WAKE_CAUSE_FIRST = 8
      ∧ t.reg GLB_RST_CAUSE_LAST = 0xC ∧ t.sec.phase = .start ∧ t.flash = s.flash ∧ ∀ b, (t.bank b).mem = [])
    ∧ resets .hostFullReset 6 false
    ∧ (let expired := s.flag SEC_STATUS_TRIAL = true ∧ s.sec.trialSince + s.sec.trialSeconds * 600000000 ≤ s.cycles
      (expired → resets .trialWatchdog 5 false) ∧ (¬expired → exec .trialWatchdog s = .next s))
    ∧ (let runs := s.sec.phase = .run ∧ s.power.sleep < 2
      (runs → resets .managementWatchdog 4 false) ∧ (¬runs → exec .managementWatchdog s = .next s))
    ∧ (s.sec.phase = .held → ∃ t, exec .resetRelease s = .next t ∧ t.sec.phase = .start ∧ t.sec.since = s.cycles ∧ t.power.held = none
      ∧ t.flash = s.flash ∧ t.banks = s.banks)
    ∧ (s.sec.phase ≠ .held → exec .resetRelease s = .next s)
    ∧ (∀ passes, let due := s.sec.phase = .start ∧ s.flag CLK_STATUS_SYS_LOCK = false ∧ s.sec.since + 120000 ≤ s.cycles
      (¬due → exec (.pllLockDeclare 0 passes) s = .next s)
      ∧ (due → (passes = true → s.flag PWR_STATUS_BO_WARN = false → ∃ t, exec (.pllLockDeclare 0 passes) s = .next t
          ∧ t.flag CLK_STATUS_SYS_LOCK = true ∧ ((t.sec.phase = .window ∧ t.reg SEC_RCV_STATUS_STATE = 1)
            ∨ ∃ slot trial fallback, t.sec.phase = .verify slot trial fallback ∧ t.reg LDR_STATUS_STATE = 1))
        ∧ (passes = false → s.sysAttempts < 2 → exec (.pllLockDeclare 0 passes) s = .next { s with
            sysAttempts := s.sysAttempts + 1, sec := { s.sec with since := s.cycles } })
        ∧ (passes = false → 2 ≤ s.sysAttempts → ∃ t, exec (.pllLockDeclare 0 passes) s = .next t ∧ t.reg GLB_RST_CAUSE_LAST = 8
          ∧ t.sec.phase = .start ∧ t.sysAttempts = 0)))
    ∧ (∀ lost, let due := if lost then (∃ c, s.refStopped = some c ∧ c + 60000000 ≤ s.cycles) else s.flag CLK_STATUS_SYS_LOCK = true
      (¬due → exec (.clockFault lost) s = .next s)
      ∧ (due → idle → ∃ t, exec (.clockFault lost) s = .next t ∧ t.reg GLB_RST_CAUSE_LAST = 8 ∧ t.sec.phase = .start
        ∧ (headerOk (s.flashBytes 0 64) = true → clockWordOk (BitVec.ofNat 32 (leAt (s.flashBytes 0 64) 8 4)) = true →
          t.reg CLK_FAULT_CAUSE = if lost then 2 else 3)))
    ∧ (∀ sensor, (s.power.sleep = 4 → exec (.thermalTrip sensor) s = .next s)
      ∧ (s.power.sleep ≠ 4 → idle → ∃ t, exec (.thermalTrip sensor) s = .next t ∧ t.reg GLB_RST_CAUSE_LAST = 7 ∧ t.sec.phase = .held
        ∧ t.flag MGT_THERM_STATUS_TRIPPED = true ∧ t.reg MGT_THERM_STATUS_TRIP_SENSOR = sensor.val ∧ t.power.held = some 7))
    ∧ (∀ mv, idle → ∃ t, exec (.brownoutReset mv) s = .next t ∧ t.reg GLB_RST_CAUSE_LAST = 2 ∧ t.sec.phase = .held ∧ t.power.held = some 2
      ∧ t.reg PWR_BO_MIN_MV = min (s.reg PWR_BO_MIN_MV) mv.val % 2 ^ 13 ∧ t.tim = 0 ∧ ∀ b, (t.bank b).mem = [])

/-- Warm reset: it is seen and, when an image runs, starts at once or after a sleep entry that is under way; it empties the mailbox queue;
it is over when every group is OFF and no apply pass runs: then quarantine ends, ownership is as loaded, headgates are closed and groups with
AUTORUN run again (02 R107; 05 R206; 09 R404; 16 R700; 19 R760 to R763).
Where the rules leave it open it says the model's choice: log entries 45 and 91. -/
def Obligations.WarmReset : Prop :=
  ∀ (s : State),
    (s.sec.phase ≠ .run ∨ s.power.warm = true → exec .warmReset s = .next (s.putMaskBit GLB_RST_HIST_SEEN 8 true))
    ∧ (∀ e, s.sec.phase = .run → s.power.warm = false → s.power.entry = some e → exec .warmReset s =
      .next { s.putMaskBit GLB_RST_HIST_SEEN 8 true with power := { s.power with warmHeld := true } })
    ∧ (s.sec.phase = .run → s.power.warm = false → s.power.entry = none → ∃ t, exec .warmReset s = .next t ∧ t.power.warm = true
      ∧ t.maskBit GLB_RST_HIST_SEEN 8 = true ∧ t.mbx = {} ∧ (s.reg LDR_STATUS_STATE = 1 → t.reg LDR_STATUS_RESULT = 3 ∨ s.loader.load = none)
      ∧ t.flash = s.flash ∧ t.cycles = s.cycles ∧ t.tim = s.tim ∧ t.sec = s.sec ∧ (∀ c, (t.core c).glides = [])
      ∧ ∀ g : GroupId, t.reg UC_SL_STATUS_STATE g.val ≠ 1)
    ∧ (let due := s.power.warm = true ∧ s.power.sleep = 0 ∧ (∀ g, s.rgState g = 0) ∧ s.reg LDR_STATUS_STATE ≠ 2 ∧ s.reg LDR_STATUS_STATE ≠ 3
      (¬due → exec .warmResetComplete s = .next s)
      ∧ (due → ∃ t, exec .warmResetComplete s = .next t ∧ t.power.warm = false ∧ t.reg GLB_RST_CAUSE_LAST = 9
        ∧ t.maskBit GLB_RST_HIST_SEEN 8 = true ∧ t.reg SE_QUAR = 0 ∧ t.hgs = [] ∧ (∀ g, t.rgState g = 0) ∧ t.flash = s.flash
        ∧ (∀ b : BankId, t.reg MEM_BANK_STATUS_OWNER_NOW b.val = s.reg MEM_BANK_CFG_OWNER b.val % 2 ^ MEM_BANK_STATUS_OWNER_NOW.width)
        ∧ (∀ h < 256, t.reg STR_HG_STATUS_STATE h = 0)
        ∧ ∀ g : GroupId, t.flag SE_RG_CTL_RUN g.val = (s.group g).autorun
          ∧ ((s.group g).autorun = true → t.reg SE_RG_CTL_MODE g.val = (s.group g).autoMode % 2 ^ SE_RG_CTL_MODE.width)))

/-! ## Power -/

/-- Levels and domains: a level request is shown, refused with the first refusing group and EV115, or starts a change; the end of a change
shows the new level with EV115; a brownout warning is shown and counted, suspends flash writes and mutes groups where configured, and its end
releases them; a vote, a domain without votes that turns off, one that returns with its blocks reset, and a demand vote that runs out
(17 R707 to R709, R712, R713, R715, R717 to R720; 19 R764).
Where the rules leave it open it says the model's choice: log entry 98. -/
def Obligations.PowerLevels : Prop :=
  ∀ (s : State),
    (∀ level : Fin 8, (5 < level.val → exec (.plRequest level) s = .next s)
      ∧ (level.val ≤ 5 → s.flag PWR_PL_MGT_EN = false → s.flag PWR_STATUS_BO_WARN = false →
        let v := ((s.put PWR_PL_REQ_LEVEL 0 level.val).put PWR_PL_STATUS_TARGET 0 level.val).put PWR_PL_STATUS_SOURCE 0 0
        let shown := [PWR_PL_REQ_LEVEL.key 0, PWR_PL_STATUS_TARGET.key 0, PWR_PL_STATUS_SOURCE.key 0]
        let rests := s.flag PWR_STATUS_PL_BUSY = true ∨ level.val = s.reg PWR_PL_STATUS_CUR ∨ s.power.entry.isSome = true
        ∃ t, exec (.plRequest level) s = .next t ∧ t.reg PWR_PL_REQ_LEVEL = level.val ∧ t.reg PWR_PL_STATUS_TARGET = level.val
          ∧ t.reg PWR_PL_STATUS_SOURCE = 0
          ∧ (rests → s.Changes t shown [])
          ∧ (¬rests → (∀ g, v.groupAccepts g level.val = true) → t.flag PWR_STATUS_PL_BUSY = true ∧ t.power.change = some level.val
            ∧ s.Changes { t with power := s.power } (PWR_STATUS_PL_BUSY.key 0 :: shown) [])
          ∧ (¬rests → ∀ g : GroupId, v.groupAccepts g level.val = false → (∀ h < g, v.groupAccepts h level.val = true) →
            t.flag PWR_PL_STATUS_REFUSED = true ∧ t.reg PWR_PL_STATUS_REFUSER = 2 + g.val ∧ s.Counted t PWR_REFUSE_CNT 0
            ∧ s.Changes t (shown ++ [PWR_PL_STATUS_REFUSED.key 0, PWR_PL_STATUS_REFUSER.key 0, PWR_REFUSE_CNT.key 0]) [115])))
    ∧ (s.power.change = none → exec .plChangeComplete s = .next s)
    ∧ (∀ pl ≤ 5, s.power.change = some pl → ∃ t, exec .plChangeComplete s = .next t ∧ t.reg PWR_PL_STATUS_CUR = pl
      ∧ (s.awake = true → t.maskBit EVT_PEND 19 3 = true)
      ∧ (s.flag PWR_PL_MGT_EN = false → s.flag PWR_STATUS_BO_WARN = false → s.reg PWR_PL_REQ_LEVEL = pl →
        t.flag PWR_STATUS_PL_BUSY = false ∧ t.power.change = none ∧ (s.awake = true → s.Raised t 115)))
    ∧ (∀ w, ∃ t, exec (.hostVote w) s = .next t ∧ t.reg PWR_VOTE_DOMAINS = w.toNat % 2 ^ 12
      ∧ t.reg PWR_VOTE_DEEPEST = (if w.toNat / 2 ^ 12 % 2 ^ 3 ≤ 4 then w.toNat / 2 ^ 12 % 2 ^ 3 else s.reg PWR_VOTE_DEEPEST)
      ∧ s.Changes t [PWR_VOTE_DOMAINS.key 0, PWR_VOTE_DEEPEST.key 0] [])
    ∧ (∀ d : Fin 12, let drops := s.power.sleep = 0 ∧ s.domainOn d.val = true ∧ s.voted d.val = false
      (¬drops → exec (.domainDrop d) s = .next s)
      ∧ (drops → ∃ t, exec (.domainDrop d) s = .next t ∧ t.domainOn d.val = false ∧ (∀ e < 12, e ≠ d.val → t.domainOn e = s.domainOn e)
        ∧ s.Changes t [PWR_STATUS_DOMAINS.key 0] [])
      ∧ (s.hostBus = [] → s.qspi = none →
        (s.domainOn d.val = true ∨ s.voted d.val = false ∨ s.power.sleep ≠ 0 → exec (.domainPowerUp d) s = .next s)
        ∧ (d ≠ 0 → s.domainOn d.val = false → s.voted d.val = true → s.power.sleep = 0 → s.power.entry = none →
          ∃ t, exec (.domainPowerUp d) s = .next t ∧ t.domainOn d.val = true ∧ (∀ e < 12, e ≠ d.val → t.domainOn e = s.domainOn e)
            ∧ t.banks = s.banks ∧ t.groups = s.groups
            ∧ (∀ c : CoreId, if (d.val = 7 ∧ c.val < 8) ∨ (d.val = 8 ∧ 8 ≤ c.val) then t.core c = {} else t.core c = s.core c)
            ∧ (t.bce = if d.val = 9 then {} else s.bce) ∧ (t.probe = if d.val = 10 then {} else s.probe)
            ∧ (t.ports = if d.val = 6 then Vector.replicate 16 {} else s.ports)))
      ∧ (tabGet? d.val s.power.demand = none → exec (.demandHoldExpiry d) s = .next s)
      ∧ (∀ c, tabGet? d.val s.power.demand = some c →
        (s.cycles < c + s.reg PWR_DEMAND_HOLD * 600000 → exec (.demandHoldExpiry d) s = .next s)
        ∧ (c + s.reg PWR_DEMAND_HOLD * 600000 ≤ s.cycles → tabWf s.power.demand = true → ∃ t, exec (.demandHoldExpiry d) s = .next t
          ∧ t.demanded d.val = false ∧ (∀ e, e ≠ d.val → t.demanded e = s.demanded e) ∧ { t with power := s.power } = s)))
    ∧ (∀ mv : Fin 8192,
      (s.flag PWR_STATUS_BO_WARN = true → ∃ t, exec (.brownoutWarning mv) s = .next t
        ∧ t.reg PWR_BO_MIN_MV = min (s.reg PWR_BO_MIN_MV) mv.val % 2 ^ 13 ∧ s.Changes t [PWR_BO_MIN_MV.key 0] [])
      ∧ (s.flag PWR_STATUS_BO_WARN = false → s.power.entry = none → ∃ t, exec (.brownoutWarning mv) s = .next t
        ∧ t.flag PWR_STATUS_BO_WARN = true ∧ s.Counted t PWR_BO_CNT 0 ∧ (s.awake = true → s.Raised t 112)
        ∧ t.reg PWR_BO_MIN_MV = min (s.reg PWR_BO_MIN_MV) mv.val % 2 ^ 13
        ∧ t.flag HST_XSPI_STATUS_SUSPENDED = (s.flag HST_XSPI_STATUS_SUSPENDED || s.flag PWR_CFG_BO_FLASH)
        ∧ (s.flag PWR_CFG_BO_MUTE = true → ∀ g, s.rgState g ≠ 0 → s.rgState g ≠ 5 → (t.group g).muteReq = true)
        ∧ (s.flag PWR_CFG_BO_MUTE = false → t.groups = s.groups)))
    ∧ (s.flag PWR_STATUS_BO_WARN = false → exec .brownoutClear s = .next s)
    ∧ (s.flag PWR_STATUS_BO_WARN = true → s.sec.phase = .run → ∃ t, exec .brownoutClear s = .next t ∧ t.flag PWR_STATUS_BO_WARN = false
      ∧ t.flag HST_XSPI_STATUS_SUSPENDED = false ∧ t.groups = s.groups ∧ t.sec = s.sec)

/-- Sleep: GO is shown as overrun while an entry runs or the device sleeps; a client that refuses is shown with EV113; else the entry
begins and running groups stop; its window ends after 6 microseconds. Enabled sources and the host wake the device, a pin from S4 by a reset;
the wake from S1 is over with RESULT 1 and EV114; a wake from S2 or S3 keeps the retained banks and restores by the fast path when the
retained firmware is whole, else SEC boots; 100 ms after a link wake the device sleeps again unless it was named (12 R551; 15 R656, R657;
17 R722 to R725, R727, R728, R731; 19 R758).
Where the rules leave it open it says the model's choice: log entries 59 to 62 and 65. -/
def Obligations.PowerSleep : Prop :=
  ∀ (s : State),
    let wakes (cmd : Instr) (first : Nat) := ∃ t, exec cmd s = .next t ∧ t.power.waking = some s.power.sleep
      ∧ t.reg PWR_WAKE_CAUSE_FIRST = first ∧ t.power.sleep = s.power.sleep ∧ t.power.entry = none ∧ t.banks = s.banks
    let sleeps := s.power.sleep ∈ [1, 2, 3] ∧ s.power.waking = none ∧ s.power.entry = none
    (∀ (target : Fin 8) (stop : Bool), let goal := if target.val ∈ [1, 2, 3, 4] then target.val else s.reg PWR_SLEEP_CTL_STATE
      let w := (if target.val ∈ [1, 2, 3, 4] then s.put PWR_SLEEP_CTL_STATE 0 target.val else s).putFlag PWR_SLEEP_CTL_STOP 0 stop
      let shown := [PWR_SLEEP_CTL_STATE.key 0, PWR_SLEEP_CTL_STOP.key 0]
      let busy := s.power.entry.isSome = true ∨ s.power.sleep ≠ 0
      (busy → ∃ t, exec (.sleepGo target stop) s = .next t ∧ t.flag PWR_SLEEP_STATUS_OVR = true
        ∧ s.Changes t (PWR_SLEEP_STATUS_OVR.key 0 :: shown) [])
      ∧ (¬busy → ∀ i, w.prepareRefuser goal stop = some i → ∃ t, exec (.sleepGo target stop) s = .next t
        ∧ t.reg PWR_LAST_REFUSER_CLIENT = i ∧ t.reg PWR_LAST_REFUSER_PHASE = 0 ∧ t.reg PWR_LAST_REFUSER_TARGET = goal % 2 ^ 3
        ∧ t.reg PWR_SLEEP_STATUS_RESULT = 2 ∧ s.Counted t PWR_REFUSE_CNT 0
        ∧ s.Changes t (shown ++ [PWR_REFUSE_CNT, PWR_LAST_REFUSER_CLIENT, PWR_LAST_REFUSER_PHASE, PWR_LAST_REFUSER_TARGET,
          PWR_SLEEP_STATUS_RESULT].map fun f => f.key 0) [113])
      ∧ (¬busy → w.prepareRefuser goal stop = none → ∃ t e, exec (.sleepGo target stop) s = .next t ∧ t.power.entry = some e
        ∧ e.target = goal ∧ e.stop = stop ∧ e.step = 2 ∧ t.reg PWR_SLEEP_STATUS_RESULT = 0 ∧ t.reg PWR_STATUS_STATE = 3
        ∧ (∀ g, t.group g = if s.rgState g = 0 then s.group g else { s.group g with stopReq := true })))
    ∧ (∀ e, s.power.entry = some e → let due := e.step = 9 ∧ e.since + 3600 ≤ s.cycles
      (¬due → exec .sleepEntryComplete s = .next s)
      ∧ (due → s.power.latched = [] → s.wakeActive = 0 →
        exec .sleepEntryComplete s = .next { s with power := { s.power with entry := none, latched := [] } })
      ∧ (∀ i < 2, due → s.power.sleep ∈ [2, 3] → s.power.waking = none → s.power.latched = [i] → wakes .sleepEntryComplete i))
    ∧ (s.power.sleep = 0 ∨ s.power.sleep = 4 ∨ s.power.entry.isSome = true ∨ s.power.waking.isSome = true → exec .sleepWake s = .next s)
    ∧ (sleeps → wakes .sleepWake 7)
    ∧ (∀ (pin : Fin 2) (level : Bool), let edge := if pin = 0 then s.flag PWR_WAKE_CFG_MODE0 else s.flag PWR_WAKE_CFG_MODE1
      let pol := if pin = 0 then s.flag PWR_WAKE_CFG_POL0 else s.flag PWR_WAKE_CFG_POL1
      let old := s.power.wakePins.testBit pin.val
      let acts := s.maskBit PWR_CFG_WAKE_SRC pin.val = true ∧ level ≠ old ∧ if edge = true then level = true else level = pol
      (¬acts → ∃ t, exec (.wakePin pin level) s = .next t ∧ { t with power := s.power } = s ∧ t.power.wakePins.testBit pin.val = level
        ∧ { t.power with wakePins := s.power.wakePins } = s.power)
      ∧ (acts → sleeps → wakes (.wakePin pin level) pin.val)
      ∧ (acts → s.power.sleep = 4 → s.power.entry = none → s.power.waking = none → ∃ t, exec (.wakePin pin level) s = .next t
        ∧ t.power.waking = some 4 ∧ t.reg GLB_RST_CAUSE_LAST = 0xC ∧ t.reg PWR_WAKE_CAUSE_FIRST = pin.val ∧ t.sec.phase = .start
        ∧ t.flash = s.flash))
    ∧ (∀ (src : Fin 5) (present : Bool), let acts := present = true ∧ s.maskBit PWR_CFG_WAKE_SRC (src.val + 2) = true
        ∧ (src = 4 → s.wakeLaneBySignal = true)
      (¬acts → ∃ t, exec (.signalDetectWake src present) s = .next t ∧ { t with power := s.power } = s
        ∧ t.power.wakePins.testBit (src.val + 2) = present ∧ { t.power with wakePins := s.power.wakePins } = s.power)
      ∧ (acts → sleeps → wakes (.signalDetectWake src present) (src.val + 2)))
    ∧ (∀ lane dst port payload, (s.isWakeFrame lane dst port payload = false → exec (.wakeFrame lane dst port payload) s = .next s)
      ∧ (s.isWakeFrame lane dst port payload = true → s.maskBit PWR_CFG_WAKE_SRC 6 = true → sleeps → wakes (.wakeFrame lane dst port payload) 6))
    ∧ (s.power.waking ≠ some 1 → exec .wakeFromS1 s = .next s)
    ∧ (s.power.waking = some 1 → s.power.sleep = 1 → ∃ t, exec .wakeFromS1 s = .next t ∧ t.power.sleep = 0 ∧ t.power.waking = none
      ∧ t.reg PWR_STATUS_STATE = 0 ∧ t.reg PWR_SLEEP_STATUS_RESULT = 1 ∧ s.Raised t 114)
    ∧ (∀ ramOk, let due := (s.power.waking = some 2 ∨ s.power.waking = some 3) ∧ (s.power.sleep = 2 ∨ s.power.sleep = 3)
      (¬due → exec (.wakeFromS2S3 ramOk) s = .next s)
      ∧ (due → ∃ t, exec (.wakeFromS2S3 ramOk) s = .next t ∧ t.power.sleep = 0
        ∧ t.reg GLB_RST_CAUSE_LAST = (if s.power.sleep = 2 then 0xA else 0xB) ∧ (∀ b : BankId, (t.bank b).mem =
          if s.maskBit MEM_RET_MASK b.val then (s.bank b).mem else [])
        ∧ (∀ fw digest slot, s.sec.retained = some (fw, digest, slot) → ramOk = true → Config.sha384 fw = digest →
          t.sec.phase = .run ∧ t.sec.firmware = fw ∧ t.flag SEC_STATUS_FAST_PATH = true ∧ t.reg LDR_STATUS_STATE = 4
          ∧ t.loader.todo = s.loader.list ∧ t.flash = s.flash)
        ∧ ((∀ fw digest slot, s.sec.retained = some (fw, digest, slot) → ramOk = false ∨ Config.sha384 fw ≠ digest) →
          s.flag PWR_STATUS_BO_WARN = false → (t.sec.phase = .window ∧ t.reg SEC_RCV_STATUS_STATE = 1)
            ∨ ∃ slot trial fallback, t.sec.phase = .verify slot trial fallback ∧ t.reg LDR_STATUS_STATE = 1)))
    ∧ ((∀ r c, s.power.resleep = some r → r.since = some c → s.cycles < c + 60000000) → exec .resleepCheck s = .next s)
    ∧ (∀ r c, s.power.resleep = some r → r.since = some c → c + 60000000 ≤ s.cycles →
      let s' : State := { s with power := { s.power with resleep := none } }
      (s.wakeNamed = true → exec .resleepCheck s = .next s')
      ∧ (s.wakeNamed = false → ∀ k : Fin 8, k.val ∈ [1, 2, 3, 4] → r.target = k.val →
        ∃ t, exec .resleepCheck s = .next t ∧ exec (.sleepGo k r.stop) s' = .next t))

/-! ## Mailbox and management -/

/-- The mailbox queue: GO puts the host's request at its end, or sets OVR while one is queued or running; a finished front command is
answered to its source with its status, length and tag, the host with DONE and EV123, and leaves the queue; an unknown command is answered
BAD_CMD. Tunnel messages are dropped when handled before, acknowledged, held as replies or forwarded with one hop less; one without an ACK
after 20 ms is sent again, three times at most. An update without a command of its owner for 60 s ends (16 R674 to R676, R680 to R682,
R685).
Where the rules leave it open it says the model's choice: log entries 36 and 58. -/
def Obligations.MailboxQueue : Prop :=
  ∀ (s : State), let st := s.reg MBX_STATUS_STATE
    (st ∈ [1, 2] → ∃ t, exec .mailboxGo s = .next t ∧ t.flag MBX_STATUS_OVR = true ∧ s.Changes t [MBX_STATUS_OVR.key 0] [])
    ∧ (st ∉ [1, 2] → let w0 : Word := BitVec.ofNat 32 (s.reg MBX_REQ_WORD 0)
      let ws : List Word := (List.range (min 255 (w0.toNat / 2 ^ 16 % 2 ^ 12) + 1)).map fun k => BitVec.ofNat 32 (s.reg MBX_REQ_WORD k)
      let e : MbxEntry := { src := .host, words := ws }
      ∃ t, exec .mailboxGo s = .next t ∧ t.mbx = { s.mbx with queue := s.mbx.queue ++ [e] }
        ∧ t.reg MBX_STATUS_STATE = (if (s.mbx.queue.headD e).src = .host then 2 else 1)
        ∧ s.Changes { t with mbx := s.mbx } [MBX_STATUS_STATE.key 0] [])
    ∧ ((s.sec.phase ≠ .run ∨ 2 ≤ s.power.sleep) → exec .mailboxCommandComplete s = .next s)
    ∧ (s.mbx.queue = [] → s.mbx.reply = none → exec .mailboxCommandComplete s = .next s)
    ∧ (∀ e rest, s.sec.phase = .run → s.power.sleep < 2 → s.mbx.queue = e :: rest →
      let code := (e.words.headD 0).toNat % 2 ^ 16
      let known := code ∈ mailboxCodes.map fun r => r.1
      (s.mbx.reply = none → known → exec .mailboxCommandComplete s = .next s)
      ∧ ∀ status ws, (s.mbx.reply = some (status, ws) ∨ (s.mbx.reply = none ∧ ¬known ∧ status = 2 ∧ ws = [])) →
        let r : List Word := BitVec.ofNat 32 (status + ws.length % 2 ^ 12 * 2 ^ 16 + (e.words.headD 0).toNat / 2 ^ 28 * 2 ^ 28) :: ws
        (s.mbx.reboot = false ∨ s.mbx.reply = none → ∃ t, exec .mailboxCommandComplete s = .next t ∧ t.mbx.queue = rest ∧ t.mbx.reply = none
          ∧ (e.src = .host → (∀ k < min r.length 256, t.reg MBX_RSP_WORD k = (r.getD k 0).toNat) ∧ s.Raised t 123
            ∧ t.reg MBX_STATUS_STATE = if (rest.head?.map fun x => x.src) = some .host then 2 else 3)
          ∧ (∀ lane ip port key seq, e.src = .control lane ip port key seq →
            t.netOut.head? = some (.udp lane ip port (s.ccReply 1 (Fin.ofNat 4 key) seq (bePayload r))))
          ∧ (∀ id key seq, e.src = .tunnel id key seq → t.tunnel.seq = (s.tunnel.seq + 1) % 65536
            ∧ ∃ m, t.tunnel.sent = s.tunnel.sent ++ [m] ∧ m.dst = id ∧ m.seq = s.tunnel.seq ∧ m.command = false))
        ∧ (s.mbx.reboot = true → s.mbx.reply.isSome = true → s.power.warm = false → ∃ t, exec .mailboxCommandComplete s = .next t
          ∧ t.reg GLB_RST_CAUSE_LAST = 6 ∧ t.sec.phase = .start ∧ t.flash = s.flash))
    ∧ (s.update = none → exec .updateOwnerTimeout s = .next s)
    ∧ (∀ u, s.update = some u → (s.cycles < u.since + 36000000000 → exec .updateOwnerTimeout s = .next s)
      ∧ (u.since + 36000000000 ≤ s.cycles → exec .updateOwnerTimeout s = .next { s with update := none }))
    ∧ (s.tunMsgs = [] → exec .tunnelMessage s = .next s)
    ∧ (∀ p l rest, s.tunMsgs = (p, l) :: rest →
      let dst := (l.getD 0 0).toNat % 4096
      let src := (l.getD 0 0).toNat / 2 ^ 12 % 4096
      let hops := (l.getD 0 0).toNat / 2 ^ 24
      let seq := (l.getD 1 0).toNat % 65536
      let ack := (l.getD 1 0).getLsbD 16
      let pair := (src, seq + if ack then 65536 else 0)
      let own := s.reg RLK_GLB_CFG_DEV_ID
      let seen := (pair :: s.tunnel.seen).take 64
      let got := 2 ≤ l.length ∧ pair ∉ s.tunnel.seen
      (¬got → exec .tunnelMessage s = .next { s with tunMsgs := rest })
      ∧ (got → dst ≠ own → ∃ t, exec .tunnelMessage s = .next t ∧ t.tunnel = { s.tunnel with seen := seen }
        ∧ { t with tunMsgs := s.tunMsgs, tunnel := s.tunnel, links := s.links } = s
        ∧ (hops ≤ 1 → t.links = s.links)
        ∧ (1 < hops → s.TunnelLeaves t (some p) (BitVec.ofNat 32 (dst + src * 2 ^ 12 + (hops - 1) * 2 ^ 24) :: l.drop 1)))
      ∧ (got → dst = own → ack = true → (∀ m ∈ s.tunnel.sent, m.dst = src → m.seq ≠ seq) → ∃ t, exec .tunnelMessage s = .next t
        ∧ t.tunnel = { s.tunnel with seen := seen } ∧ { t with tunMsgs := s.tunMsgs, tunnel := s.tunnel } = s)
      ∧ (∀ m others, got → dst = own → ack = true → s.tunnel.sent = m :: others → m.dst = src → m.seq = seq →
        ∃ t, exec .tunnelMessage s = .next t ∧ (∀ q ∈ t.tunnel.sent, q.dst = src → q.seq ≠ seq) ∧ t.links = s.links
          ∧ t.mbx = if m.command then { s.mbx with reply := some (0, [BitVec.ofNat 32 seq]) } else s.mbx)
      ∧ (got → dst = own → ack = false → (l.getD 1 0).getLsbD 17 = true → ∃ t, exec .tunnelMessage s = .next t
        ∧ s.TunnelLeaves t none [BitVec.ofNat 32 (src + own % 4096 * 2 ^ 12 + 255 * 2 ^ 24), BitVec.ofNat 32 (seq + 2 ^ 16)]
        ∧ (if s.tunnel.replies.length < 8 then t.tunnel.replies = s.tunnel.replies ++ [l.drop 2] ∧ t.regs = s.regs
          else t.tunnel.replies = s.tunnel.replies ∧ s.Counted t MGT_LOG_STATUS_TUN_LOST 0)))
    ∧ ((∀ m ∈ s.tunnel.sent, s.cycles < m.since + 12000000) → exec .tunnelAckTimeout s = .next s)
    ∧ (∀ m rest, s.tunnel.sent = m :: rest → m.since + 12000000 ≤ s.cycles →
      (m.tries < 3 → ∃ t, exec .tunnelAckTimeout s = .next t ∧ s.TunnelLeaves t none m.words ∧ t.mbx = s.mbx
        ∧ t.tunnel = { s.tunnel with sent := (rest.filter fun q => q != m) ++ [{ m with tries := m.tries + 1, since := s.cycles }] })
      ∧ (3 ≤ m.tries → ∃ t, exec .tunnelAckTimeout s = .next t ∧ t.tunnel = { s.tunnel with sent := rest.filter fun q => q != m }
        ∧ t.links = s.links ∧ t.mbx = if m.command then { s.mbx with reply := some (6, []) } else s.mbx))

/-- Mailbox commands: a command is worked on while it is at the front and the firmware runs; a source that may not send it is answered
REFUSED; each is answered with its status and words, after its effect: information, sensors, logs, flash outside the protected region,
image updates, operations of SEC, the tunnel, resets and register access (16 R677 to R679, R682 to R685).
Where the rules leave it open it says the model's choice: log entries 42, 53 and 55 to 58. -/
def Obligations.MailboxCommands : Prop :=
  ∀ (s : State) (e : MbxEntry) (fails : Bool), s.ok = true →
    let code := (e.words.headD 0).toNat % 2 ^ 16
    let works := s.mbx.queue.head? = some e ∧ s.mbx.reply = none ∧ s.sec.phase = .run ∧ s.power.sleep < 2
    let arg (k : Nat) := ((e.words.drop 1).getD k 0).toNat
    let answers (cmd : Instr) (status : Nat) (ws : List Word) (u : State) :=
      exec cmd s = .next { u with mbx := { u.mbx with reply := some (status, ws) } }
    let held := s.flag HST_XSPI_STATUS_SUSPENDED = true
    let warned := s.flag PWR_STATUS_BO_WARN = true
    let n := e.words.length - 1
    (∀ r ∈ mailboxCodes.zip [.getInfo, .regRead, .regWrite, .sensorRead, .logRead, .logClear, .flashRead fails, .flashWrite fails,
        .flashErase fails, .updateBegin, .updateData fails, .updateCommit, .updateAbort, .secOp, .tunnelSend, .tunnelRecv, .resetCmd],
      ((s.mbx.queue = [] ∨ s.mbx.reply.isSome = true ∨ s.sec.phase ≠ .run ∨ 2 ≤ s.power.sleep) → exec r.2 s = .next s)
      ∧ (s.mbx.queue.head? = some e → code ≠ r.1.1 → exec r.2 s = .next s)
      ∧ (works → code = r.1.1 → e.src.kind ∉ r.1.2 → answers r.2 4 [] s))
    ∧ (works → (∀ r ∈ mailboxCodes, code = r.1 → e.src.kind ∈ r.2) →
      (code = 0x01 → ∃ a b c d up, answers .getInfo 0 [a, b, c, d, up] s ∧ a = s.rawWord 0 ∧ c = BitVec.ofNat 32 (s.reg SEC_SEQ_LO)
        ∧ d = BitVec.ofNat 32 (s.reg SEC_SEQ_HI) ∧ up = BitVec.ofNat 32 ((s.cycles - s.sec.runSince) / 600000000))
      ∧ (code = 0x02 → s.mbx.reading = false →
        (n < 2 ∨ arg 1 = 0 ∨ 250 < arg 1 → answers .regRead 3 [] s)
        ∧ (2 ≤ n → arg 1 = 1 → arg 0 = 0x10 → s.hostBus = [] → s.lateBus = [] → s.qspi = none → s.domainOn 0 = true →
          ∃ t, exec .regRead s = .next t ∧ t.mbx.reply = some (0, [BitVec.ofNat 32 (s.reg GLB_SCRATCH_DATA)]) ∧ t.regs = s.regs))
      ∧ (code = 0x03 → s.mbx.reading = false →
        (n = 0 ∨ 251 < n → answers .regWrite 3 [] s)
        ∧ (n = 2 → arg 0 = 0x10 → s.hostBus = [] → s.lateBus = [] → s.qspi = none → s.domainOn 0 = true →
          ∃ t, exec .regWrite s = .next t ∧ t.mbx.reply = some (0, []) ∧ t.reg GLB_SCRATCH_DATA = arg 1
            ∧ s.RegsBut t [GLB_SCRATCH_DATA.key 0]))
      ∧ (code = 0x10 → ∃ ws, answers .sensorRead 0 ws s ∧ ws.length = 14
        ∧ (∀ j < 6, ws.getD j 0 = BitVec.ofNat 32 (s.reg MGT_TEMP_T j + s.reg MGT_TEMP_PEAK j * 2 ^ 16))
        ∧ ∀ j < 8, ws.getD (6 + j) 0 = BitVec.ofNat 32 (s.reg MGT_SUP_VALUE j))
      ∧ (code = 0x20 → let bad := n < 3 ∨ 1 < arg 0 ∨ arg 2 = 0 ∨ 62 < arg 2
        (bad → answers .logRead 3 [] s)
        ∧ (¬bad → arg 0 = 0 → answers .logRead 0 (((s.aonLog.drop (arg 1)).take (arg 2)).flatMap LogEntry.toWords) s)
        ∧ (¬bad → arg 0 = 1 → let l := (s.plogList.drop (arg 1)).take (arg 2)
          answers .logRead 0 ((l.filterMap id).flatten ++ [BitVec.ofNat 32 (l.filter fun r => r.isNone).length]) s))
      ∧ (code = 0x21 → (held → exec .logClear s = .next s)
        ∧ (¬held → ∃ t, exec .logClear s = .next t ∧ t.mbx.reply = some (0, []) ∧ t.aonLog = [] ∧ s.Erases t 0x8010000 0x100000))
      ∧ (code = 0x30 → let bad := n < 2 ∨ arg 1 = 0 ∨ 252 < arg 1 ∨ 2 ^ 28 < arg 0 + 4 * arg 1
        (bad → answers (.flashRead fails) 3 [] s)
        ∧ (¬bad → fails = false → answers (.flashRead fails) 0 (leWords (s.flashBytes (arg 0) (4 * arg 1))) s)
        ∧ (¬bad → fails = true → ∃ t, exec (.flashRead fails) s = .next t ∧ t.mbx.reply = some (5, [])
          ∧ t.flag HST_XSPI_STATUS_ECC_ERR = true ∧ s.Changes { t with mbx := s.mbx } [HST_XSPI_STATUS_ECC_ERR.key 0] [127]))
      ∧ (code = 0x31 → let ws := e.words.drop 2
        let user := 0x8110000 ≤ arg 0 ∧ arg 0 < 2 ^ 28 ∧ arg 0 + 4 * ws.length ≤ 2 ^ 28
        (held → exec (.flashWrite fails) s = .next s)
        ∧ (¬held → n = 0 → answers (.flashWrite fails) 3 [] s)
        ∧ (¬held → n ≠ 0 → ¬user → answers (.flashWrite fails) 7 [] s)
        ∧ (¬held → n ≠ 0 → user → fails = true → answers (.flashWrite fails) 5 [] s)
        ∧ (¬held → n ≠ 0 → user → fails = false → ∃ t, exec (.flashWrite fails) s = .next t ∧ t.mbx.reply = some (0, [])
          ∧ s.Programs t (arg 0) (ws.flatMap wordBytes) ∧ { t with mbx := s.mbx, flash := s.flash } = s))
      ∧ (code = 0x32 → let user := 0x8110000 ≤ arg 0 ∧ arg 0 < 2 ^ 28
        (held → exec (.flashErase fails) s = .next s)
        ∧ (¬held → n = 0 ∨ arg 0 % 2 ^ 16 ≠ 0 → answers (.flashErase fails) 3 [] s)
        ∧ (¬held → n ≠ 0 → arg 0 % 2 ^ 16 = 0 → ¬user → answers (.flashErase fails) 7 [] s)
        ∧ (¬held → n ≠ 0 → arg 0 % 2 ^ 16 = 0 → user → fails = true → answers (.flashErase fails) 5 [] s)
        ∧ (¬held → n ≠ 0 → arg 0 % 2 ^ 16 = 0 → user → fails = false → ∃ t, exec (.flashErase fails) s = .next t
          ∧ t.mbx.reply = some (0, []) ∧ s.Erases t (arg 0) (2 ^ 16) ∧ { t with mbx := s.mbx, flash := s.flash } = s))
      ∧ (code = 0x40 → let busy := ∃ u, s.update = some u ∧ u.owner ≠ e.src.kind
        let k : Fin 2 := if s.sec.running = some 0 then 1 else 0
        (busy → answers .updateBegin 1 [] s)
        ∧ (¬busy → s.flag SEC_STATUS_TRIAL = true → answers .updateBegin 4 [] s)
        ∧ (¬busy → s.flag SEC_STATUS_TRIAL = false → n = 0 ∨ 67104768 < arg 0 → answers .updateBegin 3 [] s)
        ∧ (¬busy → s.flag SEC_STATUS_TRIAL = false → n ≠ 0 → arg 0 ≤ 67104768 →
          (warned → exec .updateBegin s = .next s)
          ∧ (¬warned → s.imageState k ≠ 2 → ∃ t, exec .updateBegin s = .next t ∧ t.mbx.reply = some (0, [BitVec.ofNat 32 k.val])
            ∧ t.update = some { owner := e.src.kind, slot := k, len := arg 0, since := s.cycles }
            ∧ s.Erases t (slotBase k) slotBytes ∧ s.Raised t 118)))
      ∧ (code = 0x41 → (s.update = none → answers (.updateData fails) 4 [] s) ∧ ∀ u, s.update = some u →
        let ws := e.words.drop 2
        let fits := n ≠ 0 ∧ ws.length ≤ 250 ∧ arg 0 = u.written ∧ u.written + 4 * ws.length ≤ (u.len + 3) / 4 * 4
        let fresh : State := { s with update := some { u with since := s.cycles } }
        (u.owner ≠ e.src.kind → answers (.updateData fails) 1 [] s)
        ∧ (u.owner = e.src.kind → held → exec (.updateData fails) s = .next s)
        ∧ (u.owner = e.src.kind → ¬held → ¬fits → answers (.updateData fails) 3 [BitVec.ofNat 32 u.written] fresh)
        ∧ (u.owner = e.src.kind → ¬held → fits → fails = true → answers (.updateData fails) 5 [] fresh)
        ∧ (u.owner = e.src.kind → ¬held → fits → fails = false → ∃ t, exec (.updateData fails) s = .next t
          ∧ t.mbx.reply = some (0, [BitVec.ofNat 32 (u.written + 4 * ws.length)])
          ∧ t.update = some { u with since := s.cycles, written := u.written + 4 * ws.length }
          ∧ s.Programs t (slotBase u.slot + 4096 + u.written) (ws.flatMap wordBytes)))
      ∧ (code = 0x42 → (s.update = none → answers .updateCommit 4 [] s) ∧ ∀ u, s.update = some u →
        let idle := s.sec.running ≠ some u.slot ∧ s.imageState u.slot ≠ 2
        let fail := (s.bundleErr u.slot true).getD 0
        (u.owner ≠ e.src.kind → answers .updateCommit 1 [] s)
        ∧ (u.owner = e.src.kind → warned → exec .updateCommit s = .next s)
        ∧ (u.owner = e.src.kind → ¬warned → ∃ t, exec .updateCommit s = .next t ∧ t.update = none ∧ s.Raised t 118
          ∧ (idle → t.mbx.reply = some (0, [Config.secResult 1 true fail]) ∧ t.mbx.reboot = ((arg 0).testBit 0 && fail == 0))
          ∧ (¬idle → t.mbx.reply = some (4, [Config.secResult 1 false 0]) ∧ t.mbx.reboot = false ∧ t.flash = s.flash)))
      ∧ (code = 0x43 → (s.update = none → answers .updateAbort 4 [] s) ∧ ∀ u, s.update = some u →
        (u.owner ≠ e.src.kind → answers .updateAbort 1 [] s)
        ∧ (u.owner = e.src.kind → answers .updateAbort 0 [] { s with update := none }))
      ∧ (code = 0x50 → (e.secOp = none → answers .secOp 3 [] s) ∧ ∀ op, e.secOp = some op →
        let barred := op = .writeFloors ∨ (op.index = 8 ∧ e.src.kind ≠ 1)
        (barred → answers .secOp 4 [] s)
        ∧ (¬barred → warned → exec .secOp s = .next s)
        ∧ (¬barred → ¬warned → ∃ t, exec .secOp s = .next t ∧ s.Raised t 118
          ∧ (s.secAccepts op = true → t.mbx.reply = some (0, [Config.secResult op.index true (s.secDo op).1]))
          ∧ (s.secAccepts op = false → t.mbx.reply = some (4, [Config.secResult op.index false 0]) ∧ t.flash = s.flash)))
      ∧ (code = 0x60 → let bad := n < 3 ∨ 4096 ≤ arg 0 ∨ arg 1 = 0 ∨ 255 < arg 1
        let waits := ∃ m ∈ s.tunnel.sent, m.command = true
        (waits → exec .tunnelSend s = .next s)
        ∧ (¬waits → bad → answers .tunnelSend 3 [] s)
        ∧ (¬waits → ¬bad → let own := s.reg RLK_GLB_CFG_DEV_ID % 4096
          let l : List Word := [BitVec.ofNat 32 (arg 0 + own * 2 ^ 12 + arg 1 * 2 ^ 24), BitVec.ofNat 32 (s.tunnel.seq % 65536)] ++ e.words.drop 3
          ∃ t, exec .tunnelSend s = .next t ∧ t.mbx = s.mbx ∧ s.TunnelLeaves t none l ∧ t.tunnel.seq = (s.tunnel.seq + 1) % 65536
            ∧ t.tunnel.sent = s.tunnel.sent ++ [{ dst := arg 0, seq := s.tunnel.seq, words := l, tries := 0, since := s.cycles, command := true }]))
      ∧ (code = 0x61 → (s.tunnel.replies = [] → answers .tunnelRecv 0 [] s) ∧ ∀ l rest, s.tunnel.replies = l :: rest →
        answers .tunnelRecv 0 (l.take 255) { s with tunnel := { s.tunnel with replies := rest } })
      ∧ (code = 0x70 → (arg 0 ∉ [1, 2] → answers .resetCmd 3 [] s)
        ∧ (arg 0 = 1 → s.power.warm = false → s.power.entry = none → ∃ t, exec .resetCmd s = .next t ∧ t.power.warm = true
          ∧ t.maskBit GLB_RST_HIST_SEEN 8 = true)
        ∧ (arg 0 = 2 → s.power.warm = false → ∃ t, exec .resetCmd s = .next t ∧ t.reg GLB_RST_CAUSE_LAST = 6 ∧ t.sec.phase = .start)))

/-- Management: sensors are shown with their peaks, a supply that leaves its window raises EV121, and the thermal level follows the highest
temperature by its thresholds, with EV120 at a change and HOT_ACT at entry to HOT; the log is copied unless writes are suspended, and a
failure is shown with EV122; an edge at a GPIO input that INT_EDGE selects is pending with EV124 (16 R686, R687, R689, R692, R693, R696).
Where the rules leave it open it says the model's choice: log entries 51, 52, 54 and 71. -/
def Obligations.Management : Prop :=
  ∀ (s : State) (temps : Vector (BitVec 16) 6) (sups : Vector (BitVec 16) 8) (fails : Bool) (pin : Fin 16) (level : Bool), s.ok = true →
    let runs := s.sec.phase = .run ∧ s.power.sleep < 2
    let warn := 8 * (BitVec.ofNat 8 (s.reg MGT_THERM_CFG_WARN)).toInt
    let hot := 8 * (BitVec.ofNat 8 (s.reg MGT_THERM_CFG_HOT)).toInt
    let old := s.reg MGT_THERM_STATUS_LEVEL
    let inside (v j : Nat) := s.reg MGT_SUP_LIM_LO j ≤ v ∧ v ≤ s.reg MGT_SUP_LIM_HI j
    let leaves (j : Fin 8) := inside (s.reg MGT_SUP_VALUE j.val) j.val ∧ ¬inside sups[j].toNat j.val
    (¬runs → exec (.sensorUpdate temps sups) s = .next s ∧ exec (.logCopy fails) s = .next s)
    ∧ (runs → ∀ top, (∀ j : Fin 6, temps[j].toInt ≤ top) → (∃ j : Fin 6, temps[j].toInt = top) →
      let now := if hot ≤ top ∨ (old = 2 ∧ hot - 24 < top) then 2 else if warn ≤ top ∨ (1 ≤ old ∧ warn - 24 < top) then 1 else 0
      ∃ t, exec (.sensorUpdate temps sups) s = .next t
        ∧ (∀ j : Fin 6, t.reg MGT_TEMP_T j.val = temps[j].toNat ∧ t.reg MGT_TEMP_PEAK j.val =
          if (BitVec.ofNat 16 (s.reg MGT_TEMP_PEAK j.val)).toInt < temps[j].toInt then temps[j].toNat else s.reg MGT_TEMP_PEAK j.val)
        ∧ (∀ j : Fin 8, t.reg MGT_SUP_VALUE j.val = sups[j].toNat) ∧ t.reg MGT_THERM_STATUS_LEVEL = now
        ∧ ((∃ j, leaves j) → t.maskBit EVT_PEND 25 3 = true) ∧ (now ≠ old → s.Raised t 120)
        ∧ (now = old → (∀ j, ¬leaves j) → { t with regs := s.regs } = s)
        ∧ (now = 2 → old ≠ 2 → (s.reg MGT_THERM_CFG_HOT_ACT = 1 → t.flag PWR_PL_MGT_EN = true)
          ∧ (s.reg MGT_THERM_CFG_HOT_ACT = 2 → ∀ g, s.rgState g ≠ 0 → s.rgState g ≠ 5 → (t.group g).muteReq = true))
        ∧ (old = 2 → now ≠ 2 → t.flag PWR_PL_MGT_EN = false))
    ∧ (s.flag HST_XSPI_STATUS_SUSPENDED = true ∨ s.logPending = 0 → exec (.logCopy fails) s = .next s)
    ∧ (runs → s.flag HST_XSPI_STATUS_SUSPENDED = false → s.logPending ≠ 0 →
      (fails = true → ∃ t, exec (.logCopy fails) s = .next t ∧ t.flag MGT_LOG_STATUS_PLOG_FAIL = true
        ∧ s.OnlyEvents t ∧ s.RegsBut t (MGT_LOG_STATUS_PLOG_FAIL.key 0 :: eventKeys 122) ∧ t.maskBit EVT_PEND 26 3 = true)
      ∧ (fails = false → ∃ t, exec (.logCopy fails) s = .next t ∧ t.logPending = 0 ∧ t.aonLog = s.aonLog ∧ t.regs = s.regs
        ∧ (∀ a, a < 0x8010000 ∨ 0x8110000 ≤ a → t.flashByte a = s.flashByte a)
        ∧ (∀ e, s.logPending = 1 → s.aonLog.getLast? = some e →
          (s.plogNext % 32768 % 2048 = 0 → t.flashBytes (0x8010000 + 32 * (s.plogNext % 32768)) 32 = plogRecord s.plogNext e))))
    ∧ (s.power.sleep = 4 ∨ s.maskBit HST_GPIO_IN pin.val = level → exec (.gpioEdge pin level) s = .next s)
    ∧ (s.power.sleep ≠ 4 → s.maskBit HST_GPIO_IN pin.val ≠ level →
      let asks := s.reg HST_GPIO_FUNC / 4 ^ pin.val % 4 = 0 ∧ s.maskBit HST_GPIO_DIR pin.val = false ∧ s.maskBit HST_GPIO_INT_EN pin.val = true
        ∧ (s.reg HST_GPIO_INT_EDGE / 4 ^ pin.val % 4).testBit (if level then 0 else 1) = true
      ∃ t, exec (.gpioEdge pin level) s = .next t ∧ t.maskBit HST_GPIO_IN pin.val = level
        ∧ (asks → t.maskBit HST_GPIO_INT_PEND pin.val = true ∧ s.Changes t [HST_GPIO_IN.key 0, HST_GPIO_INT_PEND.key 0] [124])
        ∧ (¬asks → s.Changes t [HST_GPIO_IN.key 0] []))

/-! ## Host interfaces -/

/-- QSPI, I2C and landed writes: a transaction is answered with a CRC error, a bad command, not ready or a timeout, in this order, with its
sticky flag and EV125; else its word is read or written and the read answered with its CRC. I2C answers words that are not ready with ones and
EV126. A landed write gives plain fields their bits, reserved values apart, sets off triggers, and does nothing at unmapped addresses; an
event is forced unless reserved; pending bits are cleared by ones (00 R10, R14; 16 R663 to R667, R671, R672; 20 R774, R779).
Where the rules leave it open it says the model's choice: log entries 30, 67 to 69 and 102. -/
def Obligations.HostAccess : Prop :=
  ∀ (s : State) (cmd : Byte) (addr : BitVec 24) (data : List Word) (crc : BitVec 16) (v : Word),
    let a := addr.toNat
    let n := cmd.toNat % 16 + 1
    let check := cmd.getLsbD 5
    let idle := s.hostBus = [] ∧ s.lateBus = [] ∧ s.qspi = none
    let open_ (b : Nat) := s.domainOn (s.busDomain b) = true ∧ s.demanded (s.busDomain b) = false
    let fails (c : Instr) (status : Nat) (keys : List Nat) := ∃ t, exec c s = .next t ∧ t.qspi = none
      ∧ t.qspiReply = some { status := status } ∧ t.flag HST_STATUS_QSPI_ERR = true
      ∧ s.Changes { t with qspi := s.qspi, qspiReply := s.qspiReply } (HST_STATUS_QSPI_ERR.key 0 :: keys) [125]
    (∀ (write : Bool) (c : Instr), (c, write) = (.qspiRead cmd addr crc, false) ∨ (c, write) = (.qspiWrite cmd addr data crc, true) →
      let sent : List Byte := cmd :: (beBytes 3 a ++ (if write then data else []).flatMap wordBytes)
      let wrong := s.power.sleep = 4 ∨ s.qspi.isSome = true ∨ cmd.toNat / 64 = (if write then 0 else 1) ∨ (write = true ∧ data.length ≠ n)
      let crcBad := check = true ∧ crc16 sent ≠ crc
      let bad := 2 ≤ cmd.toNat / 64 ∨ a % 4 ≠ 0
      (wrong → exec c s = .next s)
      ∧ (¬wrong → crcBad → fails c 0x81 [HST_QSPI_CRC_CNT.key 0] ∧ ∃ t, exec c s = .next t ∧ s.Counted t HST_QSPI_CRC_CNT 0)
      ∧ (¬wrong → ¬crcBad → bad → fails c 0x84 [])
      ∧ (¬wrong → ¬crcBad → ¬bad → s.sec.phase ∈ [.held, .start] → exec c s = .next { s with qspiReply := some { status := 0x83 } }))
    ∧ (s.sec.phase = .run → s.power.sleep = 0 → idle → n = 1 → a % 4 = 0 → open_ a →
      (cmd.toNat / 64 = 0 → (check = true → crc16 (cmd :: beBytes 3 a) = crc) → a ≠ cwDataAddr →
        ∃ t w, exec (.qspiRead cmd addr crc) s = .next t ∧ t.qspi = none
          ∧ t.qspiReply = some { status := 0x80, words := [w], crc := if check then some (crc16 (0x80 :: wordBytes w)) else none }
          ∧ (0x140000 ≤ a ∧ a < 0x400000 ∨ 0x800000 ≤ a → w = 0) ∧ (a < 0x140000 → w = s.regWord 0 a))
      ∧ (cmd.toNat / 64 = 1 → data = [v] → (check = true → crc16 (cmd :: (beBytes 3 a ++ wordBytes v)) = crc) → a = 0x10 →
        ∃ t, exec (.qspiWrite cmd addr data crc) s = .next t ∧ t.qspi = none ∧ t.qspiReply = some { status := 0x80 }
          ∧ t.reg GLB_SCRATCH_DATA = v.toNat
          ∧ s.Changes { t with qspi := s.qspi, qspiReply := s.qspiReply } [GLB_SCRATCH_DATA.key 0] []))
    ∧ (∀ (count : Nat) (broken : Bool), (s.power.sleep = 4 → exec (.i2cRead addr count broken) s = .next s
        ∧ exec (.i2cWrite addr data broken) s = .next s)
      ∧ (s.power.sleep = 0 → s.sec.phase ∈ [.held, .start] → broken = false →
        (count ≠ 0 → ∃ t, exec (.i2cRead addr count broken) s = .next t ∧ t.i2cOut = List.replicate count 0xFFFFFFFF
          ∧ t.flag HST_STATUS_I2C_TIMEOUT = true ∧ s.Changes { t with i2cOut := s.i2cOut } [HST_STATUS_I2C_TIMEOUT.key 0] [126])
        ∧ (data ≠ [] → ∃ t, exec (.i2cWrite addr data broken) s = .next t ∧ t.flag HST_STATUS_I2C_TIMEOUT = true
          ∧ s.Changes t [HST_STATUS_I2C_TIMEOUT.key 0] [126]))
      ∧ (s.power.sleep = 0 → s.sec.phase = .run → idle → broken = false → let b := a / 4 * 4
        open_ b →
        (count = 1 → b < 0x140000 → b ≠ cwDataAddr → ∃ t, exec (.i2cRead addr count broken) s = .next t ∧ t.i2cOut = [s.regWord 1 b]
          ∧ t.regs = s.regs)
        ∧ (data = [v] → b = 0x10 → ∃ t, exec (.i2cWrite addr data broken) s = .next t ∧ t.reg GLB_SCRATCH_DATA = v.toNat
          ∧ s.Changes t [GLB_SCRATCH_DATA.key 0] [])))
    ∧ (open_ a →
      (a / 4 * 4 ∈ [0x10, 0x100100, 0x110020, 0x110024, 0x110030, 0x120940, 0x120980, 0x0E0024] → ∃ t, exec (.registerWrite addr v) s = .next t
        ∧ (∀ p ∈ fieldsAt (a / 4 * 4), t.reg p.1 p.2 = if p.1.minV ≤ p.1.bits v ∧ p.1.bits v ≤ p.1.maxV then p.1.bits v else s.reg p.1 p.2)
        ∧ s.Changes t ((fieldsAt (a / 4 * 4)).map fun p => p.1.key p.2) [])
      ∧ (0x140000 ≤ a ∧ a < 0x400000 ∨ 0x800000 ≤ a → exec (.registerWrite addr v) s = .next s)
      ∧ (a = 0x018000 → v.getLsbD 0 = true → ∃ t, exec (.registerWrite addr v) s = .next t ∧ exec .goLoad s = .next t)
      ∧ (∀ k : Fin 4, a = 0x100000 + 4 * k.val → ∃ t, exec (.registerWrite addr v) s = .next t ∧ exec (.eventClear k v) s = .next t))
    ∧ (s.domainOn (s.busDomain a) = false → 2 ≤ s.power.sleep → exec (.registerWrite addr v) s =
      .next { s with lateBus := s.lateBus ++ [{ write := true, addr := a, data := v }] })
    ∧ (∀ ev : Fin 128, let reserved := ev.val ∈ [67, 68, 69, 70, 71, 78, 79, 100, 103, 107]
      ∃ t, exec (.eventForce ev) s = .next t ∧ t.reg EVT_FORCE_EV = ev.val
        ∧ (ev.val ≠ 122 → s.Changes t [EVT_FORCE_EV.key 0] (if reserved then [] else [ev.val]))
        ∧ (ev.val = 122 → s.OnlyEvents t ∧ s.RegsBut t (EVT_FORCE_EV.key 0 :: eventKeys 122)))
    ∧ (∀ (k : Fin 4) (mask : Word), ∃ t, exec (.eventClear k mask) s = .next t ∧ s.Changes t [EVT_PEND.key k.val] []
      ∧ ∀ b < 32, t.maskBit EVT_PEND b k.val = (s.maskBit EVT_PEND b k.val && !mask.getLsbD b))
end

