-- ==== Sys2Proof/Laws/State.lean ====
section
/-!
SUPPORT. What the named updates of the state leave unchanged: one lemma for each field and update.
-/

namespace Sys2Proof.Machine

open Sys2Proof

/-! ## Derived updates are puts -/

@[simp] theorem State.putFlag_eq (s : State) (f : Field) (i : Nat) (b : Bool) : s.putFlag f i b = s.put f i (if b then 1 else 0) := rfl
@[simp] theorem State.count_eq (s : State) (f : Field) (i n : Nat) :
    s.count f i n = s.put f i (min (s.reg f i + n) (2 ^ f.width - 1)) := rfl
@[simp] theorem State.putMaskBit_eq (s : State) (f : Field) (b : Nat) (on : Bool) (i : Nat) :
    s.putMaskBit f b on i = s.put f i (setBitTo (s.reg f i) b on) := rfl
@[simp] theorem State.put64_eq (s : State) (lo hi : Field) (i v : Nat) :
    s.put64 lo hi i v = (s.put lo i (v % 2 ^ 32)).put hi i (v / 2 ^ 32 % 2 ^ 32) := rfl

/-! ## put -/

@[simp] theorem State.put_pending (s : State) (f : Field) (i v : Nat) : (s.put f i v).pending = s.pending := rfl
@[simp] theorem State.put_cycles (s : State) (f : Field) (i v : Nat) : (s.put f i v).cycles = s.cycles := rfl
@[simp] theorem State.put_free (s : State) (f : Field) (i v : Nat) : (s.put f i v).free = s.free := rfl
@[simp] theorem State.put_cores (s : State) (f : Field) (i v : Nat) : (s.put f i v).cores = s.cores := rfl
@[simp] theorem State.put_banks (s : State) (f : Field) (i v : Nat) : (s.put f i v).banks = s.banks := rfl
@[simp] theorem State.put_groups (s : State) (f : Field) (i v : Nat) : (s.put f i v).groups = s.groups := rfl
@[simp] theorem State.put_sluices (s : State) (f : Field) (i v : Nat) : (s.put f i v).sluices = s.sluices := rfl
@[simp] theorem State.put_hostBus (s : State) (f : Field) (i v : Nat) : (s.put f i v).hostBus = s.hostBus := rfl
@[simp] theorem State.put_lateBus (s : State) (f : Field) (i v : Nat) : (s.put f i v).lateBus = s.lateBus := rfl
@[simp] theorem State.put_hostOut (s : State) (f : Field) (i v : Nat) : (s.put f i v).hostOut = s.hostOut := rfl
@[simp] theorem State.put_qspi (s : State) (f : Field) (i v : Nat) : (s.put f i v).qspi = s.qspi := rfl
@[simp] theorem State.put_qspiReply (s : State) (f : Field) (i v : Nat) : (s.put f i v).qspiReply = s.qspiReply := rfl
@[simp] theorem State.put_i2cOut (s : State) (f : Field) (i v : Nat) : (s.put f i v).i2cOut = s.i2cOut := rfl
@[simp] theorem State.put_remoteOut (s : State) (f : Field) (i v : Nat) : (s.put f i v).remoteOut = s.remoteOut := rfl
@[simp] theorem State.put_latches (s : State) (f : Field) (i v : Nat) : (s.put f i v).latches = s.latches := rfl
@[simp] theorem State.put_replayDue (s : State) (f : Field) (i v : Nat) : (s.put f i v).replayDue = s.replayDue := rfl
@[simp] theorem State.put_jnlClearing (s : State) (f : Field) (i v : Nat) : (s.put f i v).jnlClearing = s.jnlClearing := rfl
@[simp] theorem State.put_spargeDue (s : State) (f : Field) (i v : Nat) : (s.put f i v).spargeDue = s.spargeDue := rfl
@[simp] theorem State.put_xbarFails (s : State) (f : Field) (i v : Nat) : (s.put f i v).xbarFails = s.xbarFails := rfl
@[simp] theorem State.put_memErrs (s : State) (f : Field) (i v : Nat) : (s.put f i v).memErrs = s.memErrs := rfl
@[simp] theorem State.put_badRead (s : State) (f : Field) (i v : Nat) : (s.put f i v).badRead = s.badRead := rfl
@[simp] theorem State.put_walkCe (s : State) (f : Field) (i v : Nat) : (s.put f i v).walkCe = s.walkCe := rfl
@[simp] theorem State.put_walkPasses (s : State) (f : Field) (i v : Nat) : (s.put f i v).walkPasses = s.walkPasses := rfl
@[simp] theorem State.put_walkLost (s : State) (f : Field) (i v : Nat) : (s.put f i v).walkLost = s.walkLost := rfl
@[simp] theorem State.put_walkLasting (s : State) (f : Field) (i v : Nat) : (s.put f i v).walkLasting = s.walkLasting := rfl
@[simp] theorem State.put_ingress (s : State) (f : Field) (i v : Nat) : (s.put f i v).ingress = s.ingress := rfl
@[simp] theorem State.put_egress (s : State) (f : Field) (i v : Nat) : (s.put f i v).egress = s.egress := rfl
@[simp] theorem State.put_routes (s : State) (f : Field) (i v : Nat) : (s.put f i v).routes = s.routes := rfl
@[simp] theorem State.put_chans (s : State) (f : Field) (i v : Nat) : (s.put f i v).chans = s.chans := rfl
@[simp] theorem State.put_hgs (s : State) (f : Field) (i v : Nat) : (s.put f i v).hgs = s.hgs := rfl
@[simp] theorem State.put_hgRamps (s : State) (f : Field) (i v : Nat) : (s.put f i v).hgRamps = s.hgRamps := rfl
@[simp] theorem State.put_sent (s : State) (f : Field) (i v : Nat) : (s.put f i v).sent = s.sent := rfl
@[simp] theorem State.put_sealTx (s : State) (f : Field) (i v : Nat) : (s.put f i v).sealTx = s.sealTx := rfl
@[simp] theorem State.put_ports (s : State) (f : Field) (i v : Nat) : (s.put f i v).ports = s.ports := rfl
@[simp] theorem State.put_links (s : State) (f : Field) (i v : Nat) : (s.put f i v).links = s.links := rfl
@[simp] theorem State.put_linkBegun (s : State) (f : Field) (i v : Nat) : (s.put f i v).linkBegun = s.linkBegun := rfl
@[simp] theorem State.put_bcSeen (s : State) (f : Field) (i v : Nat) : (s.put f i v).bcSeen = s.bcSeen := rfl
@[simp] theorem State.put_bcSeq (s : State) (f : Field) (i v : Nat) : (s.put f i v).bcSeq = s.bcSeq := rfl
@[simp] theorem State.put_wakeSent (s : State) (f : Field) (i v : Nat) : (s.put f i v).wakeSent = s.wakeSent := rfl
@[simp] theorem State.put_wakeNamed (s : State) (f : Field) (i v : Nat) : (s.put f i v).wakeNamed = s.wakeNamed := rfl
@[simp] theorem State.put_unwrapAt (s : State) (f : Field) (i v : Nat) : (s.put f i v).unwrapAt = s.unwrapAt := rfl
@[simp] theorem State.put_tunMsgs (s : State) (f : Field) (i v : Nat) : (s.put f i v).tunMsgs = s.tunMsgs := rfl
@[simp] theorem State.put_linkTheta (s : State) (f : Field) (i v : Nat) : (s.put f i v).linkTheta = s.linkTheta := rfl
@[simp] theorem State.put_linkThetas (s : State) (f : Field) (i v : Nat) : (s.put f i v).linkThetas = s.linkThetas := rfl
@[simp] theorem State.put_bce (s : State) (f : Field) (i v : Nat) : (s.put f i v).bce = s.bce := rfl
@[simp] theorem State.put_probe (s : State) (f : Field) (i v : Nat) : (s.put f i v).probe = s.probe := rfl
@[simp] theorem State.put_time (s : State) (f : Field) (i v : Nat) : (s.put f i v).time = s.time := rfl
@[simp] theorem State.put_ptp (s : State) (f : Field) (i v : Nat) : (s.put f i v).ptp = s.ptp := rfl
@[simp] theorem State.put_plls (s : State) (f : Field) (i v : Nat) : (s.put f i v).plls = s.plls := rfl
@[simp] theorem State.put_monitors (s : State) (f : Field) (i v : Nat) : (s.put f i v).monitors = s.monitors := rfl
@[simp] theorem State.put_sysAttempts (s : State) (f : Field) (i v : Nat) : (s.put f i v).sysAttempts = s.sysAttempts := rfl
@[simp] theorem State.put_sps (s : State) (f : Field) (i v : Nat) : (s.put f i v).sps = s.sps := rfl
@[simp] theorem State.put_refStopped (s : State) (f : Field) (i v : Nat) : (s.put f i v).refStopped = s.refStopped := rfl
@[simp] theorem State.put_ptpClass (s : State) (f : Field) (i v : Nat) : (s.put f i v).ptpClass = s.ptpClass := rfl
@[simp] theorem State.put_lanes (s : State) (f : Field) (i v : Nat) : (s.put f i v).lanes = s.lanes := rfl
@[simp] theorem State.put_rxs (s : State) (f : Field) (i v : Nat) : (s.put f i v).rxs = s.rxs := rfl
@[simp] theorem State.put_txs (s : State) (f : Field) (i v : Nat) : (s.put f i v).txs = s.txs := rfl
@[simp] theorem State.put_netOut (s : State) (f : Field) (i v : Nat) : (s.put f i v).netOut = s.netOut := rfl
@[simp] theorem State.put_cc (s : State) (f : Field) (i v : Nat) : (s.put f i v).cc = s.cc := rfl
@[simp] theorem State.put_mbx (s : State) (f : Field) (i v : Nat) : (s.put f i v).mbx = s.mbx := rfl
@[simp] theorem State.put_tunnel (s : State) (f : Field) (i v : Nat) : (s.put f i v).tunnel = s.tunnel := rfl
@[simp] theorem State.put_update (s : State) (f : Field) (i v : Nat) : (s.put f i v).update = s.update := rfl
@[simp] theorem State.put_sec (s : State) (f : Field) (i v : Nat) : (s.put f i v).sec = s.sec := rfl
@[simp] theorem State.put_fuseEpoch (s : State) (f : Field) (i v : Nat) : (s.put f i v).fuseEpoch = s.fuseEpoch := rfl
@[simp] theorem State.put_fuseRevoke (s : State) (f : Field) (i v : Nat) : (s.put f i v).fuseRevoke = s.fuseRevoke := rfl
@[simp] theorem State.put_flash (s : State) (f : Field) (i v : Nat) : (s.put f i v).flash = s.flash := rfl
@[simp] theorem State.put_loader (s : State) (f : Field) (i v : Nat) : (s.put f i v).loader = s.loader := rfl
@[simp] theorem State.put_power (s : State) (f : Field) (i v : Nat) : (s.put f i v).power = s.power := rfl
@[simp] theorem State.put_coarse (s : State) (f : Field) (i v : Nat) : (s.put f i v).coarse = s.coarse := rfl
@[simp] theorem State.put_tim (s : State) (f : Field) (i v : Nat) : (s.put f i v).tim = s.tim := rfl
@[simp] theorem State.put_aonLog (s : State) (f : Field) (i v : Nat) : (s.put f i v).aonLog = s.aonLog := rfl
@[simp] theorem State.put_logPending (s : State) (f : Field) (i v : Nat) : (s.put f i v).logPending = s.logPending := rfl
@[simp] theorem State.put_evtLogged (s : State) (f : Field) (i v : Nat) : (s.put f i v).evtLogged = s.evtLogged := rfl

/-! ## putLatch -/

@[simp] theorem State.putLatch_pending (s : State) (k : Fin 3) (f : Field) (i v : Nat) : (s.putLatch k f i v).pending = s.pending := rfl
@[simp] theorem State.putLatch_cycles (s : State) (k : Fin 3) (f : Field) (i v : Nat) : (s.putLatch k f i v).cycles = s.cycles := rfl
@[simp] theorem State.putLatch_free (s : State) (k : Fin 3) (f : Field) (i v : Nat) : (s.putLatch k f i v).free = s.free := rfl
@[simp] theorem State.putLatch_regs (s : State) (k : Fin 3) (f : Field) (i v : Nat) : (s.putLatch k f i v).regs = s.regs := rfl
@[simp] theorem State.putLatch_cores (s : State) (k : Fin 3) (f : Field) (i v : Nat) : (s.putLatch k f i v).cores = s.cores := rfl
@[simp] theorem State.putLatch_banks (s : State) (k : Fin 3) (f : Field) (i v : Nat) : (s.putLatch k f i v).banks = s.banks := rfl
@[simp] theorem State.putLatch_groups (s : State) (k : Fin 3) (f : Field) (i v : Nat) : (s.putLatch k f i v).groups = s.groups := rfl
@[simp] theorem State.putLatch_sluices (s : State) (k : Fin 3) (f : Field) (i v : Nat) : (s.putLatch k f i v).sluices = s.sluices := rfl
@[simp] theorem State.putLatch_hostBus (s : State) (k : Fin 3) (f : Field) (i v : Nat) : (s.putLatch k f i v).hostBus = s.hostBus := rfl
@[simp] theorem State.putLatch_lateBus (s : State) (k : Fin 3) (f : Field) (i v : Nat) : (s.putLatch k f i v).lateBus = s.lateBus := rfl
@[simp] theorem State.putLatch_hostOut (s : State) (k : Fin 3) (f : Field) (i v : Nat) : (s.putLatch k f i v).hostOut = s.hostOut := rfl
@[simp] theorem State.putLatch_qspi (s : State) (k : Fin 3) (f : Field) (i v : Nat) : (s.putLatch k f i v).qspi = s.qspi := rfl
@[simp] theorem State.putLatch_qspiReply (s : State) (k : Fin 3) (f : Field) (i v : Nat) : (s.putLatch k f i v).qspiReply = s.qspiReply := rfl
@[simp] theorem State.putLatch_i2cOut (s : State) (k : Fin 3) (f : Field) (i v : Nat) : (s.putLatch k f i v).i2cOut = s.i2cOut := rfl
@[simp] theorem State.putLatch_remoteOut (s : State) (k : Fin 3) (f : Field) (i v : Nat) : (s.putLatch k f i v).remoteOut = s.remoteOut := rfl
@[simp] theorem State.putLatch_replayDue (s : State) (k : Fin 3) (f : Field) (i v : Nat) : (s.putLatch k f i v).replayDue = s.replayDue := rfl
@[simp] theorem State.putLatch_jnlClearing (s : State) (k : Fin 3) (f : Field) (i v : Nat) : (s.putLatch k f i v).jnlClearing = s.jnlClearing := rfl
@[simp] theorem State.putLatch_spargeDue (s : State) (k : Fin 3) (f : Field) (i v : Nat) : (s.putLatch k f i v).spargeDue = s.spargeDue := rfl
@[simp] theorem State.putLatch_xbarFails (s : State) (k : Fin 3) (f : Field) (i v : Nat) : (s.putLatch k f i v).xbarFails = s.xbarFails := rfl
@[simp] theorem State.putLatch_memErrs (s : State) (k : Fin 3) (f : Field) (i v : Nat) : (s.putLatch k f i v).memErrs = s.memErrs := rfl
@[simp] theorem State.putLatch_badRead (s : State) (k : Fin 3) (f : Field) (i v : Nat) : (s.putLatch k f i v).badRead = s.badRead := rfl
@[simp] theorem State.putLatch_walkCe (s : State) (k : Fin 3) (f : Field) (i v : Nat) : (s.putLatch k f i v).walkCe = s.walkCe := rfl
@[simp] theorem State.putLatch_walkPasses (s : State) (k : Fin 3) (f : Field) (i v : Nat) : (s.putLatch k f i v).walkPasses = s.walkPasses := rfl
@[simp] theorem State.putLatch_walkLost (s : State) (k : Fin 3) (f : Field) (i v : Nat) : (s.putLatch k f i v).walkLost = s.walkLost := rfl
@[simp] theorem State.putLatch_walkLasting (s : State) (k : Fin 3) (f : Field) (i v : Nat) : (s.putLatch k f i v).walkLasting = s.walkLasting := rfl
@[simp] theorem State.putLatch_ingress (s : State) (k : Fin 3) (f : Field) (i v : Nat) : (s.putLatch k f i v).ingress = s.ingress := rfl
@[simp] theorem State.putLatch_egress (s : State) (k : Fin 3) (f : Field) (i v : Nat) : (s.putLatch k f i v).egress = s.egress := rfl
@[simp] theorem State.putLatch_routes (s : State) (k : Fin 3) (f : Field) (i v : Nat) : (s.putLatch k f i v).routes = s.routes := rfl
@[simp] theorem State.putLatch_chans (s : State) (k : Fin 3) (f : Field) (i v : Nat) : (s.putLatch k f i v).chans = s.chans := rfl
@[simp] theorem State.putLatch_hgs (s : State) (k : Fin 3) (f : Field) (i v : Nat) : (s.putLatch k f i v).hgs = s.hgs := rfl
@[simp] theorem State.putLatch_hgRamps (s : State) (k : Fin 3) (f : Field) (i v : Nat) : (s.putLatch k f i v).hgRamps = s.hgRamps := rfl
@[simp] theorem State.putLatch_sent (s : State) (k : Fin 3) (f : Field) (i v : Nat) : (s.putLatch k f i v).sent = s.sent := rfl
@[simp] theorem State.putLatch_sealTx (s : State) (k : Fin 3) (f : Field) (i v : Nat) : (s.putLatch k f i v).sealTx = s.sealTx := rfl
@[simp] theorem State.putLatch_ports (s : State) (k : Fin 3) (f : Field) (i v : Nat) : (s.putLatch k f i v).ports = s.ports := rfl
@[simp] theorem State.putLatch_links (s : State) (k : Fin 3) (f : Field) (i v : Nat) : (s.putLatch k f i v).links = s.links := rfl
@[simp] theorem State.putLatch_linkBegun (s : State) (k : Fin 3) (f : Field) (i v : Nat) : (s.putLatch k f i v).linkBegun = s.linkBegun := rfl
@[simp] theorem State.putLatch_bcSeen (s : State) (k : Fin 3) (f : Field) (i v : Nat) : (s.putLatch k f i v).bcSeen = s.bcSeen := rfl
@[simp] theorem State.putLatch_bcSeq (s : State) (k : Fin 3) (f : Field) (i v : Nat) : (s.putLatch k f i v).bcSeq = s.bcSeq := rfl
@[simp] theorem State.putLatch_wakeSent (s : State) (k : Fin 3) (f : Field) (i v : Nat) : (s.putLatch k f i v).wakeSent = s.wakeSent := rfl
@[simp] theorem State.putLatch_wakeNamed (s : State) (k : Fin 3) (f : Field) (i v : Nat) : (s.putLatch k f i v).wakeNamed = s.wakeNamed := rfl
@[simp] theorem State.putLatch_unwrapAt (s : State) (k : Fin 3) (f : Field) (i v : Nat) : (s.putLatch k f i v).unwrapAt = s.unwrapAt := rfl
@[simp] theorem State.putLatch_tunMsgs (s : State) (k : Fin 3) (f : Field) (i v : Nat) : (s.putLatch k f i v).tunMsgs = s.tunMsgs := rfl
@[simp] theorem State.putLatch_linkTheta (s : State) (k : Fin 3) (f : Field) (i v : Nat) : (s.putLatch k f i v).linkTheta = s.linkTheta := rfl
@[simp] theorem State.putLatch_linkThetas (s : State) (k : Fin 3) (f : Field) (i v : Nat) : (s.putLatch k f i v).linkThetas = s.linkThetas := rfl
@[simp] theorem State.putLatch_bce (s : State) (k : Fin 3) (f : Field) (i v : Nat) : (s.putLatch k f i v).bce = s.bce := rfl
@[simp] theorem State.putLatch_probe (s : State) (k : Fin 3) (f : Field) (i v : Nat) : (s.putLatch k f i v).probe = s.probe := rfl
@[simp] theorem State.putLatch_time (s : State) (k : Fin 3) (f : Field) (i v : Nat) : (s.putLatch k f i v).time = s.time := rfl
@[simp] theorem State.putLatch_ptp (s : State) (k : Fin 3) (f : Field) (i v : Nat) : (s.putLatch k f i v).ptp = s.ptp := rfl
@[simp] theorem State.putLatch_plls (s : State) (k : Fin 3) (f : Field) (i v : Nat) : (s.putLatch k f i v).plls = s.plls := rfl
@[simp] theorem State.putLatch_monitors (s : State) (k : Fin 3) (f : Field) (i v : Nat) : (s.putLatch k f i v).monitors = s.monitors := rfl
@[simp] theorem State.putLatch_sysAttempts (s : State) (k : Fin 3) (f : Field) (i v : Nat) : (s.putLatch k f i v).sysAttempts = s.sysAttempts := rfl
@[simp] theorem State.putLatch_sps (s : State) (k : Fin 3) (f : Field) (i v : Nat) : (s.putLatch k f i v).sps = s.sps := rfl
@[simp] theorem State.putLatch_refStopped (s : State) (k : Fin 3) (f : Field) (i v : Nat) : (s.putLatch k f i v).refStopped = s.refStopped := rfl
@[simp] theorem State.putLatch_ptpClass (s : State) (k : Fin 3) (f : Field) (i v : Nat) : (s.putLatch k f i v).ptpClass = s.ptpClass := rfl
@[simp] theorem State.putLatch_lanes (s : State) (k : Fin 3) (f : Field) (i v : Nat) : (s.putLatch k f i v).lanes = s.lanes := rfl
@[simp] theorem State.putLatch_rxs (s : State) (k : Fin 3) (f : Field) (i v : Nat) : (s.putLatch k f i v).rxs = s.rxs := rfl
@[simp] theorem State.putLatch_txs (s : State) (k : Fin 3) (f : Field) (i v : Nat) : (s.putLatch k f i v).txs = s.txs := rfl
@[simp] theorem State.putLatch_netOut (s : State) (k : Fin 3) (f : Field) (i v : Nat) : (s.putLatch k f i v).netOut = s.netOut := rfl
@[simp] theorem State.putLatch_cc (s : State) (k : Fin 3) (f : Field) (i v : Nat) : (s.putLatch k f i v).cc = s.cc := rfl
@[simp] theorem State.putLatch_mbx (s : State) (k : Fin 3) (f : Field) (i v : Nat) : (s.putLatch k f i v).mbx = s.mbx := rfl
@[simp] theorem State.putLatch_tunnel (s : State) (k : Fin 3) (f : Field) (i v : Nat) : (s.putLatch k f i v).tunnel = s.tunnel := rfl
@[simp] theorem State.putLatch_update (s : State) (k : Fin 3) (f : Field) (i v : Nat) : (s.putLatch k f i v).update = s.update := rfl
@[simp] theorem State.putLatch_sec (s : State) (k : Fin 3) (f : Field) (i v : Nat) : (s.putLatch k f i v).sec = s.sec := rfl
@[simp] theorem State.putLatch_fuseEpoch (s : State) (k : Fin 3) (f : Field) (i v : Nat) : (s.putLatch k f i v).fuseEpoch = s.fuseEpoch := rfl
@[simp] theorem State.putLatch_fuseRevoke (s : State) (k : Fin 3) (f : Field) (i v : Nat) : (s.putLatch k f i v).fuseRevoke = s.fuseRevoke := rfl
@[simp] theorem State.putLatch_flash (s : State) (k : Fin 3) (f : Field) (i v : Nat) : (s.putLatch k f i v).flash = s.flash := rfl
@[simp] theorem State.putLatch_loader (s : State) (k : Fin 3) (f : Field) (i v : Nat) : (s.putLatch k f i v).loader = s.loader := rfl
@[simp] theorem State.putLatch_power (s : State) (k : Fin 3) (f : Field) (i v : Nat) : (s.putLatch k f i v).power = s.power := rfl
@[simp] theorem State.putLatch_coarse (s : State) (k : Fin 3) (f : Field) (i v : Nat) : (s.putLatch k f i v).coarse = s.coarse := rfl
@[simp] theorem State.putLatch_tim (s : State) (k : Fin 3) (f : Field) (i v : Nat) : (s.putLatch k f i v).tim = s.tim := rfl
@[simp] theorem State.putLatch_aonLog (s : State) (k : Fin 3) (f : Field) (i v : Nat) : (s.putLatch k f i v).aonLog = s.aonLog := rfl
@[simp] theorem State.putLatch_logPending (s : State) (k : Fin 3) (f : Field) (i v : Nat) : (s.putLatch k f i v).logPending = s.logPending := rfl
@[simp] theorem State.putLatch_evtLogged (s : State) (k : Fin 3) (f : Field) (i v : Nat) : (s.putLatch k f i v).evtLogged = s.evtLogged := rfl

/-! ## setCore -/

@[simp] theorem State.setCore_pending (s : State) (c : CoreId) (x : Core) : (s.setCore c x).pending = s.pending := rfl
@[simp] theorem State.setCore_cycles (s : State) (c : CoreId) (x : Core) : (s.setCore c x).cycles = s.cycles := rfl
@[simp] theorem State.setCore_free (s : State) (c : CoreId) (x : Core) : (s.setCore c x).free = s.free := rfl
@[simp] theorem State.setCore_regs (s : State) (c : CoreId) (x : Core) : (s.setCore c x).regs = s.regs := rfl
@[simp] theorem State.setCore_banks (s : State) (c : CoreId) (x : Core) : (s.setCore c x).banks = s.banks := rfl
@[simp] theorem State.setCore_groups (s : State) (c : CoreId) (x : Core) : (s.setCore c x).groups = s.groups := rfl
@[simp] theorem State.setCore_sluices (s : State) (c : CoreId) (x : Core) : (s.setCore c x).sluices = s.sluices := rfl
@[simp] theorem State.setCore_hostBus (s : State) (c : CoreId) (x : Core) : (s.setCore c x).hostBus = s.hostBus := rfl
@[simp] theorem State.setCore_lateBus (s : State) (c : CoreId) (x : Core) : (s.setCore c x).lateBus = s.lateBus := rfl
@[simp] theorem State.setCore_hostOut (s : State) (c : CoreId) (x : Core) : (s.setCore c x).hostOut = s.hostOut := rfl
@[simp] theorem State.setCore_qspi (s : State) (c : CoreId) (x : Core) : (s.setCore c x).qspi = s.qspi := rfl
@[simp] theorem State.setCore_qspiReply (s : State) (c : CoreId) (x : Core) : (s.setCore c x).qspiReply = s.qspiReply := rfl
@[simp] theorem State.setCore_i2cOut (s : State) (c : CoreId) (x : Core) : (s.setCore c x).i2cOut = s.i2cOut := rfl
@[simp] theorem State.setCore_remoteOut (s : State) (c : CoreId) (x : Core) : (s.setCore c x).remoteOut = s.remoteOut := rfl
@[simp] theorem State.setCore_latches (s : State) (c : CoreId) (x : Core) : (s.setCore c x).latches = s.latches := rfl
@[simp] theorem State.setCore_replayDue (s : State) (c : CoreId) (x : Core) : (s.setCore c x).replayDue = s.replayDue := rfl
@[simp] theorem State.setCore_jnlClearing (s : State) (c : CoreId) (x : Core) : (s.setCore c x).jnlClearing = s.jnlClearing := rfl
@[simp] theorem State.setCore_spargeDue (s : State) (c : CoreId) (x : Core) : (s.setCore c x).spargeDue = s.spargeDue := rfl
@[simp] theorem State.setCore_xbarFails (s : State) (c : CoreId) (x : Core) : (s.setCore c x).xbarFails = s.xbarFails := rfl
@[simp] theorem State.setCore_memErrs (s : State) (c : CoreId) (x : Core) : (s.setCore c x).memErrs = s.memErrs := rfl
@[simp] theorem State.setCore_badRead (s : State) (c : CoreId) (x : Core) : (s.setCore c x).badRead = s.badRead := rfl
@[simp] theorem State.setCore_walkCe (s : State) (c : CoreId) (x : Core) : (s.setCore c x).walkCe = s.walkCe := rfl
@[simp] theorem State.setCore_walkPasses (s : State) (c : CoreId) (x : Core) : (s.setCore c x).walkPasses = s.walkPasses := rfl
@[simp] theorem State.setCore_walkLost (s : State) (c : CoreId) (x : Core) : (s.setCore c x).walkLost = s.walkLost := rfl
@[simp] theorem State.setCore_walkLasting (s : State) (c : CoreId) (x : Core) : (s.setCore c x).walkLasting = s.walkLasting := rfl
@[simp] theorem State.setCore_ingress (s : State) (c : CoreId) (x : Core) : (s.setCore c x).ingress = s.ingress := rfl
@[simp] theorem State.setCore_egress (s : State) (c : CoreId) (x : Core) : (s.setCore c x).egress = s.egress := rfl
@[simp] theorem State.setCore_routes (s : State) (c : CoreId) (x : Core) : (s.setCore c x).routes = s.routes := rfl
@[simp] theorem State.setCore_chans (s : State) (c : CoreId) (x : Core) : (s.setCore c x).chans = s.chans := rfl
@[simp] theorem State.setCore_hgs (s : State) (c : CoreId) (x : Core) : (s.setCore c x).hgs = s.hgs := rfl
@[simp] theorem State.setCore_hgRamps (s : State) (c : CoreId) (x : Core) : (s.setCore c x).hgRamps = s.hgRamps := rfl
@[simp] theorem State.setCore_sent (s : State) (c : CoreId) (x : Core) : (s.setCore c x).sent = s.sent := rfl
@[simp] theorem State.setCore_sealTx (s : State) (c : CoreId) (x : Core) : (s.setCore c x).sealTx = s.sealTx := rfl
@[simp] theorem State.setCore_ports (s : State) (c : CoreId) (x : Core) : (s.setCore c x).ports = s.ports := rfl
@[simp] theorem State.setCore_links (s : State) (c : CoreId) (x : Core) : (s.setCore c x).links = s.links := rfl
@[simp] theorem State.setCore_linkBegun (s : State) (c : CoreId) (x : Core) : (s.setCore c x).linkBegun = s.linkBegun := rfl
@[simp] theorem State.setCore_bcSeen (s : State) (c : CoreId) (x : Core) : (s.setCore c x).bcSeen = s.bcSeen := rfl
@[simp] theorem State.setCore_bcSeq (s : State) (c : CoreId) (x : Core) : (s.setCore c x).bcSeq = s.bcSeq := rfl
@[simp] theorem State.setCore_wakeSent (s : State) (c : CoreId) (x : Core) : (s.setCore c x).wakeSent = s.wakeSent := rfl
@[simp] theorem State.setCore_wakeNamed (s : State) (c : CoreId) (x : Core) : (s.setCore c x).wakeNamed = s.wakeNamed := rfl
@[simp] theorem State.setCore_unwrapAt (s : State) (c : CoreId) (x : Core) : (s.setCore c x).unwrapAt = s.unwrapAt := rfl
@[simp] theorem State.setCore_tunMsgs (s : State) (c : CoreId) (x : Core) : (s.setCore c x).tunMsgs = s.tunMsgs := rfl
@[simp] theorem State.setCore_linkTheta (s : State) (c : CoreId) (x : Core) : (s.setCore c x).linkTheta = s.linkTheta := rfl
@[simp] theorem State.setCore_linkThetas (s : State) (c : CoreId) (x : Core) : (s.setCore c x).linkThetas = s.linkThetas := rfl
@[simp] theorem State.setCore_bce (s : State) (c : CoreId) (x : Core) : (s.setCore c x).bce = s.bce := rfl
@[simp] theorem State.setCore_probe (s : State) (c : CoreId) (x : Core) : (s.setCore c x).probe = s.probe := rfl
@[simp] theorem State.setCore_time (s : State) (c : CoreId) (x : Core) : (s.setCore c x).time = s.time := rfl
@[simp] theorem State.setCore_ptp (s : State) (c : CoreId) (x : Core) : (s.setCore c x).ptp = s.ptp := rfl
@[simp] theorem State.setCore_plls (s : State) (c : CoreId) (x : Core) : (s.setCore c x).plls = s.plls := rfl
@[simp] theorem State.setCore_monitors (s : State) (c : CoreId) (x : Core) : (s.setCore c x).monitors = s.monitors := rfl
@[simp] theorem State.setCore_sysAttempts (s : State) (c : CoreId) (x : Core) : (s.setCore c x).sysAttempts = s.sysAttempts := rfl
@[simp] theorem State.setCore_sps (s : State) (c : CoreId) (x : Core) : (s.setCore c x).sps = s.sps := rfl
@[simp] theorem State.setCore_refStopped (s : State) (c : CoreId) (x : Core) : (s.setCore c x).refStopped = s.refStopped := rfl
@[simp] theorem State.setCore_ptpClass (s : State) (c : CoreId) (x : Core) : (s.setCore c x).ptpClass = s.ptpClass := rfl
@[simp] theorem State.setCore_lanes (s : State) (c : CoreId) (x : Core) : (s.setCore c x).lanes = s.lanes := rfl
@[simp] theorem State.setCore_rxs (s : State) (c : CoreId) (x : Core) : (s.setCore c x).rxs = s.rxs := rfl
@[simp] theorem State.setCore_txs (s : State) (c : CoreId) (x : Core) : (s.setCore c x).txs = s.txs := rfl
@[simp] theorem State.setCore_netOut (s : State) (c : CoreId) (x : Core) : (s.setCore c x).netOut = s.netOut := rfl
@[simp] theorem State.setCore_cc (s : State) (c : CoreId) (x : Core) : (s.setCore c x).cc = s.cc := rfl
@[simp] theorem State.setCore_mbx (s : State) (c : CoreId) (x : Core) : (s.setCore c x).mbx = s.mbx := rfl
@[simp] theorem State.setCore_tunnel (s : State) (c : CoreId) (x : Core) : (s.setCore c x).tunnel = s.tunnel := rfl
@[simp] theorem State.setCore_update (s : State) (c : CoreId) (x : Core) : (s.setCore c x).update = s.update := rfl
@[simp] theorem State.setCore_sec (s : State) (c : CoreId) (x : Core) : (s.setCore c x).sec = s.sec := rfl
@[simp] theorem State.setCore_fuseEpoch (s : State) (c : CoreId) (x : Core) : (s.setCore c x).fuseEpoch = s.fuseEpoch := rfl
@[simp] theorem State.setCore_fuseRevoke (s : State) (c : CoreId) (x : Core) : (s.setCore c x).fuseRevoke = s.fuseRevoke := rfl
@[simp] theorem State.setCore_flash (s : State) (c : CoreId) (x : Core) : (s.setCore c x).flash = s.flash := rfl
@[simp] theorem State.setCore_loader (s : State) (c : CoreId) (x : Core) : (s.setCore c x).loader = s.loader := rfl
@[simp] theorem State.setCore_power (s : State) (c : CoreId) (x : Core) : (s.setCore c x).power = s.power := rfl
@[simp] theorem State.setCore_coarse (s : State) (c : CoreId) (x : Core) : (s.setCore c x).coarse = s.coarse := rfl
@[simp] theorem State.setCore_tim (s : State) (c : CoreId) (x : Core) : (s.setCore c x).tim = s.tim := rfl
@[simp] theorem State.setCore_aonLog (s : State) (c : CoreId) (x : Core) : (s.setCore c x).aonLog = s.aonLog := rfl
@[simp] theorem State.setCore_logPending (s : State) (c : CoreId) (x : Core) : (s.setCore c x).logPending = s.logPending := rfl
@[simp] theorem State.setCore_evtLogged (s : State) (c : CoreId) (x : Core) : (s.setCore c x).evtLogged = s.evtLogged := rfl

/-! ## setBank -/

@[simp] theorem State.setBank_pending (s : State) (b : BankId) (x : Bank) : (s.setBank b x).pending = s.pending := rfl
@[simp] theorem State.setBank_cycles (s : State) (b : BankId) (x : Bank) : (s.setBank b x).cycles = s.cycles := rfl
@[simp] theorem State.setBank_free (s : State) (b : BankId) (x : Bank) : (s.setBank b x).free = s.free := rfl
@[simp] theorem State.setBank_regs (s : State) (b : BankId) (x : Bank) : (s.setBank b x).regs = s.regs := rfl
@[simp] theorem State.setBank_cores (s : State) (b : BankId) (x : Bank) : (s.setBank b x).cores = s.cores := rfl
@[simp] theorem State.setBank_groups (s : State) (b : BankId) (x : Bank) : (s.setBank b x).groups = s.groups := rfl
@[simp] theorem State.setBank_sluices (s : State) (b : BankId) (x : Bank) : (s.setBank b x).sluices = s.sluices := rfl
@[simp] theorem State.setBank_hostBus (s : State) (b : BankId) (x : Bank) : (s.setBank b x).hostBus = s.hostBus := rfl
@[simp] theorem State.setBank_lateBus (s : State) (b : BankId) (x : Bank) : (s.setBank b x).lateBus = s.lateBus := rfl
@[simp] theorem State.setBank_hostOut (s : State) (b : BankId) (x : Bank) : (s.setBank b x).hostOut = s.hostOut := rfl
@[simp] theorem State.setBank_qspi (s : State) (b : BankId) (x : Bank) : (s.setBank b x).qspi = s.qspi := rfl
@[simp] theorem State.setBank_qspiReply (s : State) (b : BankId) (x : Bank) : (s.setBank b x).qspiReply = s.qspiReply := rfl
@[simp] theorem State.setBank_i2cOut (s : State) (b : BankId) (x : Bank) : (s.setBank b x).i2cOut = s.i2cOut := rfl
@[simp] theorem State.setBank_remoteOut (s : State) (b : BankId) (x : Bank) : (s.setBank b x).remoteOut = s.remoteOut := rfl
@[simp] theorem State.setBank_latches (s : State) (b : BankId) (x : Bank) : (s.setBank b x).latches = s.latches := rfl
@[simp] theorem State.setBank_replayDue (s : State) (b : BankId) (x : Bank) : (s.setBank b x).replayDue = s.replayDue := rfl
@[simp] theorem State.setBank_jnlClearing (s : State) (b : BankId) (x : Bank) : (s.setBank b x).jnlClearing = s.jnlClearing := rfl
@[simp] theorem State.setBank_spargeDue (s : State) (b : BankId) (x : Bank) : (s.setBank b x).spargeDue = s.spargeDue := rfl
@[simp] theorem State.setBank_xbarFails (s : State) (b : BankId) (x : Bank) : (s.setBank b x).xbarFails = s.xbarFails := rfl
@[simp] theorem State.setBank_memErrs (s : State) (b : BankId) (x : Bank) : (s.setBank b x).memErrs = s.memErrs := rfl
@[simp] theorem State.setBank_badRead (s : State) (b : BankId) (x : Bank) : (s.setBank b x).badRead = s.badRead := rfl
@[simp] theorem State.setBank_walkCe (s : State) (b : BankId) (x : Bank) : (s.setBank b x).walkCe = s.walkCe := rfl
@[simp] theorem State.setBank_walkPasses (s : State) (b : BankId) (x : Bank) : (s.setBank b x).walkPasses = s.walkPasses := rfl
@[simp] theorem State.setBank_walkLost (s : State) (b : BankId) (x : Bank) : (s.setBank b x).walkLost = s.walkLost := rfl
@[simp] theorem State.setBank_walkLasting (s : State) (b : BankId) (x : Bank) : (s.setBank b x).walkLasting = s.walkLasting := rfl
@[simp] theorem State.setBank_ingress (s : State) (b : BankId) (x : Bank) : (s.setBank b x).ingress = s.ingress := rfl
@[simp] theorem State.setBank_egress (s : State) (b : BankId) (x : Bank) : (s.setBank b x).egress = s.egress := rfl
@[simp] theorem State.setBank_routes (s : State) (b : BankId) (x : Bank) : (s.setBank b x).routes = s.routes := rfl
@[simp] theorem State.setBank_chans (s : State) (b : BankId) (x : Bank) : (s.setBank b x).chans = s.chans := rfl
@[simp] theorem State.setBank_hgs (s : State) (b : BankId) (x : Bank) : (s.setBank b x).hgs = s.hgs := rfl
@[simp] theorem State.setBank_hgRamps (s : State) (b : BankId) (x : Bank) : (s.setBank b x).hgRamps = s.hgRamps := rfl
@[simp] theorem State.setBank_sent (s : State) (b : BankId) (x : Bank) : (s.setBank b x).sent = s.sent := rfl
@[simp] theorem State.setBank_sealTx (s : State) (b : BankId) (x : Bank) : (s.setBank b x).sealTx = s.sealTx := rfl
@[simp] theorem State.setBank_ports (s : State) (b : BankId) (x : Bank) : (s.setBank b x).ports = s.ports := rfl
@[simp] theorem State.setBank_links (s : State) (b : BankId) (x : Bank) : (s.setBank b x).links = s.links := rfl
@[simp] theorem State.setBank_linkBegun (s : State) (b : BankId) (x : Bank) : (s.setBank b x).linkBegun = s.linkBegun := rfl
@[simp] theorem State.setBank_bcSeen (s : State) (b : BankId) (x : Bank) : (s.setBank b x).bcSeen = s.bcSeen := rfl
@[simp] theorem State.setBank_bcSeq (s : State) (b : BankId) (x : Bank) : (s.setBank b x).bcSeq = s.bcSeq := rfl
@[simp] theorem State.setBank_wakeSent (s : State) (b : BankId) (x : Bank) : (s.setBank b x).wakeSent = s.wakeSent := rfl
@[simp] theorem State.setBank_wakeNamed (s : State) (b : BankId) (x : Bank) : (s.setBank b x).wakeNamed = s.wakeNamed := rfl
@[simp] theorem State.setBank_unwrapAt (s : State) (b : BankId) (x : Bank) : (s.setBank b x).unwrapAt = s.unwrapAt := rfl
@[simp] theorem State.setBank_tunMsgs (s : State) (b : BankId) (x : Bank) : (s.setBank b x).tunMsgs = s.tunMsgs := rfl
@[simp] theorem State.setBank_linkTheta (s : State) (b : BankId) (x : Bank) : (s.setBank b x).linkTheta = s.linkTheta := rfl
@[simp] theorem State.setBank_linkThetas (s : State) (b : BankId) (x : Bank) : (s.setBank b x).linkThetas = s.linkThetas := rfl
@[simp] theorem State.setBank_bce (s : State) (b : BankId) (x : Bank) : (s.setBank b x).bce = s.bce := rfl
@[simp] theorem State.setBank_probe (s : State) (b : BankId) (x : Bank) : (s.setBank b x).probe = s.probe := rfl
@[simp] theorem State.setBank_time (s : State) (b : BankId) (x : Bank) : (s.setBank b x).time = s.time := rfl
@[simp] theorem State.setBank_ptp (s : State) (b : BankId) (x : Bank) : (s.setBank b x).ptp = s.ptp := rfl
@[simp] theorem State.setBank_plls (s : State) (b : BankId) (x : Bank) : (s.setBank b x).plls = s.plls := rfl
@[simp] theorem State.setBank_monitors (s : State) (b : BankId) (x : Bank) : (s.setBank b x).monitors = s.monitors := rfl
@[simp] theorem State.setBank_sysAttempts (s : State) (b : BankId) (x : Bank) : (s.setBank b x).sysAttempts = s.sysAttempts := rfl
@[simp] theorem State.setBank_sps (s : State) (b : BankId) (x : Bank) : (s.setBank b x).sps = s.sps := rfl
@[simp] theorem State.setBank_refStopped (s : State) (b : BankId) (x : Bank) : (s.setBank b x).refStopped = s.refStopped := rfl
@[simp] theorem State.setBank_ptpClass (s : State) (b : BankId) (x : Bank) : (s.setBank b x).ptpClass = s.ptpClass := rfl
@[simp] theorem State.setBank_lanes (s : State) (b : BankId) (x : Bank) : (s.setBank b x).lanes = s.lanes := rfl
@[simp] theorem State.setBank_rxs (s : State) (b : BankId) (x : Bank) : (s.setBank b x).rxs = s.rxs := rfl
@[simp] theorem State.setBank_txs (s : State) (b : BankId) (x : Bank) : (s.setBank b x).txs = s.txs := rfl
@[simp] theorem State.setBank_netOut (s : State) (b : BankId) (x : Bank) : (s.setBank b x).netOut = s.netOut := rfl
@[simp] theorem State.setBank_cc (s : State) (b : BankId) (x : Bank) : (s.setBank b x).cc = s.cc := rfl
@[simp] theorem State.setBank_mbx (s : State) (b : BankId) (x : Bank) : (s.setBank b x).mbx = s.mbx := rfl
@[simp] theorem State.setBank_tunnel (s : State) (b : BankId) (x : Bank) : (s.setBank b x).tunnel = s.tunnel := rfl
@[simp] theorem State.setBank_update (s : State) (b : BankId) (x : Bank) : (s.setBank b x).update = s.update := rfl
@[simp] theorem State.setBank_sec (s : State) (b : BankId) (x : Bank) : (s.setBank b x).sec = s.sec := rfl
@[simp] theorem State.setBank_fuseEpoch (s : State) (b : BankId) (x : Bank) : (s.setBank b x).fuseEpoch = s.fuseEpoch := rfl
@[simp] theorem State.setBank_fuseRevoke (s : State) (b : BankId) (x : Bank) : (s.setBank b x).fuseRevoke = s.fuseRevoke := rfl
@[simp] theorem State.setBank_flash (s : State) (b : BankId) (x : Bank) : (s.setBank b x).flash = s.flash := rfl
@[simp] theorem State.setBank_loader (s : State) (b : BankId) (x : Bank) : (s.setBank b x).loader = s.loader := rfl
@[simp] theorem State.setBank_power (s : State) (b : BankId) (x : Bank) : (s.setBank b x).power = s.power := rfl
@[simp] theorem State.setBank_coarse (s : State) (b : BankId) (x : Bank) : (s.setBank b x).coarse = s.coarse := rfl
@[simp] theorem State.setBank_tim (s : State) (b : BankId) (x : Bank) : (s.setBank b x).tim = s.tim := rfl
@[simp] theorem State.setBank_aonLog (s : State) (b : BankId) (x : Bank) : (s.setBank b x).aonLog = s.aonLog := rfl
@[simp] theorem State.setBank_logPending (s : State) (b : BankId) (x : Bank) : (s.setBank b x).logPending = s.logPending := rfl
@[simp] theorem State.setBank_evtLogged (s : State) (b : BankId) (x : Bank) : (s.setBank b x).evtLogged = s.evtLogged := rfl

/-! ## setGroup -/

@[simp] theorem State.setGroup_pending (s : State) (g : GroupId) (x : Group) : (s.setGroup g x).pending = s.pending := rfl
@[simp] theorem State.setGroup_cycles (s : State) (g : GroupId) (x : Group) : (s.setGroup g x).cycles = s.cycles := rfl
@[simp] theorem State.setGroup_free (s : State) (g : GroupId) (x : Group) : (s.setGroup g x).free = s.free := rfl
@[simp] theorem State.setGroup_regs (s : State) (g : GroupId) (x : Group) : (s.setGroup g x).regs = s.regs := rfl
@[simp] theorem State.setGroup_cores (s : State) (g : GroupId) (x : Group) : (s.setGroup g x).cores = s.cores := rfl
@[simp] theorem State.setGroup_banks (s : State) (g : GroupId) (x : Group) : (s.setGroup g x).banks = s.banks := rfl
@[simp] theorem State.setGroup_sluices (s : State) (g : GroupId) (x : Group) : (s.setGroup g x).sluices = s.sluices := rfl
@[simp] theorem State.setGroup_hostBus (s : State) (g : GroupId) (x : Group) : (s.setGroup g x).hostBus = s.hostBus := rfl
@[simp] theorem State.setGroup_lateBus (s : State) (g : GroupId) (x : Group) : (s.setGroup g x).lateBus = s.lateBus := rfl
@[simp] theorem State.setGroup_hostOut (s : State) (g : GroupId) (x : Group) : (s.setGroup g x).hostOut = s.hostOut := rfl
@[simp] theorem State.setGroup_qspi (s : State) (g : GroupId) (x : Group) : (s.setGroup g x).qspi = s.qspi := rfl
@[simp] theorem State.setGroup_qspiReply (s : State) (g : GroupId) (x : Group) : (s.setGroup g x).qspiReply = s.qspiReply := rfl
@[simp] theorem State.setGroup_i2cOut (s : State) (g : GroupId) (x : Group) : (s.setGroup g x).i2cOut = s.i2cOut := rfl
@[simp] theorem State.setGroup_remoteOut (s : State) (g : GroupId) (x : Group) : (s.setGroup g x).remoteOut = s.remoteOut := rfl
@[simp] theorem State.setGroup_latches (s : State) (g : GroupId) (x : Group) : (s.setGroup g x).latches = s.latches := rfl
@[simp] theorem State.setGroup_replayDue (s : State) (g : GroupId) (x : Group) : (s.setGroup g x).replayDue = s.replayDue := rfl
@[simp] theorem State.setGroup_jnlClearing (s : State) (g : GroupId) (x : Group) : (s.setGroup g x).jnlClearing = s.jnlClearing := rfl
@[simp] theorem State.setGroup_spargeDue (s : State) (g : GroupId) (x : Group) : (s.setGroup g x).spargeDue = s.spargeDue := rfl
@[simp] theorem State.setGroup_xbarFails (s : State) (g : GroupId) (x : Group) : (s.setGroup g x).xbarFails = s.xbarFails := rfl
@[simp] theorem State.setGroup_memErrs (s : State) (g : GroupId) (x : Group) : (s.setGroup g x).memErrs = s.memErrs := rfl
@[simp] theorem State.setGroup_badRead (s : State) (g : GroupId) (x : Group) : (s.setGroup g x).badRead = s.badRead := rfl
@[simp] theorem State.setGroup_walkCe (s : State) (g : GroupId) (x : Group) : (s.setGroup g x).walkCe = s.walkCe := rfl
@[simp] theorem State.setGroup_walkPasses (s : State) (g : GroupId) (x : Group) : (s.setGroup g x).walkPasses = s.walkPasses := rfl
@[simp] theorem State.setGroup_walkLost (s : State) (g : GroupId) (x : Group) : (s.setGroup g x).walkLost = s.walkLost := rfl
@[simp] theorem State.setGroup_walkLasting (s : State) (g : GroupId) (x : Group) : (s.setGroup g x).walkLasting = s.walkLasting := rfl
@[simp] theorem State.setGroup_ingress (s : State) (g : GroupId) (x : Group) : (s.setGroup g x).ingress = s.ingress := rfl
@[simp] theorem State.setGroup_egress (s : State) (g : GroupId) (x : Group) : (s.setGroup g x).egress = s.egress := rfl
@[simp] theorem State.setGroup_routes (s : State) (g : GroupId) (x : Group) : (s.setGroup g x).routes = s.routes := rfl
@[simp] theorem State.setGroup_chans (s : State) (g : GroupId) (x : Group) : (s.setGroup g x).chans = s.chans := rfl
@[simp] theorem State.setGroup_hgs (s : State) (g : GroupId) (x : Group) : (s.setGroup g x).hgs = s.hgs := rfl
@[simp] theorem State.setGroup_hgRamps (s : State) (g : GroupId) (x : Group) : (s.setGroup g x).hgRamps = s.hgRamps := rfl
@[simp] theorem State.setGroup_sent (s : State) (g : GroupId) (x : Group) : (s.setGroup g x).sent = s.sent := rfl
@[simp] theorem State.setGroup_sealTx (s : State) (g : GroupId) (x : Group) : (s.setGroup g x).sealTx = s.sealTx := rfl
@[simp] theorem State.setGroup_ports (s : State) (g : GroupId) (x : Group) : (s.setGroup g x).ports = s.ports := rfl
@[simp] theorem State.setGroup_links (s : State) (g : GroupId) (x : Group) : (s.setGroup g x).links = s.links := rfl
@[simp] theorem State.setGroup_linkBegun (s : State) (g : GroupId) (x : Group) : (s.setGroup g x).linkBegun = s.linkBegun := rfl
@[simp] theorem State.setGroup_bcSeen (s : State) (g : GroupId) (x : Group) : (s.setGroup g x).bcSeen = s.bcSeen := rfl
@[simp] theorem State.setGroup_bcSeq (s : State) (g : GroupId) (x : Group) : (s.setGroup g x).bcSeq = s.bcSeq := rfl
@[simp] theorem State.setGroup_wakeSent (s : State) (g : GroupId) (x : Group) : (s.setGroup g x).wakeSent = s.wakeSent := rfl
@[simp] theorem State.setGroup_wakeNamed (s : State) (g : GroupId) (x : Group) : (s.setGroup g x).wakeNamed = s.wakeNamed := rfl
@[simp] theorem State.setGroup_unwrapAt (s : State) (g : GroupId) (x : Group) : (s.setGroup g x).unwrapAt = s.unwrapAt := rfl
@[simp] theorem State.setGroup_tunMsgs (s : State) (g : GroupId) (x : Group) : (s.setGroup g x).tunMsgs = s.tunMsgs := rfl
@[simp] theorem State.setGroup_linkTheta (s : State) (g : GroupId) (x : Group) : (s.setGroup g x).linkTheta = s.linkTheta := rfl
@[simp] theorem State.setGroup_linkThetas (s : State) (g : GroupId) (x : Group) : (s.setGroup g x).linkThetas = s.linkThetas := rfl
@[simp] theorem State.setGroup_bce (s : State) (g : GroupId) (x : Group) : (s.setGroup g x).bce = s.bce := rfl
@[simp] theorem State.setGroup_probe (s : State) (g : GroupId) (x : Group) : (s.setGroup g x).probe = s.probe := rfl
@[simp] theorem State.setGroup_time (s : State) (g : GroupId) (x : Group) : (s.setGroup g x).time = s.time := rfl
@[simp] theorem State.setGroup_ptp (s : State) (g : GroupId) (x : Group) : (s.setGroup g x).ptp = s.ptp := rfl
@[simp] theorem State.setGroup_plls (s : State) (g : GroupId) (x : Group) : (s.setGroup g x).plls = s.plls := rfl
@[simp] theorem State.setGroup_monitors (s : State) (g : GroupId) (x : Group) : (s.setGroup g x).monitors = s.monitors := rfl
@[simp] theorem State.setGroup_sysAttempts (s : State) (g : GroupId) (x : Group) : (s.setGroup g x).sysAttempts = s.sysAttempts := rfl
@[simp] theorem State.setGroup_sps (s : State) (g : GroupId) (x : Group) : (s.setGroup g x).sps = s.sps := rfl
@[simp] theorem State.setGroup_refStopped (s : State) (g : GroupId) (x : Group) : (s.setGroup g x).refStopped = s.refStopped := rfl
@[simp] theorem State.setGroup_ptpClass (s : State) (g : GroupId) (x : Group) : (s.setGroup g x).ptpClass = s.ptpClass := rfl
@[simp] theorem State.setGroup_lanes (s : State) (g : GroupId) (x : Group) : (s.setGroup g x).lanes = s.lanes := rfl
@[simp] theorem State.setGroup_rxs (s : State) (g : GroupId) (x : Group) : (s.setGroup g x).rxs = s.rxs := rfl
@[simp] theorem State.setGroup_txs (s : State) (g : GroupId) (x : Group) : (s.setGroup g x).txs = s.txs := rfl
@[simp] theorem State.setGroup_netOut (s : State) (g : GroupId) (x : Group) : (s.setGroup g x).netOut = s.netOut := rfl
@[simp] theorem State.setGroup_cc (s : State) (g : GroupId) (x : Group) : (s.setGroup g x).cc = s.cc := rfl
@[simp] theorem State.setGroup_mbx (s : State) (g : GroupId) (x : Group) : (s.setGroup g x).mbx = s.mbx := rfl
@[simp] theorem State.setGroup_tunnel (s : State) (g : GroupId) (x : Group) : (s.setGroup g x).tunnel = s.tunnel := rfl
@[simp] theorem State.setGroup_update (s : State) (g : GroupId) (x : Group) : (s.setGroup g x).update = s.update := rfl
@[simp] theorem State.setGroup_sec (s : State) (g : GroupId) (x : Group) : (s.setGroup g x).sec = s.sec := rfl
@[simp] theorem State.setGroup_fuseEpoch (s : State) (g : GroupId) (x : Group) : (s.setGroup g x).fuseEpoch = s.fuseEpoch := rfl
@[simp] theorem State.setGroup_fuseRevoke (s : State) (g : GroupId) (x : Group) : (s.setGroup g x).fuseRevoke = s.fuseRevoke := rfl
@[simp] theorem State.setGroup_flash (s : State) (g : GroupId) (x : Group) : (s.setGroup g x).flash = s.flash := rfl
@[simp] theorem State.setGroup_loader (s : State) (g : GroupId) (x : Group) : (s.setGroup g x).loader = s.loader := rfl
@[simp] theorem State.setGroup_power (s : State) (g : GroupId) (x : Group) : (s.setGroup g x).power = s.power := rfl
@[simp] theorem State.setGroup_coarse (s : State) (g : GroupId) (x : Group) : (s.setGroup g x).coarse = s.coarse := rfl
@[simp] theorem State.setGroup_tim (s : State) (g : GroupId) (x : Group) : (s.setGroup g x).tim = s.tim := rfl
@[simp] theorem State.setGroup_aonLog (s : State) (g : GroupId) (x : Group) : (s.setGroup g x).aonLog = s.aonLog := rfl
@[simp] theorem State.setGroup_logPending (s : State) (g : GroupId) (x : Group) : (s.setGroup g x).logPending = s.logPending := rfl
@[simp] theorem State.setGroup_evtLogged (s : State) (g : GroupId) (x : Group) : (s.setGroup g x).evtLogged = s.evtLogged := rfl

/-! ## setPort -/

@[simp] theorem State.setPort_pending (s : State) (p : PortId) (x : Port) : (s.setPort p x).pending = s.pending := rfl
@[simp] theorem State.setPort_cycles (s : State) (p : PortId) (x : Port) : (s.setPort p x).cycles = s.cycles := rfl
@[simp] theorem State.setPort_free (s : State) (p : PortId) (x : Port) : (s.setPort p x).free = s.free := rfl
@[simp] theorem State.setPort_regs (s : State) (p : PortId) (x : Port) : (s.setPort p x).regs = s.regs := rfl
@[simp] theorem State.setPort_cores (s : State) (p : PortId) (x : Port) : (s.setPort p x).cores = s.cores := rfl
@[simp] theorem State.setPort_banks (s : State) (p : PortId) (x : Port) : (s.setPort p x).banks = s.banks := rfl
@[simp] theorem State.setPort_groups (s : State) (p : PortId) (x : Port) : (s.setPort p x).groups = s.groups := rfl
@[simp] theorem State.setPort_sluices (s : State) (p : PortId) (x : Port) : (s.setPort p x).sluices = s.sluices := rfl
@[simp] theorem State.setPort_hostBus (s : State) (p : PortId) (x : Port) : (s.setPort p x).hostBus = s.hostBus := rfl
@[simp] theorem State.setPort_lateBus (s : State) (p : PortId) (x : Port) : (s.setPort p x).lateBus = s.lateBus := rfl
@[simp] theorem State.setPort_hostOut (s : State) (p : PortId) (x : Port) : (s.setPort p x).hostOut = s.hostOut := rfl
@[simp] theorem State.setPort_qspi (s : State) (p : PortId) (x : Port) : (s.setPort p x).qspi = s.qspi := rfl
@[simp] theorem State.setPort_qspiReply (s : State) (p : PortId) (x : Port) : (s.setPort p x).qspiReply = s.qspiReply := rfl
@[simp] theorem State.setPort_i2cOut (s : State) (p : PortId) (x : Port) : (s.setPort p x).i2cOut = s.i2cOut := rfl
@[simp] theorem State.setPort_remoteOut (s : State) (p : PortId) (x : Port) : (s.setPort p x).remoteOut = s.remoteOut := rfl
@[simp] theorem State.setPort_latches (s : State) (p : PortId) (x : Port) : (s.setPort p x).latches = s.latches := rfl
@[simp] theorem State.setPort_replayDue (s : State) (p : PortId) (x : Port) : (s.setPort p x).replayDue = s.replayDue := rfl
@[simp] theorem State.setPort_jnlClearing (s : State) (p : PortId) (x : Port) : (s.setPort p x).jnlClearing = s.jnlClearing := rfl
@[simp] theorem State.setPort_spargeDue (s : State) (p : PortId) (x : Port) : (s.setPort p x).spargeDue = s.spargeDue := rfl
@[simp] theorem State.setPort_xbarFails (s : State) (p : PortId) (x : Port) : (s.setPort p x).xbarFails = s.xbarFails := rfl
@[simp] theorem State.setPort_memErrs (s : State) (p : PortId) (x : Port) : (s.setPort p x).memErrs = s.memErrs := rfl
@[simp] theorem State.setPort_badRead (s : State) (p : PortId) (x : Port) : (s.setPort p x).badRead = s.badRead := rfl
@[simp] theorem State.setPort_walkCe (s : State) (p : PortId) (x : Port) : (s.setPort p x).walkCe = s.walkCe := rfl
@[simp] theorem State.setPort_walkPasses (s : State) (p : PortId) (x : Port) : (s.setPort p x).walkPasses = s.walkPasses := rfl
@[simp] theorem State.setPort_walkLost (s : State) (p : PortId) (x : Port) : (s.setPort p x).walkLost = s.walkLost := rfl
@[simp] theorem State.setPort_walkLasting (s : State) (p : PortId) (x : Port) : (s.setPort p x).walkLasting = s.walkLasting := rfl
@[simp] theorem State.setPort_ingress (s : State) (p : PortId) (x : Port) : (s.setPort p x).ingress = s.ingress := rfl
@[simp] theorem State.setPort_egress (s : State) (p : PortId) (x : Port) : (s.setPort p x).egress = s.egress := rfl
@[simp] theorem State.setPort_routes (s : State) (p : PortId) (x : Port) : (s.setPort p x).routes = s.routes := rfl
@[simp] theorem State.setPort_chans (s : State) (p : PortId) (x : Port) : (s.setPort p x).chans = s.chans := rfl
@[simp] theorem State.setPort_hgs (s : State) (p : PortId) (x : Port) : (s.setPort p x).hgs = s.hgs := rfl
@[simp] theorem State.setPort_hgRamps (s : State) (p : PortId) (x : Port) : (s.setPort p x).hgRamps = s.hgRamps := rfl
@[simp] theorem State.setPort_sent (s : State) (p : PortId) (x : Port) : (s.setPort p x).sent = s.sent := rfl
@[simp] theorem State.setPort_sealTx (s : State) (p : PortId) (x : Port) : (s.setPort p x).sealTx = s.sealTx := rfl
@[simp] theorem State.setPort_links (s : State) (p : PortId) (x : Port) : (s.setPort p x).links = s.links := rfl
@[simp] theorem State.setPort_linkBegun (s : State) (p : PortId) (x : Port) : (s.setPort p x).linkBegun = s.linkBegun := rfl
@[simp] theorem State.setPort_bcSeen (s : State) (p : PortId) (x : Port) : (s.setPort p x).bcSeen = s.bcSeen := rfl
@[simp] theorem State.setPort_bcSeq (s : State) (p : PortId) (x : Port) : (s.setPort p x).bcSeq = s.bcSeq := rfl
@[simp] theorem State.setPort_wakeSent (s : State) (p : PortId) (x : Port) : (s.setPort p x).wakeSent = s.wakeSent := rfl
@[simp] theorem State.setPort_wakeNamed (s : State) (p : PortId) (x : Port) : (s.setPort p x).wakeNamed = s.wakeNamed := rfl
@[simp] theorem State.setPort_unwrapAt (s : State) (p : PortId) (x : Port) : (s.setPort p x).unwrapAt = s.unwrapAt := rfl
@[simp] theorem State.setPort_tunMsgs (s : State) (p : PortId) (x : Port) : (s.setPort p x).tunMsgs = s.tunMsgs := rfl
@[simp] theorem State.setPort_linkTheta (s : State) (p : PortId) (x : Port) : (s.setPort p x).linkTheta = s.linkTheta := rfl
@[simp] theorem State.setPort_linkThetas (s : State) (p : PortId) (x : Port) : (s.setPort p x).linkThetas = s.linkThetas := rfl
@[simp] theorem State.setPort_bce (s : State) (p : PortId) (x : Port) : (s.setPort p x).bce = s.bce := rfl
@[simp] theorem State.setPort_probe (s : State) (p : PortId) (x : Port) : (s.setPort p x).probe = s.probe := rfl
@[simp] theorem State.setPort_time (s : State) (p : PortId) (x : Port) : (s.setPort p x).time = s.time := rfl
@[simp] theorem State.setPort_ptp (s : State) (p : PortId) (x : Port) : (s.setPort p x).ptp = s.ptp := rfl
@[simp] theorem State.setPort_plls (s : State) (p : PortId) (x : Port) : (s.setPort p x).plls = s.plls := rfl
@[simp] theorem State.setPort_monitors (s : State) (p : PortId) (x : Port) : (s.setPort p x).monitors = s.monitors := rfl
@[simp] theorem State.setPort_sysAttempts (s : State) (p : PortId) (x : Port) : (s.setPort p x).sysAttempts = s.sysAttempts := rfl
@[simp] theorem State.setPort_sps (s : State) (p : PortId) (x : Port) : (s.setPort p x).sps = s.sps := rfl
@[simp] theorem State.setPort_refStopped (s : State) (p : PortId) (x : Port) : (s.setPort p x).refStopped = s.refStopped := rfl
@[simp] theorem State.setPort_ptpClass (s : State) (p : PortId) (x : Port) : (s.setPort p x).ptpClass = s.ptpClass := rfl
@[simp] theorem State.setPort_lanes (s : State) (p : PortId) (x : Port) : (s.setPort p x).lanes = s.lanes := rfl
@[simp] theorem State.setPort_rxs (s : State) (p : PortId) (x : Port) : (s.setPort p x).rxs = s.rxs := rfl
@[simp] theorem State.setPort_txs (s : State) (p : PortId) (x : Port) : (s.setPort p x).txs = s.txs := rfl
@[simp] theorem State.setPort_netOut (s : State) (p : PortId) (x : Port) : (s.setPort p x).netOut = s.netOut := rfl
@[simp] theorem State.setPort_cc (s : State) (p : PortId) (x : Port) : (s.setPort p x).cc = s.cc := rfl
@[simp] theorem State.setPort_mbx (s : State) (p : PortId) (x : Port) : (s.setPort p x).mbx = s.mbx := rfl
@[simp] theorem State.setPort_tunnel (s : State) (p : PortId) (x : Port) : (s.setPort p x).tunnel = s.tunnel := rfl
@[simp] theorem State.setPort_update (s : State) (p : PortId) (x : Port) : (s.setPort p x).update = s.update := rfl
@[simp] theorem State.setPort_sec (s : State) (p : PortId) (x : Port) : (s.setPort p x).sec = s.sec := rfl
@[simp] theorem State.setPort_fuseEpoch (s : State) (p : PortId) (x : Port) : (s.setPort p x).fuseEpoch = s.fuseEpoch := rfl
@[simp] theorem State.setPort_fuseRevoke (s : State) (p : PortId) (x : Port) : (s.setPort p x).fuseRevoke = s.fuseRevoke := rfl
@[simp] theorem State.setPort_flash (s : State) (p : PortId) (x : Port) : (s.setPort p x).flash = s.flash := rfl
@[simp] theorem State.setPort_loader (s : State) (p : PortId) (x : Port) : (s.setPort p x).loader = s.loader := rfl
@[simp] theorem State.setPort_power (s : State) (p : PortId) (x : Port) : (s.setPort p x).power = s.power := rfl
@[simp] theorem State.setPort_coarse (s : State) (p : PortId) (x : Port) : (s.setPort p x).coarse = s.coarse := rfl
@[simp] theorem State.setPort_tim (s : State) (p : PortId) (x : Port) : (s.setPort p x).tim = s.tim := rfl
@[simp] theorem State.setPort_aonLog (s : State) (p : PortId) (x : Port) : (s.setPort p x).aonLog = s.aonLog := rfl
@[simp] theorem State.setPort_logPending (s : State) (p : PortId) (x : Port) : (s.setPort p x).logPending = s.logPending := rfl
@[simp] theorem State.setPort_evtLogged (s : State) (p : PortId) (x : Port) : (s.setPort p x).evtLogged = s.evtLogged := rfl

/-! ## setChanSt -/

@[simp] theorem State.setChanSt_pending (s : State) (c : Nat) (x : ChanState) : (s.setChanSt c x).pending = s.pending := rfl
@[simp] theorem State.setChanSt_cycles (s : State) (c : Nat) (x : ChanState) : (s.setChanSt c x).cycles = s.cycles := rfl
@[simp] theorem State.setChanSt_free (s : State) (c : Nat) (x : ChanState) : (s.setChanSt c x).free = s.free := rfl
@[simp] theorem State.setChanSt_regs (s : State) (c : Nat) (x : ChanState) : (s.setChanSt c x).regs = s.regs := rfl
@[simp] theorem State.setChanSt_cores (s : State) (c : Nat) (x : ChanState) : (s.setChanSt c x).cores = s.cores := rfl
@[simp] theorem State.setChanSt_banks (s : State) (c : Nat) (x : ChanState) : (s.setChanSt c x).banks = s.banks := rfl
@[simp] theorem State.setChanSt_groups (s : State) (c : Nat) (x : ChanState) : (s.setChanSt c x).groups = s.groups := rfl
@[simp] theorem State.setChanSt_sluices (s : State) (c : Nat) (x : ChanState) : (s.setChanSt c x).sluices = s.sluices := rfl
@[simp] theorem State.setChanSt_hostBus (s : State) (c : Nat) (x : ChanState) : (s.setChanSt c x).hostBus = s.hostBus := rfl
@[simp] theorem State.setChanSt_lateBus (s : State) (c : Nat) (x : ChanState) : (s.setChanSt c x).lateBus = s.lateBus := rfl
@[simp] theorem State.setChanSt_hostOut (s : State) (c : Nat) (x : ChanState) : (s.setChanSt c x).hostOut = s.hostOut := rfl
@[simp] theorem State.setChanSt_qspi (s : State) (c : Nat) (x : ChanState) : (s.setChanSt c x).qspi = s.qspi := rfl
@[simp] theorem State.setChanSt_qspiReply (s : State) (c : Nat) (x : ChanState) : (s.setChanSt c x).qspiReply = s.qspiReply := rfl
@[simp] theorem State.setChanSt_i2cOut (s : State) (c : Nat) (x : ChanState) : (s.setChanSt c x).i2cOut = s.i2cOut := rfl
@[simp] theorem State.setChanSt_remoteOut (s : State) (c : Nat) (x : ChanState) : (s.setChanSt c x).remoteOut = s.remoteOut := rfl
@[simp] theorem State.setChanSt_latches (s : State) (c : Nat) (x : ChanState) : (s.setChanSt c x).latches = s.latches := rfl
@[simp] theorem State.setChanSt_replayDue (s : State) (c : Nat) (x : ChanState) : (s.setChanSt c x).replayDue = s.replayDue := rfl
@[simp] theorem State.setChanSt_jnlClearing (s : State) (c : Nat) (x : ChanState) : (s.setChanSt c x).jnlClearing = s.jnlClearing := rfl
@[simp] theorem State.setChanSt_spargeDue (s : State) (c : Nat) (x : ChanState) : (s.setChanSt c x).spargeDue = s.spargeDue := rfl
@[simp] theorem State.setChanSt_xbarFails (s : State) (c : Nat) (x : ChanState) : (s.setChanSt c x).xbarFails = s.xbarFails := rfl
@[simp] theorem State.setChanSt_memErrs (s : State) (c : Nat) (x : ChanState) : (s.setChanSt c x).memErrs = s.memErrs := rfl
@[simp] theorem State.setChanSt_badRead (s : State) (c : Nat) (x : ChanState) : (s.setChanSt c x).badRead = s.badRead := rfl
@[simp] theorem State.setChanSt_walkCe (s : State) (c : Nat) (x : ChanState) : (s.setChanSt c x).walkCe = s.walkCe := rfl
@[simp] theorem State.setChanSt_walkPasses (s : State) (c : Nat) (x : ChanState) : (s.setChanSt c x).walkPasses = s.walkPasses := rfl
@[simp] theorem State.setChanSt_walkLost (s : State) (c : Nat) (x : ChanState) : (s.setChanSt c x).walkLost = s.walkLost := rfl
@[simp] theorem State.setChanSt_walkLasting (s : State) (c : Nat) (x : ChanState) : (s.setChanSt c x).walkLasting = s.walkLasting := rfl
@[simp] theorem State.setChanSt_ingress (s : State) (c : Nat) (x : ChanState) : (s.setChanSt c x).ingress = s.ingress := rfl
@[simp] theorem State.setChanSt_egress (s : State) (c : Nat) (x : ChanState) : (s.setChanSt c x).egress = s.egress := rfl
@[simp] theorem State.setChanSt_routes (s : State) (c : Nat) (x : ChanState) : (s.setChanSt c x).routes = s.routes := rfl
@[simp] theorem State.setChanSt_hgs (s : State) (c : Nat) (x : ChanState) : (s.setChanSt c x).hgs = s.hgs := rfl
@[simp] theorem State.setChanSt_hgRamps (s : State) (c : Nat) (x : ChanState) : (s.setChanSt c x).hgRamps = s.hgRamps := rfl
@[simp] theorem State.setChanSt_sent (s : State) (c : Nat) (x : ChanState) : (s.setChanSt c x).sent = s.sent := rfl
@[simp] theorem State.setChanSt_sealTx (s : State) (c : Nat) (x : ChanState) : (s.setChanSt c x).sealTx = s.sealTx := rfl
@[simp] theorem State.setChanSt_ports (s : State) (c : Nat) (x : ChanState) : (s.setChanSt c x).ports = s.ports := rfl
@[simp] theorem State.setChanSt_links (s : State) (c : Nat) (x : ChanState) : (s.setChanSt c x).links = s.links := rfl
@[simp] theorem State.setChanSt_linkBegun (s : State) (c : Nat) (x : ChanState) : (s.setChanSt c x).linkBegun = s.linkBegun := rfl
@[simp] theorem State.setChanSt_bcSeen (s : State) (c : Nat) (x : ChanState) : (s.setChanSt c x).bcSeen = s.bcSeen := rfl
@[simp] theorem State.setChanSt_bcSeq (s : State) (c : Nat) (x : ChanState) : (s.setChanSt c x).bcSeq = s.bcSeq := rfl
@[simp] theorem State.setChanSt_wakeSent (s : State) (c : Nat) (x : ChanState) : (s.setChanSt c x).wakeSent = s.wakeSent := rfl
@[simp] theorem State.setChanSt_wakeNamed (s : State) (c : Nat) (x : ChanState) : (s.setChanSt c x).wakeNamed = s.wakeNamed := rfl
@[simp] theorem State.setChanSt_unwrapAt (s : State) (c : Nat) (x : ChanState) : (s.setChanSt c x).unwrapAt = s.unwrapAt := rfl
@[simp] theorem State.setChanSt_tunMsgs (s : State) (c : Nat) (x : ChanState) : (s.setChanSt c x).tunMsgs = s.tunMsgs := rfl
@[simp] theorem State.setChanSt_linkTheta (s : State) (c : Nat) (x : ChanState) : (s.setChanSt c x).linkTheta = s.linkTheta := rfl
@[simp] theorem State.setChanSt_linkThetas (s : State) (c : Nat) (x : ChanState) : (s.setChanSt c x).linkThetas = s.linkThetas := rfl
@[simp] theorem State.setChanSt_bce (s : State) (c : Nat) (x : ChanState) : (s.setChanSt c x).bce = s.bce := rfl
@[simp] theorem State.setChanSt_probe (s : State) (c : Nat) (x : ChanState) : (s.setChanSt c x).probe = s.probe := rfl
@[simp] theorem State.setChanSt_time (s : State) (c : Nat) (x : ChanState) : (s.setChanSt c x).time = s.time := rfl
@[simp] theorem State.setChanSt_ptp (s : State) (c : Nat) (x : ChanState) : (s.setChanSt c x).ptp = s.ptp := rfl
@[simp] theorem State.setChanSt_plls (s : State) (c : Nat) (x : ChanState) : (s.setChanSt c x).plls = s.plls := rfl
@[simp] theorem State.setChanSt_monitors (s : State) (c : Nat) (x : ChanState) : (s.setChanSt c x).monitors = s.monitors := rfl
@[simp] theorem State.setChanSt_sysAttempts (s : State) (c : Nat) (x : ChanState) : (s.setChanSt c x).sysAttempts = s.sysAttempts := rfl
@[simp] theorem State.setChanSt_sps (s : State) (c : Nat) (x : ChanState) : (s.setChanSt c x).sps = s.sps := rfl
@[simp] theorem State.setChanSt_refStopped (s : State) (c : Nat) (x : ChanState) : (s.setChanSt c x).refStopped = s.refStopped := rfl
@[simp] theorem State.setChanSt_ptpClass (s : State) (c : Nat) (x : ChanState) : (s.setChanSt c x).ptpClass = s.ptpClass := rfl
@[simp] theorem State.setChanSt_lanes (s : State) (c : Nat) (x : ChanState) : (s.setChanSt c x).lanes = s.lanes := rfl
@[simp] theorem State.setChanSt_rxs (s : State) (c : Nat) (x : ChanState) : (s.setChanSt c x).rxs = s.rxs := rfl
@[simp] theorem State.setChanSt_txs (s : State) (c : Nat) (x : ChanState) : (s.setChanSt c x).txs = s.txs := rfl
@[simp] theorem State.setChanSt_netOut (s : State) (c : Nat) (x : ChanState) : (s.setChanSt c x).netOut = s.netOut := rfl
@[simp] theorem State.setChanSt_cc (s : State) (c : Nat) (x : ChanState) : (s.setChanSt c x).cc = s.cc := rfl
@[simp] theorem State.setChanSt_mbx (s : State) (c : Nat) (x : ChanState) : (s.setChanSt c x).mbx = s.mbx := rfl
@[simp] theorem State.setChanSt_tunnel (s : State) (c : Nat) (x : ChanState) : (s.setChanSt c x).tunnel = s.tunnel := rfl
@[simp] theorem State.setChanSt_update (s : State) (c : Nat) (x : ChanState) : (s.setChanSt c x).update = s.update := rfl
@[simp] theorem State.setChanSt_sec (s : State) (c : Nat) (x : ChanState) : (s.setChanSt c x).sec = s.sec := rfl
@[simp] theorem State.setChanSt_fuseEpoch (s : State) (c : Nat) (x : ChanState) : (s.setChanSt c x).fuseEpoch = s.fuseEpoch := rfl
@[simp] theorem State.setChanSt_fuseRevoke (s : State) (c : Nat) (x : ChanState) : (s.setChanSt c x).fuseRevoke = s.fuseRevoke := rfl
@[simp] theorem State.setChanSt_flash (s : State) (c : Nat) (x : ChanState) : (s.setChanSt c x).flash = s.flash := rfl
@[simp] theorem State.setChanSt_loader (s : State) (c : Nat) (x : ChanState) : (s.setChanSt c x).loader = s.loader := rfl
@[simp] theorem State.setChanSt_power (s : State) (c : Nat) (x : ChanState) : (s.setChanSt c x).power = s.power := rfl
@[simp] theorem State.setChanSt_coarse (s : State) (c : Nat) (x : ChanState) : (s.setChanSt c x).coarse = s.coarse := rfl
@[simp] theorem State.setChanSt_tim (s : State) (c : Nat) (x : ChanState) : (s.setChanSt c x).tim = s.tim := rfl
@[simp] theorem State.setChanSt_aonLog (s : State) (c : Nat) (x : ChanState) : (s.setChanSt c x).aonLog = s.aonLog := rfl
@[simp] theorem State.setChanSt_logPending (s : State) (c : Nat) (x : ChanState) : (s.setChanSt c x).logPending = s.logPending := rfl
@[simp] theorem State.setChanSt_evtLogged (s : State) (c : Nat) (x : ChanState) : (s.setChanSt c x).evtLogged = s.evtLogged := rfl

/-! ## Events -/

/-- `t` is `s` but for event and log registers, the log and the record of logged events. -/
def State.EvOnly (s t : State) : Prop :=
  ∃ r a p l, t = { s with regs := r, aonLog := a, logPending := p, evtLogged := l }

theorem State.EvOnly.refl (s : State) : s.EvOnly s := ⟨_, _, _, _, rfl⟩

theorem State.EvOnly.trans {s t u : State} (h : s.EvOnly t) (k : t.EvOnly u) : s.EvOnly u := by
  obtain ⟨_, _, _, _, rfl⟩ := h
  obtain ⟨_, _, _, _, rfl⟩ := k
  exact ⟨_, _, _, _, rfl⟩

theorem State.put_evOnly (s : State) (f : Field) (i v : Nat) : s.EvOnly (s.put f i v) := ⟨_, _, _, _, rfl⟩

theorem State.logPush_evOnly (s : State) (k c a : Nat) : s.EvOnly (s.logPush k c a) := ⟨_, _, _, _, rfl⟩

theorem State.pend_evOnly (s : State) (e : Nat) : s.EvOnly (s.pend e) := (s.put_evOnly _ _ _).trans (State.put_evOnly _ _ _ _)

theorem State.logAppend_evOnly (s : State) (k c a : Nat) : s.EvOnly (s.logAppend k c a) := by
  unfold State.logAppend
  dsimp only
  split
  · split
    · exact ((s.logPush_evOnly k c a).trans ((State.put_evOnly _ _ _ _).trans (State.pend_evOnly _ _))).trans (State.logPush_evOnly _ _ _ _)
    · exact (s.logPush_evOnly k c a).trans ((State.put_evOnly _ _ _ _).trans (State.pend_evOnly _ _))
  · exact s.logPush_evOnly k c a

/-- Raising an event writes event and log registers, the log and the record of logged events, and nothing else (20 R774, R777). -/
theorem State.raiseWith_evOnly (s : State) (e : Nat) (b : Bool) : s.EvOnly (s.raiseWith e b) := by
  have h : ∀ a, s.EvOnly (((s.pend e).noteLogged e).logAppend 0x01 e a) := fun _ =>
    (s.pend_evOnly e).trans ((show (s.pend e).EvOnly ((s.pend e).noteLogged e) from ⟨_, _, _, _, rfl⟩).trans (State.logAppend_evOnly _ _ _ _))
  unfold State.raiseWith
  dsimp only
  repeat' split
  all_goals first | exact h _ | exact s.pend_evOnly e | exact State.EvOnly.refl s

theorem State.raise_evOnly (s : State) (e : Nat) : s.EvOnly (s.raise e) := s.raiseWith_evOnly e false


@[simp] theorem State.raise_pending (s : State) (e : Nat) : (s.raise e).pending = s.pending := by
  obtain ⟨_, _, _, _, h⟩ := s.raise_evOnly e; rw [h]
@[simp] theorem State.raise_cycles (s : State) (e : Nat) : (s.raise e).cycles = s.cycles := by
  obtain ⟨_, _, _, _, h⟩ := s.raise_evOnly e; rw [h]
@[simp] theorem State.raise_free (s : State) (e : Nat) : (s.raise e).free = s.free := by
  obtain ⟨_, _, _, _, h⟩ := s.raise_evOnly e; rw [h]
@[simp] theorem State.raise_cores (s : State) (e : Nat) : (s.raise e).cores = s.cores := by
  obtain ⟨_, _, _, _, h⟩ := s.raise_evOnly e; rw [h]
@[simp] theorem State.raise_banks (s : State) (e : Nat) : (s.raise e).banks = s.banks := by
  obtain ⟨_, _, _, _, h⟩ := s.raise_evOnly e; rw [h]
@[simp] theorem State.raise_groups (s : State) (e : Nat) : (s.raise e).groups = s.groups := by
  obtain ⟨_, _, _, _, h⟩ := s.raise_evOnly e; rw [h]
@[simp] theorem State.raise_sluices (s : State) (e : Nat) : (s.raise e).sluices = s.sluices := by
  obtain ⟨_, _, _, _, h⟩ := s.raise_evOnly e; rw [h]
@[simp] theorem State.raise_hostBus (s : State) (e : Nat) : (s.raise e).hostBus = s.hostBus := by
  obtain ⟨_, _, _, _, h⟩ := s.raise_evOnly e; rw [h]
@[simp] theorem State.raise_lateBus (s : State) (e : Nat) : (s.raise e).lateBus = s.lateBus := by
  obtain ⟨_, _, _, _, h⟩ := s.raise_evOnly e; rw [h]
@[simp] theorem State.raise_hostOut (s : State) (e : Nat) : (s.raise e).hostOut = s.hostOut := by
  obtain ⟨_, _, _, _, h⟩ := s.raise_evOnly e; rw [h]
@[simp] theorem State.raise_qspi (s : State) (e : Nat) : (s.raise e).qspi = s.qspi := by
  obtain ⟨_, _, _, _, h⟩ := s.raise_evOnly e; rw [h]
@[simp] theorem State.raise_qspiReply (s : State) (e : Nat) : (s.raise e).qspiReply = s.qspiReply := by
  obtain ⟨_, _, _, _, h⟩ := s.raise_evOnly e; rw [h]
@[simp] theorem State.raise_i2cOut (s : State) (e : Nat) : (s.raise e).i2cOut = s.i2cOut := by
  obtain ⟨_, _, _, _, h⟩ := s.raise_evOnly e; rw [h]
@[simp] theorem State.raise_remoteOut (s : State) (e : Nat) : (s.raise e).remoteOut = s.remoteOut := by
  obtain ⟨_, _, _, _, h⟩ := s.raise_evOnly e; rw [h]
@[simp] theorem State.raise_latches (s : State) (e : Nat) : (s.raise e).latches = s.latches := by
  obtain ⟨_, _, _, _, h⟩ := s.raise_evOnly e; rw [h]
@[simp] theorem State.raise_replayDue (s : State) (e : Nat) : (s.raise e).replayDue = s.replayDue := by
  obtain ⟨_, _, _, _, h⟩ := s.raise_evOnly e; rw [h]
@[simp] theorem State.raise_jnlClearing (s : State) (e : Nat) : (s.raise e).jnlClearing = s.jnlClearing := by
  obtain ⟨_, _, _, _, h⟩ := s.raise_evOnly e; rw [h]
@[simp] theorem State.raise_spargeDue (s : State) (e : Nat) : (s.raise e).spargeDue = s.spargeDue := by
  obtain ⟨_, _, _, _, h⟩ := s.raise_evOnly e; rw [h]
@[simp] theorem State.raise_xbarFails (s : State) (e : Nat) : (s.raise e).xbarFails = s.xbarFails := by
  obtain ⟨_, _, _, _, h⟩ := s.raise_evOnly e; rw [h]
@[simp] theorem State.raise_memErrs (s : State) (e : Nat) : (s.raise e).memErrs = s.memErrs := by
  obtain ⟨_, _, _, _, h⟩ := s.raise_evOnly e; rw [h]
@[simp] theorem State.raise_badRead (s : State) (e : Nat) : (s.raise e).badRead = s.badRead := by
  obtain ⟨_, _, _, _, h⟩ := s.raise_evOnly e; rw [h]
@[simp] theorem State.raise_walkCe (s : State) (e : Nat) : (s.raise e).walkCe = s.walkCe := by
  obtain ⟨_, _, _, _, h⟩ := s.raise_evOnly e; rw [h]
@[simp] theorem State.raise_walkPasses (s : State) (e : Nat) : (s.raise e).walkPasses = s.walkPasses := by
  obtain ⟨_, _, _, _, h⟩ := s.raise_evOnly e; rw [h]
@[simp] theorem State.raise_walkLost (s : State) (e : Nat) : (s.raise e).walkLost = s.walkLost := by
  obtain ⟨_, _, _, _, h⟩ := s.raise_evOnly e; rw [h]
@[simp] theorem State.raise_walkLasting (s : State) (e : Nat) : (s.raise e).walkLasting = s.walkLasting := by
  obtain ⟨_, _, _, _, h⟩ := s.raise_evOnly e; rw [h]
@[simp] theorem State.raise_ingress (s : State) (e : Nat) : (s.raise e).ingress = s.ingress := by
  obtain ⟨_, _, _, _, h⟩ := s.raise_evOnly e; rw [h]
@[simp] theorem State.raise_egress (s : State) (e : Nat) : (s.raise e).egress = s.egress := by
  obtain ⟨_, _, _, _, h⟩ := s.raise_evOnly e; rw [h]
@[simp] theorem State.raise_routes (s : State) (e : Nat) : (s.raise e).routes = s.routes := by
  obtain ⟨_, _, _, _, h⟩ := s.raise_evOnly e; rw [h]
@[simp] theorem State.raise_chans (s : State) (e : Nat) : (s.raise e).chans = s.chans := by
  obtain ⟨_, _, _, _, h⟩ := s.raise_evOnly e; rw [h]
@[simp] theorem State.raise_hgs (s : State) (e : Nat) : (s.raise e).hgs = s.hgs := by
  obtain ⟨_, _, _, _, h⟩ := s.raise_evOnly e; rw [h]
@[simp] theorem State.raise_hgRamps (s : State) (e : Nat) : (s.raise e).hgRamps = s.hgRamps := by
  obtain ⟨_, _, _, _, h⟩ := s.raise_evOnly e; rw [h]
@[simp] theorem State.raise_sent (s : State) (e : Nat) : (s.raise e).sent = s.sent := by
  obtain ⟨_, _, _, _, h⟩ := s.raise_evOnly e; rw [h]
@[simp] theorem State.raise_sealTx (s : State) (e : Nat) : (s.raise e).sealTx = s.sealTx := by
  obtain ⟨_, _, _, _, h⟩ := s.raise_evOnly e; rw [h]
@[simp] theorem State.raise_ports (s : State) (e : Nat) : (s.raise e).ports = s.ports := by
  obtain ⟨_, _, _, _, h⟩ := s.raise_evOnly e; rw [h]
@[simp] theorem State.raise_links (s : State) (e : Nat) : (s.raise e).links = s.links := by
  obtain ⟨_, _, _, _, h⟩ := s.raise_evOnly e; rw [h]
@[simp] theorem State.raise_linkBegun (s : State) (e : Nat) : (s.raise e).linkBegun = s.linkBegun := by
  obtain ⟨_, _, _, _, h⟩ := s.raise_evOnly e; rw [h]
@[simp] theorem State.raise_bcSeen (s : State) (e : Nat) : (s.raise e).bcSeen = s.bcSeen := by
  obtain ⟨_, _, _, _, h⟩ := s.raise_evOnly e; rw [h]
@[simp] theorem State.raise_bcSeq (s : State) (e : Nat) : (s.raise e).bcSeq = s.bcSeq := by
  obtain ⟨_, _, _, _, h⟩ := s.raise_evOnly e; rw [h]
@[simp] theorem State.raise_wakeSent (s : State) (e : Nat) : (s.raise e).wakeSent = s.wakeSent := by
  obtain ⟨_, _, _, _, h⟩ := s.raise_evOnly e; rw [h]
@[simp] theorem State.raise_wakeNamed (s : State) (e : Nat) : (s.raise e).wakeNamed = s.wakeNamed := by
  obtain ⟨_, _, _, _, h⟩ := s.raise_evOnly e; rw [h]
@[simp] theorem State.raise_unwrapAt (s : State) (e : Nat) : (s.raise e).unwrapAt = s.unwrapAt := by
  obtain ⟨_, _, _, _, h⟩ := s.raise_evOnly e; rw [h]
@[simp] theorem State.raise_tunMsgs (s : State) (e : Nat) : (s.raise e).tunMsgs = s.tunMsgs := by
  obtain ⟨_, _, _, _, h⟩ := s.raise_evOnly e; rw [h]
@[simp] theorem State.raise_linkTheta (s : State) (e : Nat) : (s.raise e).linkTheta = s.linkTheta := by
  obtain ⟨_, _, _, _, h⟩ := s.raise_evOnly e; rw [h]
@[simp] theorem State.raise_linkThetas (s : State) (e : Nat) : (s.raise e).linkThetas = s.linkThetas := by
  obtain ⟨_, _, _, _, h⟩ := s.raise_evOnly e; rw [h]
@[simp] theorem State.raise_bce (s : State) (e : Nat) : (s.raise e).bce = s.bce := by
  obtain ⟨_, _, _, _, h⟩ := s.raise_evOnly e; rw [h]
@[simp] theorem State.raise_probe (s : State) (e : Nat) : (s.raise e).probe = s.probe := by
  obtain ⟨_, _, _, _, h⟩ := s.raise_evOnly e; rw [h]
@[simp] theorem State.raise_time (s : State) (e : Nat) : (s.raise e).time = s.time := by
  obtain ⟨_, _, _, _, h⟩ := s.raise_evOnly e; rw [h]
@[simp] theorem State.raise_ptp (s : State) (e : Nat) : (s.raise e).ptp = s.ptp := by
  obtain ⟨_, _, _, _, h⟩ := s.raise_evOnly e; rw [h]
@[simp] theorem State.raise_plls (s : State) (e : Nat) : (s.raise e).plls = s.plls := by
  obtain ⟨_, _, _, _, h⟩ := s.raise_evOnly e; rw [h]
@[simp] theorem State.raise_monitors (s : State) (e : Nat) : (s.raise e).monitors = s.monitors := by
  obtain ⟨_, _, _, _, h⟩ := s.raise_evOnly e; rw [h]
@[simp] theorem State.raise_sysAttempts (s : State) (e : Nat) : (s.raise e).sysAttempts = s.sysAttempts := by
  obtain ⟨_, _, _, _, h⟩ := s.raise_evOnly e; rw [h]
@[simp] theorem State.raise_sps (s : State) (e : Nat) : (s.raise e).sps = s.sps := by
  obtain ⟨_, _, _, _, h⟩ := s.raise_evOnly e; rw [h]
@[simp] theorem State.raise_refStopped (s : State) (e : Nat) : (s.raise e).refStopped = s.refStopped := by
  obtain ⟨_, _, _, _, h⟩ := s.raise_evOnly e; rw [h]
@[simp] theorem State.raise_ptpClass (s : State) (e : Nat) : (s.raise e).ptpClass = s.ptpClass := by
  obtain ⟨_, _, _, _, h⟩ := s.raise_evOnly e; rw [h]
@[simp] theorem State.raise_lanes (s : State) (e : Nat) : (s.raise e).lanes = s.lanes := by
  obtain ⟨_, _, _, _, h⟩ := s.raise_evOnly e; rw [h]
@[simp] theorem State.raise_rxs (s : State) (e : Nat) : (s.raise e).rxs = s.rxs := by
  obtain ⟨_, _, _, _, h⟩ := s.raise_evOnly e; rw [h]
@[simp] theorem State.raise_txs (s : State) (e : Nat) : (s.raise e).txs = s.txs := by
  obtain ⟨_, _, _, _, h⟩ := s.raise_evOnly e; rw [h]
@[simp] theorem State.raise_netOut (s : State) (e : Nat) : (s.raise e).netOut = s.netOut := by
  obtain ⟨_, _, _, _, h⟩ := s.raise_evOnly e; rw [h]
@[simp] theorem State.raise_cc (s : State) (e : Nat) : (s.raise e).cc = s.cc := by
  obtain ⟨_, _, _, _, h⟩ := s.raise_evOnly e; rw [h]
@[simp] theorem State.raise_mbx (s : State) (e : Nat) : (s.raise e).mbx = s.mbx := by
  obtain ⟨_, _, _, _, h⟩ := s.raise_evOnly e; rw [h]
@[simp] theorem State.raise_tunnel (s : State) (e : Nat) : (s.raise e).tunnel = s.tunnel := by
  obtain ⟨_, _, _, _, h⟩ := s.raise_evOnly e; rw [h]
@[simp] theorem State.raise_update (s : State) (e : Nat) : (s.raise e).update = s.update := by
  obtain ⟨_, _, _, _, h⟩ := s.raise_evOnly e; rw [h]
@[simp] theorem State.raise_sec (s : State) (e : Nat) : (s.raise e).sec = s.sec := by
  obtain ⟨_, _, _, _, h⟩ := s.raise_evOnly e; rw [h]
@[simp] theorem State.raise_fuseEpoch (s : State) (e : Nat) : (s.raise e).fuseEpoch = s.fuseEpoch := by
  obtain ⟨_, _, _, _, h⟩ := s.raise_evOnly e; rw [h]
@[simp] theorem State.raise_fuseRevoke (s : State) (e : Nat) : (s.raise e).fuseRevoke = s.fuseRevoke := by
  obtain ⟨_, _, _, _, h⟩ := s.raise_evOnly e; rw [h]
@[simp] theorem State.raise_flash (s : State) (e : Nat) : (s.raise e).flash = s.flash := by
  obtain ⟨_, _, _, _, h⟩ := s.raise_evOnly e; rw [h]
@[simp] theorem State.raise_loader (s : State) (e : Nat) : (s.raise e).loader = s.loader := by
  obtain ⟨_, _, _, _, h⟩ := s.raise_evOnly e; rw [h]
@[simp] theorem State.raise_power (s : State) (e : Nat) : (s.raise e).power = s.power := by
  obtain ⟨_, _, _, _, h⟩ := s.raise_evOnly e; rw [h]
@[simp] theorem State.raise_coarse (s : State) (e : Nat) : (s.raise e).coarse = s.coarse := by
  obtain ⟨_, _, _, _, h⟩ := s.raise_evOnly e; rw [h]
@[simp] theorem State.raise_tim (s : State) (e : Nat) : (s.raise e).tim = s.tim := by
  obtain ⟨_, _, _, _, h⟩ := s.raise_evOnly e; rw [h]

end Sys2Proof.Machine
end

