-- ==== Sys2Proof/Laws/Memory.lean ====
section
/-!
SUPPORT. Laws of tables, memories and register fields: what is read after a write, and that every operation keeps the canonical form.
-/

namespace Sys2Proof.Machine

open Sys2Proof

/-! ## Tables -/

@[simp] theorem tabGet_tabSet_same {α : Type} (k : Nat) (v : α) (t : Tab α) : tabGet? k (tabSet k v t) = some v := by
  induction t with
  | nil => simp [tabSet, tabGet?]
  | cons h t ih =>
    obtain ⟨k', v'⟩ := h
    unfold tabSet
    split
    · simp [tabGet?]
    · split
      · simp [tabGet?]
      · unfold tabGet?; simp_all

theorem tabGet_tabSet_other {α : Type} {j k : Nat} (h : j ≠ k) (v : α) (t : Tab α) : tabGet? j (tabSet k v t) = tabGet? j t := by
  induction t with
  | nil => simp [tabSet, tabGet?, h]
  | cons x t ih =>
    obtain ⟨k', v'⟩ := x
    unfold tabSet
    split
    · next e => subst e; simp [tabGet?, h]
    · split
      · next n l =>
        unfold tabGet?
        rw [if_neg h]
        split
        · next l' => rw [if_neg (by omega), if_pos (by omega)]
        · rfl
      · unfold tabGet?; rw [ih]

/-- Keys of a well-formed table's tail lie above its first key. -/
theorem tabWf_tail {α : Type} {x : Nat × α} {t : Tab α} (h : tabWf (x :: t) = true) : tabWf t = true := by
  obtain ⟨a, v⟩ := x
  cases t with
  | nil => rfl
  | cons y t => obtain ⟨b, w⟩ := y; simp [tabWf] at h; exact h.2

/-- Every key of the table lies above `k`. -/
def Above {α : Type} (k : Nat) (t : Tab α) : Prop := ∀ p ∈ t, k < p.1

theorem tabWf_cons_iff {α : Type} (a : Nat) (v : α) (t : Tab α) : tabWf ((a, v) :: t) = true ↔ tabWf t = true ∧ Above a t := by
  induction t generalizing a v with
  | nil => simp [tabWf, Above]
  | cons y t ih =>
    obtain ⟨b, w⟩ := y
    have e : tabWf ((a, v) :: (b, w) :: t) = (decide (a < b) && tabWf ((b, w) :: t)) := rfl
    rw [e, Bool.and_eq_true, decide_eq_true_eq]
    constructor
    · rintro ⟨h, k⟩
      refine ⟨k, fun p hp => ?_⟩
      rcases List.mem_cons.1 hp with rfl | hp
      · exact h
      · exact Nat.lt_trans h (((ih b w).1 k).2 p hp)
    · rintro ⟨h, k⟩
      exact ⟨k (b, w) (by simp), h⟩

theorem tabGet_above {α : Type} {k : Nat} {t : Tab α} (h : Above k t) : tabGet? k t = none := by
  cases t with
  | nil => rfl
  | cons y t =>
    obtain ⟨b, w⟩ := y
    have : k < b := h (b, w) (by simp)
    unfold tabGet?
    rw [if_neg (by omega), if_pos this]

theorem above_tabSet {α : Type} {a k : Nat} {t : Tab α} (v : α) (h : Above a t) (l : a < k) : Above a (tabSet k v t) := by
  induction t with
  | nil => intro p hp; simp [tabSet] at hp; subst hp; exact l
  | cons y t ih =>
    obtain ⟨b, w⟩ := y
    have hb : a < b := h (b, w) (by simp)
    have ht : Above a t := fun p hp => h p (by simp [hp])
    unfold tabSet
    split
    · intro p hp; rcases List.mem_cons.1 hp with rfl | hp
      · exact l
      · exact ht p hp
    · split
      · intro p hp; rcases List.mem_cons.1 hp with rfl | hp
        · exact l
        · exact h p hp
      · intro p hp; rcases List.mem_cons.1 hp with rfl | hp
        · exact hb
        · exact ih ht p hp

/-- Putting an entry keeps the keys strictly rising. -/
theorem tabSet_wf {α : Type} (k : Nat) (v : α) (t : Tab α) (h : tabWf t = true) : tabWf (tabSet k v t) = true := by
  induction t with
  | nil => rfl
  | cons y t ih =>
    obtain ⟨b, w⟩ := y
    have ht := (tabWf_cons_iff b w t).1 h
    unfold tabSet
    split
    · next e => subst e; exact (tabWf_cons_iff k v t).2 ht
    · split
      · next l =>
        refine (tabWf_cons_iff k v _).2 ⟨h, fun p hp => ?_⟩
        rcases List.mem_cons.1 hp with rfl | hp
        · exact l
        · exact Nat.lt_trans l (ht.2 p hp)
      · exact (tabWf_cons_iff b w _).2 ⟨ih ht.1, above_tabSet v ht.2 (by omega)⟩

theorem mem_tabErase {α : Type} {k : Nat} {t : Tab α} {p : Nat × α} (h : p ∈ tabErase k t) : p ∈ t := by
  induction t with
  | nil => simp [tabErase] at h
  | cons y t ih =>
    obtain ⟨b, w⟩ := y
    unfold tabErase at h
    split at h
    · exact List.mem_cons_of_mem _ h
    · split at h
      · exact h
      · rcases List.mem_cons.1 h with rfl | h
        · simp
        · exact List.mem_cons_of_mem _ (ih h)

/-- Taking an entry out keeps the keys strictly rising. -/
theorem tabErase_wf {α : Type} (k : Nat) (t : Tab α) (h : tabWf t = true) : tabWf (tabErase k t) = true := by
  induction t with
  | nil => rfl
  | cons y t ih =>
    obtain ⟨b, w⟩ := y
    have ht := (tabWf_cons_iff b w t).1 h
    unfold tabErase
    split
    · exact ht.1
    · split
      · exact h
      · exact (tabWf_cons_iff b w _).2 ⟨ih ht.1, fun p hp => ht.2 p (mem_tabErase hp)⟩

theorem tabGet_tabErase_same {α : Type} (k : Nat) (t : Tab α) (h : tabWf t = true) : tabGet? k (tabErase k t) = none := by
  induction t with
  | nil => rfl
  | cons y t ih =>
    obtain ⟨b, w⟩ := y
    have ht := (tabWf_cons_iff b w t).1 h
    unfold tabErase
    split
    · next e => subst e; exact tabGet_above ht.2
    · split
      · next n l => unfold tabGet?; rw [if_neg n, if_pos l]
      · next n l => unfold tabGet?; rw [if_neg n, if_neg l]; exact ih ht.1

theorem tabGet_tabErase_other {α : Type} {j k : Nat} (hj : j ≠ k) (t : Tab α) (h : tabWf t = true) :
    tabGet? j (tabErase k t) = tabGet? j t := by
  induction t with
  | nil => rfl
  | cons y t ih =>
    obtain ⟨b, w⟩ := y
    have ht := (tabWf_cons_iff b w t).1 h
    unfold tabErase
    split
    · next e =>
      subst e
      conv => rhs; unfold tabGet?
      rw [if_neg hj]
      split
      · next l => exact tabGet_above fun p hp => Nat.lt_trans l (ht.2 p hp)
      · rfl
    · split
      · rfl
      · unfold tabGet?; rw [ih ht.1]

/-! ## Memories -/

theorem memWf_iff (d : Byte) (m : Mem) : memWf d m = true ↔ tabWf m = true ∧ ∀ p ∈ m, p.2 ≠ d := by
  simp [memWf]

theorem mem_tabSet {α : Type} {k : Nat} {v : α} {t : Tab α} {p : Nat × α} (h : p ∈ tabSet k v t) : p = (k, v) ∨ p ∈ t := by
  induction t with
  | nil => simp [tabSet] at h; exact .inl h
  | cons y t ih =>
    obtain ⟨b, w⟩ := y
    unfold tabSet at h
    split at h
    · rcases List.mem_cons.1 h with h | h
      · exact .inl h
      · exact .inr (List.mem_cons_of_mem _ h)
    · split at h
      · rcases List.mem_cons.1 h with h | h
        · exact .inl h
        · exact .inr h
      · rcases List.mem_cons.1 h with h | h
        · exact .inr (by simp [h])
        · rcases ih h with h | h
          · exact .inl h
          · exact .inr (List.mem_cons_of_mem _ h)

/-- Writing a byte keeps the canonical form. -/
theorem memPut_wf (d : Byte) (m : Mem) (a : Nat) (v : Byte) (h : memWf d m = true) : memWf d (memPut d m a v) = true := by
  have hm := (memWf_iff d m).1 h
  unfold memPut
  split
  · exact (memWf_iff _ _).2 ⟨tabErase_wf _ _ hm.1, fun p hp => hm.2 p (mem_tabErase hp)⟩
  · next n =>
    refine (memWf_iff _ _).2 ⟨tabSet_wf _ _ _ hm.1, fun p hp => ?_⟩
    rcases mem_tabSet hp with rfl | hp
    · exact n
    · exact hm.2 p hp

/-- A byte reads as it was last written. -/
theorem memByte_memPut_same (d : Byte) (m : Mem) (a : Nat) (v : Byte) (h : memWf d m = true) : memByte d (memPut d m a v) a = v := by
  have hm := (memWf_iff d m).1 h
  unfold memByte memPut tabGet
  split
  · next e => rw [tabGet_tabErase_same _ _ hm.1]; simp [e]
  · simp

/-- Another byte reads as before. -/
theorem memByte_memPut_other (d : Byte) (m : Mem) {a b : Nat} (v : Byte) (n : b ≠ a) (h : memWf d m = true) :
    memByte d (memPut d m a v) b = memByte d m b := by
  have hm := (memWf_iff d m).1 h
  unfold memByte memPut tabGet
  split
  · rw [tabGet_tabErase_other n _ hm.1]
  · rw [tabGet_tabSet_other n]

/-- Writing a word keeps the canonical form. -/
theorem memSetWordD_wf (d : Byte) (m : Mem) (w : Nat) (v : Word) (h : memWf d m = true) : memWf d (memSetWordD d m w v) = true := by
  unfold memSetWordD
  exact memPut_wf _ _ _ _ (memPut_wf _ _ _ _ (memPut_wf _ _ _ _ (memPut_wf _ _ _ _ h)))

theorem memSetWord_wf (m : Mem) (w : Nat) (v : Word) (h : memWf 0 m = true) : memWf 0 (memSetWord m w v) = true :=
  memSetWordD_wf 0 m w v h

theorem memSetWords_wf (m : Mem) (w : Nat) (l : List Word) (h : memWf 0 m = true) : memWf 0 (memSetWords m w l) = true := by
  induction l generalizing m w with
  | nil => exact h
  | cons v t ih => exact ih _ _ (memSetWord_wf m w v h)

theorem memWord_memSetWord_other (m : Mem) {w x : Nat} (v : Word) (n : x ≠ w) (h : memWf 0 m = true) :
    memWord (memSetWord m w v) x = memWord m x := by
  have h1 := memPut_wf 0 m (4 * w) (v.extractLsb' 0 8) h
  have h2 := memPut_wf 0 _ (4 * w + 1) (v.extractLsb' 8 8) h1
  have h3 := memPut_wf 0 _ (4 * w + 2) (v.extractLsb' 16 8) h2
  have key (b : Nat) (hb : b / 4 = x) : memByte 0 (memSetWord m w v) b = memByte 0 m b := by
    show memByte 0 (memSetWordD 0 m w v) b = _
    unfold memSetWordD
    rw [memByte_memPut_other 0 _ _ (by omega) h3, memByte_memPut_other 0 _ _ (by omega) h2,
      memByte_memPut_other 0 _ _ (by omega) h1, memByte_memPut_other 0 _ _ (by omega) h]
  show memWordD 0 (memSetWord m w v) x = memWordD 0 m x
  unfold memWordD
  rw [key _ (by omega), key _ (by omega), key _ (by omega), key _ (by omega)]

/-- The four bytes of a word make the word. -/
theorem bytes_word (v : Word) : v.extractLsb' 24 8 ++ v.extractLsb' 16 8 ++ v.extractLsb' 8 8 ++ v.extractLsb' 0 8 = v := by
  apply BitVec.eq_of_getLsbD_eq
  intro i hi
  simp only [BitVec.getLsbD_append, BitVec.getLsbD_extractLsb']
  by_cases h1 : i < 8
  · simp [h1]
  · by_cases h2 : i - 8 < 8
    · have e : 8 + (i - 8) = i := by omega
      simp [h1, h2, e]
    · by_cases h3 : i - 8 - 8 < 8
      · have e : 16 + (i - 8 - 8) = i := by omega
        simp [h1, h2, h3, e]
      · have e : 24 + (i - 8 - 8 - 8) = i := by omega
        have l : i - 8 - 8 - 8 < 8 := by omega
        simp [h1, h2, h3, e, l]

theorem memWord_memSetWord_same (m : Mem) (w : Nat) (v : Word) (h : memWf 0 m = true) : memWord (memSetWord m w v) w = v := by
  have h1 := memPut_wf 0 m (4 * w) (v.extractLsb' 0 8) h
  have h2 := memPut_wf 0 _ (4 * w + 1) (v.extractLsb' 8 8) h1
  have h3 := memPut_wf 0 _ (4 * w + 2) (v.extractLsb' 16 8) h2
  show memWordD 0 (memSetWordD 0 m w v) w = v
  unfold memWordD memSetWordD
  rw [memByte_memPut_same 0 _ _ _ h3, memByte_memPut_other 0 _ _ (by omega) h3, memByte_memPut_same 0 _ _ _ h2,
    memByte_memPut_other 0 _ _ (by omega) h3, memByte_memPut_other 0 _ _ (by omega) h2, memByte_memPut_same 0 _ _ _ h1,
    memByte_memPut_other 0 _ _ (by omega) h3, memByte_memPut_other 0 _ _ (by omega) h2,
    memByte_memPut_other 0 _ _ (by omega) h1, memByte_memPut_same 0 _ _ _ h]
  exact bytes_word v

/-! ## Register fields -/

@[simp] theorem reg_put_same (s : State) (f : Field) (i v : Nat) : (s.put f i v).reg f i = v % 2 ^ f.width := by
  simp [State.reg, State.put]

/-- A register field keeps its value when a field at another place is written. -/
theorem reg_put_other (s : State) {f g : Field} {i j : Nat} (v : Nat) (h : g.key j ≠ f.key i) : (s.put f i v).reg g j = s.reg g j := by
  simp [State.reg, State.put, tabGet_tabSet_other h]

theorem reg_of_regs {s t : State} (h : t.regs = s.regs) (f : Field) (i : Nat) : t.reg f i = s.reg f i := by
  simp [State.reg, h]

@[simp] theorem reg_setCore (s : State) (c : CoreId) (x : Core) (f : Field) (i : Nat) : (s.setCore c x).reg f i = s.reg f i := rfl
@[simp] theorem reg_setBank (s : State) (b : BankId) (x : Bank) (f : Field) (i : Nat) : (s.setBank b x).reg f i = s.reg f i := rfl
@[simp] theorem reg_setGroup (s : State) (g : GroupId) (x : Group) (f : Field) (i : Nat) : (s.setGroup g x).reg f i = s.reg f i := rfl
@[simp] theorem reg_setPort (s : State) (p : PortId) (x : Port) (f : Field) (i : Nat) : (s.setPort p x).reg f i = s.reg f i := rfl
@[simp] theorem reg_setChanSt (s : State) (c : Nat) (x : ChanState) (f : Field) (i : Nat) : (s.setChanSt c x).reg f i = s.reg f i := rfl

/-- The fields that raising an event may write: pending bits, counts, and LOST of the log (20 R774; 16 R693). -/
def Field.eventField (f : Field) (i : Nat) : Bool :=
  (List.range 4).any (fun w => f.key i == EVT_PEND.key w) || (List.range 128).any (fun e => f.key i == EVT_CNT.key e)
    || f.key i == MGT_LOG_STATUS_LOST.key 0

/-! ## Cores, banks and groups -/

@[simp] theorem core_setCore_same (s : State) (c : CoreId) (x : Core) : (s.setCore c x).core c = x := by
  simp [State.core, State.setCore]

theorem core_setCore_other (s : State) {c d : CoreId} (x : Core) (h : d ≠ c) : (s.setCore c x).core d = s.core d := by
  simp only [State.core, State.setCore, Fin.getElem_fin]
  exact Vector.getElem_set_ne _ _ fun e => h (Fin.ext e.symm)

@[simp] theorem bank_setBank_same (s : State) (b : BankId) (x : Bank) : (s.setBank b x).bank b = x := by
  simp [State.bank, State.setBank]

theorem bank_setBank_other (s : State) {b d : BankId} (x : Bank) (h : d ≠ b) : (s.setBank b x).bank d = s.bank d := by
  simp only [State.bank, State.setBank, Fin.getElem_fin]
  exact Vector.getElem_set_ne _ _ fun e => h (Fin.ext e.symm)

@[simp] theorem group_setGroup_same (s : State) (g : GroupId) (x : Group) : (s.setGroup g x).group g = x := by
  simp [State.group, State.setGroup]

theorem group_setGroup_other (s : State) {g h : GroupId} (x : Group) (n : h ≠ g) : (s.setGroup g x).group h = s.group h := by
  simp only [State.group, State.setGroup, Fin.getElem_fin]
  exact Vector.getElem_set_ne _ _ fun e => n (Fin.ext e.symm)

@[simp] theorem port_setPort_same (s : State) (p : PortId) (x : Port) : (s.setPort p x).port p = x := by
  simp [State.port, State.setPort]

@[simp] theorem core_put (s : State) (f : Field) (i v : Nat) (c : CoreId) : (s.put f i v).core c = s.core c := rfl
@[simp] theorem bank_put (s : State) (f : Field) (i v : Nat) (b : BankId) : (s.put f i v).bank b = s.bank b := rfl
@[simp] theorem group_put (s : State) (f : Field) (i v : Nat) (g : GroupId) : (s.put f i v).group g = s.group g := rfl
@[simp] theorem core_raise (s : State) (e : Nat) (c : CoreId) : (s.raise e).core c = s.core c := by simp [State.core]
@[simp] theorem bank_raise (s : State) (e : Nat) (b : BankId) : (s.raise e).bank b = s.bank b := by simp [State.bank]
@[simp] theorem group_raise (s : State) (e : Nat) (g : GroupId) : (s.raise e).group g = s.group g := by simp [State.group]

end Sys2Proof.Machine
end

