-- ==== Sys2Proof/Laws/Cores.lean ====
section
/-!
SUPPORT. Laws of results and reads by visibility, and of issuing an operation.
-/

namespace Sys2Proof.Machine

open Sys2Proof

/-! ## Results by visibility index (03 R120) -/

/-- What a read finds after one more result, issued last. -/
theorem latest_append {α : Type} (r j : Nat) (l : List (Res α)) (e : Res α) :
    latest? r j (l ++ [e]) =
      if e.reg = r ∧ e.vis ≤ j then
        match latest? r j l with
        | some (v, y) => if v ≤ e.vis then some (e.vis, e.val) else some (v, y)
        | none => some (e.vis, e.val)
      else latest? r j l := by
  induction l with
  | nil => simp [latest?]
  | cons x t ih =>
    simp only [List.cons_append, latest?, ih]
    by_cases he : e.reg = r ∧ e.vis ≤ j
    · simp only [he, and_self, if_true]
      by_cases hx : x.reg = r ∧ x.vis ≤ j
      · simp only [hx, and_self, if_true]
        cases h : latest? r j t with
        | none =>
          simp only
        | some p =>
          simp only
          by_cases h1 : p.1 ≤ e.vis <;> by_cases h2 : x.vis ≤ p.1 <;> by_cases h3 : x.vis ≤ e.vis <;> simp [h1, h2, h3] <;> omega
      · simp only [hx, if_false]
    · simp only [he, if_false]

/-- The index a read finds belongs to a result of that register, visible by then. -/
theorem latest_mem {α : Type} {r j v : Nat} {y : α} {l : List (Res α)} (h : latest? r j l = some (v, y)) :
    ∃ e ∈ l, e.reg = r ∧ e.vis = v ∧ e.vis ≤ j ∧ e.val = y := by
  induction l generalizing v y with
  | nil => simp [latest?] at h
  | cons x t ih =>
    simp only [latest?] at h
    split at h
    · rename_i hx
      split at h
      · rename_i w z hz
        split at h
        · cases h; obtain ⟨e, he, h2⟩ := ih hz; exact ⟨e, List.mem_cons_of_mem _ he, h2⟩
        · cases h; exact ⟨x, List.mem_cons_self, hx.1, rfl, hx.2, rfl⟩
      · cases h; exact ⟨x, List.mem_cons_self, hx.1, rfl, hx.2, rfl⟩
    · obtain ⟨e, he, h2⟩ := ih h; exact ⟨e, List.mem_cons_of_mem _ he, h2⟩

/-- One more result, issued last, is what `Adds` says. -/
theorem adds_append {α : Type} (l : List (Res α)) (r vis : Nat) (v : α) :
    Adds l (l ++ [{ reg := r, vis := vis, val := v }]) r vis v := by
  constructor
  · intro j start hj h
    simp only [readAt, latest_append, hj, and_self, if_true]
    cases hl : latest? r j l with
    | none => rfl
    | some p =>
      obtain ⟨e, he, hr, hv, hvj, -⟩ := latest_mem (v := p.1) (y := p.2) (by rw [hl])
      have := h e he hr
      have : p.1 ≤ vis := by omega
      simp [this]
  · intro q j start h
    have : ¬ (r = q ∧ vis ≤ j) := by omega
    simp only [readAt, latest_append, this, if_false]

/-- `addRes` gives what `Result` says. -/
theorem result_addRes {α : Type} (x : Sample) (l : List (Res α)) (r lam : Nat) (v : α) : Result x l (addRes x l r lam v) r lam v := by
  unfold Result addRes
  split
  · exact adds_append l r (x.pos + lam) v
  · rfl

/-! ## Accumulator results (03 R122) -/

theorem accFold_append (r j : Nat) (l m : List AccRes) (v : Acc) : accFold r j v (l ++ m) = accFold r j (accFold r j v l) m := by
  induction l generalizing v with
  | nil => rfl
  | cons e t ih => simp only [List.cons_append, accFold]; split <;> exact ih _

/-- In a sorted list a result stands after all that are visible by then and before the others. -/
theorem insertAcc_split (e : AccRes) (l : List AccRes) (h : accSorted l = true) :
    ∃ a b, l = a ++ b ∧ insertAcc e l = a ++ e :: b ∧ (∀ x ∈ a, x.vis ≤ e.vis) ∧ (∀ x ∈ b, e.vis < x.vis) := by
  induction l with
  | nil => exact ⟨[], [], rfl, rfl, by simp, by simp⟩
  | cons x t ih =>
    have ht : accSorted t = true := by cases t <;> simp_all [accSorted]
    simp only [insertAcc]
    split
    · rename_i hx
      refine ⟨[], x :: t, rfl, rfl, by simp, ?_⟩
      have key : ∀ (u : List AccRes) (y : AccRes), accSorted (y :: u) = true → e.vis < y.vis → ∀ z ∈ y :: u, e.vis < z.vis := by
        intro u
        induction u with
        | nil => intro y _ hy z hz; simp at hz; simpa [hz] using hy
        | cons w u ihu =>
          intro y hs hy z hz
          simp only [accSorted, Bool.and_eq_true, decide_eq_true_eq] at hs
          rcases List.mem_cons.mp hz with rfl | hz
          · exact hy
          · exact ihu w hs.2 (by omega) z hz
      exact key t x h hx
    · rename_i hx
      obtain ⟨a, b, h1, h2, h3, h4⟩ := ih ht
      refine ⟨x :: a, b, by rw [h1]; rfl, by rw [h2]; rfl, ?_, h4⟩
      intro y hy
      rcases List.mem_cons.mp hy with rfl | hy
      · omega
      · exact h3 y hy

theorem accFold_none (r j : Nat) (v : Acc) (l : List AccRes) (h : ∀ e ∈ l, ¬ (e.reg = r ∧ e.vis ≤ j)) : accFold r j v l = v := by
  induction l generalizing v with
  | nil => rfl
  | cons e t ih =>
    simp only [accFold, h e List.mem_cons_self, if_false]
    exact ih v fun x hx => h x (List.mem_cons_of_mem _ hx)

/-- Putting in a result keeps the order. -/
theorem insertAcc_sorted (e : AccRes) (l : List AccRes) (h : accSorted l = true) : accSorted (insertAcc e l) = true := by
  induction l with
  | nil => rfl
  | cons x t ih =>
    simp only [insertAcc]
    have ht : accSorted t = true := by cases t <;> simp_all [accSorted]
    split
    · simp [accSorted, h]; omega
    · have := ih ht
      cases t with
      | nil => simp [insertAcc, accSorted]; omega
      | cons y u =>
        simp only [insertAcc] at this ⊢
        simp only [accSorted, Bool.and_eq_true, decide_eq_true_eq] at h
        split
        · rename_i hz
          simp only [hz, if_true] at this
          simp only [accSorted, Bool.and_eq_true, decide_eq_true_eq] at this ⊢
          exact ⟨by omega, this⟩
        · rename_i hz
          simp only [hz, if_false] at this
          simp only [accSorted, Bool.and_eq_true, decide_eq_true_eq]
          exact ⟨h.1, this⟩

/-- Reads of an accumulator after a result has been put in. -/
theorem accRead_insert_at (l : List AccRes) (h : accSorted l = true) (e : AccRes) :
    accRead (insertAcc e l) e.reg e.vis = (accStep (accRead l e.reg e.vis) e).1 := by
  obtain ⟨a, b, h1, h2, h3, h4⟩ := insertAcc_split e l h
  have hb : ∀ z ∈ b, ¬ (z.reg = e.reg ∧ z.vis ≤ e.vis) := fun z hz => by have := h4 z hz; omega
  simp only [accRead, h2, accFold_append, accFold, and_self, if_true, Nat.le_refl]
  rw [accFold_none _ _ _ b hb, h1, accFold_append, accFold_none _ _ _ b hb]

theorem accRead_insert_other (l : List AccRes) (h : accSorted l = true) (e : AccRes) {r j : Nat} (n : e.reg ≠ r ∨ j < e.vis) :
    accRead (insertAcc e l) r j = accRead l r j := by
  obtain ⟨a, b, h1, h2, h3, h4⟩ := insertAcc_split e l h
  have : ¬ (e.reg = r ∧ e.vis ≤ j) := by omega
  simp only [accRead, h2]
  simp only [h1, accFold_append, accFold, this, if_false]

/-- `accStep` is `accNext`. -/
theorem accStep_next (v p : Acc) (r vis : Nat) (acc : Bool) : (accStep v { reg := r, vis := vis, accum := acc, p := p }).1 = accNext acc v p := by
  unfold accStep accNext
  dsimp only
  split
  · simp only [satAcc, clampInt]
    congr 1
    split
    · omega
    · split <;> omega
  · rfl

/-- Results for several accumulators, put in one after the other at the same bundle. -/
theorem accAdds_foldl (vis : Nat) (acc : Bool) : ∀ (ps : List (Nat × Acc)) (l : List AccRes), accSorted l = true → (ps.map Prod.fst).Nodup →
    AccAdds l (ps.foldl (fun m q => insertAcc { reg := q.1, vis := vis, accum := acc, p := q.2 } m) l) vis acc ps
    ∧ accSorted (ps.foldl (fun m q => insertAcc { reg := q.1, vis := vis, accum := acc, p := q.2 } m) l) = true := by
  intro ps
  induction ps with
  | nil => intro l h _; exact ⟨⟨by simp, by simp, by simp⟩, h⟩
  | cons q ps ih =>
    intro l h hn
    simp only [List.map_cons, List.nodup_cons] at hn
    have hs := insertAcc_sorted { reg := q.1, vis := vis, accum := acc, p := q.2 } l h
    obtain ⟨⟨h1, h2, h3⟩, h4⟩ := ih _ hs hn.2
    refine ⟨⟨?_, ?_, ?_⟩, h4⟩
    · intro r p hm
      rcases List.mem_cons.mp hm with rfl | hm
      · rw [List.foldl_cons, h3 r vis (fun p' hp => hn.1 (List.mem_map.mpr ⟨_, hp, rfl⟩))]
        rw [show accRead (insertAcc { reg := r, vis := vis, accum := acc, p := p } l) r vis = _ from accRead_insert_at l h ⟨r, vis, acc, p⟩]
        exact accStep_next _ _ _ _ _
      · rw [List.foldl_cons, h1 r p hm, accRead_insert_other l h _]
        left
        rintro rfl
        exact hn.1 (List.mem_map.mpr ⟨_, hm, rfl⟩)
    · intro r j hj
      rw [List.foldl_cons, h2 r j hj, accRead_insert_other l h _ (.inr hj)]
    · intro r j hr
      rw [List.foldl_cons, h3 r j (fun p hp => hr p (List.mem_cons_of_mem _ hp)), accRead_insert_other l h _]
      left
      rintro rfl
      exact hr q.2 List.mem_cons_self

/-! ## Putting a sample back, and issuing -/

/-- What `putSample` does: the core's sample is `y` without its new saturations, which show in SC_SAT. -/
theorem putSample_only (s : State) (c : CoreId) (x : Sample) :
    OnlySample s (s.putSample c x) c { x with outSat := false, accSat := false, sat := x.sat || x.outSat || x.accSat } := by
  refine ⟨?_, ?_, ?_, ?_⟩
  · simp only [State.putSample, core_setCore_same]; split <;> split <;> simp [State.putFlag, State.core, State.put]
  · intro d h; simp only [State.putSample, core_setCore_other _ _ h]; split <;> split <;> simp [State.putFlag, State.core, State.put]
  · simp only [State.putSample, State.setCore]; split <;> split <;> simp [State.putFlag, State.put]
  · intro f k h
    simp only [List.mem_cons, List.not_mem_nil, or_false, not_or] at h
    simp only [State.putSample, reg_setCore, State.putFlag]
    split <;> split <;> simp [reg_put_other _ _ h.1, reg_put_other _ _ h.2]

theorem satKeys_ne (c : CoreId) : SC_SAT_OUT_SAT.key c.val ≠ SC_SAT_ACC_SAT.key c.val := by
  revert c; decide

/-- The flags after `putSample`. -/
theorem putSample_shows (s : State) (c : CoreId) (x z : Sample) (o a : Bool) (ho : x.outSat = o) (ha : x.accSat = a)
    (hs : x.sat = z.sat) :
    ShowsSat s (s.putSample c x) c z { x with outSat := false, accSat := false, sat := x.sat || x.outSat || x.accSat } o a := by
  have n := satKeys_ne c
  refine ⟨?_, ?_, ?_, rfl, rfl⟩
  · simp only [State.putSample, State.flag, reg_setCore, State.putFlag]
    subst ho ha
    cases x.outSat <;> cases x.accSat <;> simp [reg_put_other _ _ n] <;> decide
  · simp only [State.putSample, State.flag, reg_setCore, State.putFlag]
    subst ho ha
    cases x.outSat <;> cases x.accSat <;> simp [reg_put_other _ _ n.symm] <;> decide
  · subst ho ha; simp [hs]

/-- An operation that runs acts on its sample. -/
theorem issueOp_runs {s : State} {i : Issue} {o : CoreOp} {x : Sample} (h : Runs s i o x) (act : Core → Sample → State → State) :
    issueOp i (encodeSlot o).1 (.op o) act s = act (s.core i.core) x s := by
  obtain ⟨h1, h2, h3, h4⟩ := h
  simp only [IssuesAs] at h1
  simp [issueOp, h1, h2, h3, h4]

theorem issueReg_runs {s : State} {i : Issue} {o : CoreOp} {x : Sample} (h : Runs s i o x) (f : Core → Sample → Sample) :
    issueReg i o f s = s.putSample i.core (f (s.core i.core) x) := issueOp_runs h _

end Sys2Proof.Machine
end

