-- ==== Sys2Proof/Tests/Slice0.lean ====
section
/-!
SUPPORT. Tests: ill-formed terms refused, bundles written out from the encodings of the specification, worked examples, and for every
statement states and operands that meet its hypotheses.
-/

namespace Sys2Proof.Tests

open Sys2Proof Sys2Proof.Machine

set_option Elab.async false

/-! ## Small states -/

/-- An issue of bundle 0 of core 0. -/
def iss (guard : Fin 4 := 0) (fail : Option CheckFail := none) : Issue := { core := 0, bundle := 0, guard := guard, fail := fail }

/-- A sample of core 0 at its first bundle. -/
def smp (len : Nat := 100) : Sample := { n := 5, page := 0, cpage := 0, len := len }

/-- A program page with one bundle; its generator 0 is a line of 8 words in bank 3, generator 1 a channel array. -/
def page (guard : Fin 4) (o : CoreOp) : ProgPage :=
  let w := encodeBundle guard o
  { mem := memSetWords [] 0 [BitVec.ofNat 32 w, BitVec.ofNat 32 (w / 2 ^ 32)], len := 8,
    ptr := { gens := [{ bank0 := 3, nbank := 1, len := 8, lines := 2, origin := 7, step := 1 }, { kind := 1, lines := 2 }], kinit := [0, 65535] } }

/-- Core 0 runs a sample whose first bundle is `o`. -/
def opState (o : CoreOp) (guard : Fin 4 := 0) (len : Nat := 100) : State :=
  State.reset.setCore 0 { prog := #v[page guard o, {}], run := some (smp len) }

/-- What issuing the first bundle leaves of the sample. -/
def issued (o : CoreOp) (len : Nat := 100) : Sample := { smp len with done := [(encodeSlot o).1] }

/-- A boolean form of what a core operation asks of the state. -/
def runsB (s : State) (i : Issue) (o : CoreOp) (x : Sample) : Bool :=
  decide (issue? (s.core i.core) i (encodeSlot o).1 (.op o) = some x) && !(s.core i.core).xbarFail && decide (i.fail = none)
    && enabled x i.guard

theorem runs_of_runsB {s : State} {i : Issue} {o : CoreOp} {x : Sample} (h : runsB s i o x = true) : Runs s i o x := by
  simp only [runsB, Bool.and_eq_true, decide_eq_true_eq, Bool.not_eq_true'] at h
  exact ⟨h.1.1.1, h.1.1.2, h.1.2, h.2⟩

/-- Registers of a state set by field, element and value. -/
def sets (s : State) (l : List (Field × Nat × Nat)) : State := l.foldl (fun s e => s.put e.1 e.2.1 e.2.2) s

/-! ## Ill-formed terms are refused -/

/-- A bundle index beyond the row old program, seam, new program (02 R51; 06 R271). -/
theorem test_wf_bundle : Instr.wf (.mac2c { core := 0, bundle := 65568, guard := 0 }
    { q := 0, d := 2, k := 0, acc := false, neg := false, cf := false, kinc := 0 }) = false := by decide

/-- An odd register in MAC2C (03 R128). -/
theorem test_wf_mac2c_odd : Instr.wf (.mac2c { core := 0, bundle := 0, guard := 0 }
    { q := 0, d := 1, k := 0, acc := false, neg := false, cf := false, kinc := 0 }) = false := by decide

/-- An odd register in MAC2D (03 R130). -/
theorem test_wf_mac2d_odd : Instr.wf (.mac2d { core := 0, bundle := 0, guard := 0 }
    { q := 0, d := 31, k := 0, acc := false, neg := false, cf := false, kinc := 0 }) = false := by decide

/-- A logical shift that asks for saturation (03 R145). -/
theorem test_wf_shi : Instr.wf (.shi { core := 0, bundle := 0, guard := 0 } { d := 0, a := 1, n := 2, sat := true, logical := true }) = false := by
  decide

/-! ## The block as a whole -/

/-- Waiting commands run in order, and an empty queue lets a cycle pass. -/
theorem witness_StepRunsFront :
    let s : State := { State.reset with pending := [.chamberRead, .journalClear] }
    s.pending = .chamberRead :: [.journalClear] ∧ step s = exec .chamberRead { s with pending := [.journalClear] }
      ∧ State.reset.pending = [] ∧ State.reset.hostBus = [] ∧ State.reset.qspi = none ∧ State.reset.power.entry = none
      ∧ State.reset.power.resleep = none :=
  ⟨rfl, rfl, rfl, rfl, rfl, rfl, rfl⟩

theorem witness_StepKeepsForm : State.reset.ok = true ∧ ∃ t, step State.reset = .next t := ⟨by decide +kernel, _, rfl⟩

theorem witness_BundleRoundTrip : encodable (.shi ⟨31, 1, -32, false, true⟩) = true ∧ 2 ≤ (2 ^ 64 - 1) / 2 ^ 62 % 4 := by decide

/-- No row of the table gives bits. -/
theorem test_decode_no_row_has_bits : decodeTableWord 8 0xFF = none := by decide

/-! ## Sample cores -/

/-- One operation of every kind, with operands at the ends of their ranges. -/
def coreOps : List CoreOp :=
  [.mac4 ⟨3, 31, 7, true, true, true, 3⟩, .mac2c ⟨0, 30, 0, false, false, false, 0⟩, .mac2d ⟨3, 30, 7, true, true, true, 3⟩,
   .mac1 ⟨15, 31, 7, true, false, true, 1⟩, .muld ⟨15, 31, 0, true, true⟩, .aconv ⟨15, 31, 3, true, 7⟩, .aopMov ⟨0, 15⟩,
   .aopAdd ⟨15, 15⟩, .aopSub ⟨15, 0⟩, .aopNeg ⟨0, 15⟩, .aopAbs ⟨15, 15⟩, .aopClr 15, .aopClrq 13, .ash ⟨15, 0, -32⟩]
   ++ [.ald ⟨15, 31, true, true⟩, .add ⟨31, 31, 31, true⟩, .sub ⟨0, 31, 0, false⟩, .logAnd ⟨31, 0, 31⟩, .logOr ⟨0, 31, 0⟩,
   .logXor ⟨31, 31, 31⟩, .logAndn ⟨31, 0, 1⟩, .logNot ⟨31, 31⟩, .shvArithmetic ⟨31, 1, 2, true⟩, .shvLogical ⟨31, 1, 2⟩,
   .shi ⟨31, 1, -32, false, true⟩, .mmxMin ⟨31, 0, 1⟩, .mmxMax ⟨31, 0, 1⟩, .mmxAbs ⟨31, 31, true⟩, .mmxNeg ⟨31, 31, true⟩]
   ++ [.sel ⟨31, 7, 31, 0, true⟩, .cmp ⟨7, 31, 0, .gt, true⟩, .clip ⟨31, 0, 31, true⟩, .immD ⟨31, 0xFFFFFFFF⟩, .immK ⟨7, 0xFFFF⟩,
   .lds ⟨31, 0x7FFF⟩, .sts ⟨0, 0x7FFF⟩, .ldc ⟨31, 7, 3⟩, .ldg ⟨0, 0, 15⟩, .stg ⟨0, 0, 15⟩, .dtap ⟨31, 0, 15⟩, .ldq ⟨7, 0, 15⟩,
   .dtapi ⟨0, 15, 15, true, true⟩, .gaddIndex ⟨0, -1⟩, .gaddLine ⟨0, -1⟩, .gmovIndexSet ⟨0, 31⟩, .gmovIndexGet ⟨0, 31⟩]
   ++ [.gmovLineSet ⟨0, 31⟩, .gmovLineGet ⟨0, 31⟩, .kadd ⟨7, -1⟩, .kmovToK ⟨7, 31⟩, .kmovToD ⟨1, 31⟩, .mov ⟨31, 31⟩, .movi ⟨31, -1⟩,
   .cmov ⟨31, 0, 3⟩, .pcmpz ⟨7, 31, .lt⟩, .plogAnd ⟨7, 0, 7⟩, .plogOr ⟨0, 7, 7⟩, .plogXor ⟨7, 0, 0⟩, .plogAndn ⟨7, 0, 7⟩,
   .plogNot ⟨7, 7⟩, .plogSet 0, .plogClr 7, .pacc ⟨7, 15, .ovr⟩]

theorem test_ops_encodable : coreOps.all encodable = true := by decide

/-- Every operation runs in some state (the hypothesis of the statements about operations). -/
theorem witness_CoreOperations : ∀ o ∈ coreOps, Runs (opState o) iss o (issued o) := by
  have h : coreOps.all (fun o => runsB (opState o) iss o (issued o)) = true := by decide +kernel
  exact fun o ho => runs_of_runsB (List.all_eq_true.1 h o ho)

/-- Results that are due at the end of the sample (03 R125). -/
theorem witness_CoreOperations_last : ∀ o ∈ coreOps, Runs (opState o 0 1) iss o (issued o 1) := by
  have h : coreOps.all (fun o => runsB (opState o 0 1) iss o (issued o 1)) = true := by decide +kernel
  exact fun o ho => runs_of_runsB (List.all_eq_true.1 h o ho)

theorem witness_CoreMultiplies : (opState (.mac2c ⟨0, 30, 0, false, false, false, 0⟩)).ok = true := by decide +kernel

/-- CMOV with its predicate set: P5 was written earlier in the sample. -/
theorem witness_CoreDataMoves :
    let o : CoreOp := .cmov ⟨31, 0, 1⟩
    let x : Sample := { issued o with p := [{ reg := 5, vis := 0, val := true }] }
    (Runs ((opState o).setCore 0 { (opState o).core 0 with run := some { smp with p := x.p } }) iss o x ∧ pAt x 5 = true)
      ∧ Runs (opState o) iss o (issued o) ∧ pAt (issued o) 5 = false := by
  intro o x
  exact ⟨⟨runs_of_runsB (by decide +kernel), by decide⟩, runs_of_runsB (by decide +kernel), by decide⟩

/-- A guard that reads 0, an empty slot, and a check that fails. -/
theorem witness_CoreOperationsWithoutEffect :
    let o : CoreOp := .add ⟨31, 31, 31, true⟩
    let s := (opState o).put PWR_PL_STATUS_CUR 0 2
    (issue? ((opState o 1).core 0) (iss 1) .mac (.op o) = some (issued o) ∧ enabled (issued o) 1 = false)
      ∧ (issue? ((opState o).core 0) iss .mem .nop).isSome = true
      ∧ issue? (s.core 0) (iss 0 (some .safePath)) .mac (.op o) = some (issued o) ∧ s.awake = true
      ∧ (s.core 0).xbarFail = false := by
  decide +kernel

/-! Bundles written out from the encodings of 03 R112 to R155 and 04 R165, R167. -/

theorem test_word_mac4 : readMac 0b00001_10_10101_110_1_0_1_11_0000 = .op (.mac4 ⟨2, 21, 6, true, false, true, 3⟩) := by decide
theorem test_word_mac2c : readMac 0b00010_01_10100_011_0_1_0_01_0000 = .op (.mac2c ⟨1, 20, 3, false, true, false, 1⟩) := by decide
theorem test_word_mac2c_odd : readMac 0b00010_01_10101_011_0_1_0_01_0000 = .illegal := by decide
theorem test_word_mac1 : readMac 0b00100_1011_01101_101_1_0_0_10_00 = .op (.mac1 ⟨11, 13, 5, true, false, false, 2⟩) := by decide
theorem test_word_muld : readMac 0b00101_0111_10011_00110_0_1_000 = .op (.muld ⟨7, 19, 6, false, true⟩) := by decide
theorem test_word_aconv : readMac 0b01000_1001_10110_10_1_101_0000 = .op (.aconv ⟨9, 22, 2, true, 5⟩) := by decide
theorem test_word_aop_sub : readMac 0b01001_1010_0110_010_00000000 = .op (.aopSub ⟨10, 6⟩) := by decide
theorem test_word_aop_clr : readMac 0b01001_1010_0000_101_00000000 = .op (.aopClr 10) := by decide
theorem test_word_aop_clr_b : readMac 0b01001_1010_0001_101_00000000 = .illegal := by decide
theorem test_word_ash : readMac 0b01010_1100_0011_110111_00000 = .op (.ash ⟨12, 3, -9⟩) := by decide
theorem test_word_ald : readMac 0b01011_0101_10001_1_0_00000000 = .op (.ald ⟨5, 17, true, false⟩) := by decide
theorem test_word_add : readMac 0b10000_10010_01110_10111_1_000 = .op (.add ⟨18, 14, 23, true⟩) := by decide
theorem test_word_log_andn : readMac 0b10010_10010_01110_10111_0_011 = .op (.logAndn ⟨18, 14, 23⟩) := by decide
theorem test_word_log_sat : readMac 0b10010_10010_01110_10111_1_011 = .illegal := by decide
theorem test_word_shv_logical : readMac 0b10011_00001_00010_00011_0_001 = .op (.shvLogical ⟨1, 2, 3⟩) := by decide
theorem test_word_shi : readMac 0b10100_00101_10000_100000_0_1_0 = .op (.shi ⟨5, 16, -32, false, true⟩) := by decide
theorem test_word_mmx_neg : readMac 0b10101_00101_10000_00000_1_011 = .op (.mmxNeg ⟨5, 16, true⟩) := by decide
theorem test_word_sel : readMac 0b10110_00101_10000_11111_110_1 = .op (.sel ⟨5, 16, 31, 6, true⟩) := by decide
theorem test_word_cmp : readMac 0b10111_101_00100_11011_011_1_00 = .op (.cmp ⟨5, 4, 27, .ge, true⟩) := by decide
theorem test_word_clip : readMac 0b11000_00101_10000_11111_0_000 = .op (.clip ⟨5, 16, 31, false⟩) := by decide
theorem test_word_mac_reserved : readMac 0b11001_0000000000000000000 = .illegal := by decide
theorem test_word_lds : readMem 0b1_0_1010_10110011100001 = .op (.lds ⟨10, 0b10110011100001⟩) := by decide
theorem test_word_sts : readMem 0b1_1_1010_10110011100001 = .op (.sts ⟨10, 0b10110011100001⟩) := by decide
theorem test_word_ldc : readMem 0b0_0001_10110_011_10_00000 = .op (.ldc ⟨22, 3, 2⟩) := by decide
theorem test_word_ldg : readMem 0b0_0010_10110_1001_101101 = .op (.ldg ⟨22, 9, 0b101101⟩) := by decide
theorem test_word_stg : readMem 0b0_0011_10110_1001_101101 = .op (.stg ⟨22, 9, 0b101101⟩) := by decide
theorem test_word_dtap : readMem 0b0_0100_10110_1001_01110_0 = .op (.dtap ⟨22, 9, 14⟩) := by decide
theorem test_word_ldq : readMem 0b0_0101_110_1001_101101_00 = .op (.ldq ⟨6, 9, 0b101101⟩) := by decide
theorem test_word_dtapi : readMem 0b0_0110_1011_1001_01110_1_0 = .op (.dtapi ⟨11, 9, 14, true, false⟩) := by decide
theorem test_word_gadd_line : readAux 0b0001_1010_1_1110111 = .op (.gaddLine ⟨10, -9⟩) := by decide
theorem test_word_gmov_get : readAux 0b0010_1010_10111_01_0 = .op (.gmovIndexGet ⟨10, 23⟩) := by decide
theorem test_word_kadd : readAux 0b0011_101_100000001 = .op (.kadd ⟨5, -255⟩) := by decide
theorem test_word_kmov_d : readAux 0b0100_101_10010_1_000 = .op (.kmovToD ⟨5, 18⟩) := by decide
theorem test_word_mov : readAux 0b0101_10010_01001_00 = .op (.mov ⟨18, 9⟩) := by decide
theorem test_word_movi : readAux 0b0110_10010_1000001 = .op (.movi ⟨18, -63⟩) := by decide
theorem test_word_cmov : readAux 0b0111_10010_01001_10 = .op (.cmov ⟨18, 9, 2⟩) := by decide
theorem test_word_pcmpz : readAux 0b1000_011_10010_101_0 = .op (.pcmpz ⟨3, 18, .gt⟩) := by decide
theorem test_word_plog_xor : readAux 0b1001_011_101_110_010 = .op (.plogXor ⟨3, 5, 6⟩) := by decide
theorem test_word_plog_set : readAux 0b1001_011_000_000_101 = .op (.plogSet 3) := by decide
theorem test_word_pacc : readAux 0b1010_011_1001_011_00 = .op (.pacc ⟨3, 9, .ovr⟩) := by decide
theorem test_word_aux_reserved : readAux 0b1011_000000000000 = .illegal := by decide

/-- The bundle of three operations: FORMAT 0, MAC, MEM, AUX, GUARD (03 R112). -/
theorem test_word_bundle :
    let b := readBundle 0b00_100001001001110101111000_00011101101001101101_0101100100100100_10
    b.legal = true ∧ b.guard = 2 ∧ b.mac = .op (.add ⟨18, 14, 23, true⟩) ∧ b.mem = .op (.stg ⟨22, 9, 0b101101⟩)
      ∧ b.aux = .op (.mov ⟨18, 9⟩) := by
  decide

/-- An immediate bundle: FORMAT 1, TGT 0, IDX 18, IMM (03 R113, R115). -/
theorem test_word_immediate :
    let b := readBundle 0b01_000_10010_10000000000000000000000000000101_0000_0101100100100100_00
    b.legal = true ∧ b.mac = .op (.immD ⟨18, 0x80000005⟩) ∧ b.aux = .op (.mov ⟨18, 9⟩) := by
  decide
/-! ## Shared memory -/

/-- A memory cycle on a bank of requests. -/
def bankSt (b : BankId) (x : Bank) (l : List (Field × Nat × Nat) := []) : State := (sets State.reset l).setBank b x

def fullQueue : List Req := List.replicate 40 { who := 1, write := false, words := [0] }

theorem witness_CoreSharedAccess :
    let o : CoreOp := .ldg ⟨0, 0, 15⟩
    let w : CoreOp := .stg ⟨0, 0, 15⟩
    let own (s : State) := s.put MEM_BANK_STATUS_OWNER_NOW 3 1
    let full (s : State) := s.setBank 3 { s.bank 3 with queue := fullQueue }
    let gen := genOf ((opState o).core 0) (issued o) 0
    genWord (opState o) gen false 5 (giAt ((opState o).core 0) (issued o) 0) 0 15 = (3, 5)
      ∧ (runsB (own (opState o)) iss o (issued o) = true ∧ (own (opState o)).mayRead 3 0 = true)
      ∧ (runsB (full (opState o)) iss o (issued o) = true ∧ ((full (opState o)).bank 3).room = false)
      ∧ ((opState o).mayRead 3 0 = false ∧ ((opState o).bank 3).room = true)
      ∧ (runsB (own (opState w)) iss w (issued w) = true ∧ (own (opState w)).mayWrite 3 0 = true)
      ∧ (opState w).mayWrite 3 0 = false ∧ ((full (opState w)).bank 3).room = false := by
  decide +kernel

theorem witness_BankQueues :
    let rd (d : ReadDest) (l : List (Option Word)) : SharedRead := { id := 0, due := 64, dest := d, data := l }
    let w : List (Option Word) := [some 1, some 2, some 3, some 4]
    let core (r : SharedRead) : State := State.reset.setCore 0 { run := some { smp with reads := [r] } }
    let q : Req := { who := 0, write := true, words := [786431], data := 7 }
    let own (s : State) := s.put MEM_BANK_STATUS_OWNER_NOW 3 1
    (core (rd (.word 31) [some 9])).ok = true ∧ (core (rd (.quad 28) w)).ok = true
      ∧ ((64 : Nat) + 4 < (smp 69).len ∧ (core (rd (.tap 15 true true [] 0) w)).ok = true)
      ∧ (core { rd (.word 0) [none] with failed := true }).ok = true
      ∧ (let s := own (State.reset.setCore 0 { run := some smp, waiting := some (3, q) })
         (s.bank 3).room = true ∧ s.mayWrite 3 0 = true)
      ∧ ((bankSt 3 { repairs := [.writeBack 0 5 true] }).ok = true ∧ State.reset.flag MEM_BANK_STATUS_SPARGING 3 = false)
      ∧ (bankSt 15 { queue := [q] }).ok = true
      ∧ ((bankSt 3 { queue := [q, { q with who := 15 }] }).ok = true)
      ∧ ((State.reset.setCore 15 { run := some smp }).setBank 3 { queue := [{ q with who := 15, write := false }] }).ok = true := by
  decide +kernel

theorem witness_BankErrors :
    (bankSt 3 { repairs := [.reRead 7 false] }).ok = true ∧ (bankSt 3 { repairs := [.reRead 7 true] }).ok = true
      ∧ (0 < ({ remaps := List.replicate 7 ⟨3, 0⟩ } : Bank).spares (7 % 4) ∧ (bankSt 0 { copies := [⟨3, 767⟩] }).ok = true)
      ∧ ((bankSt 0 {} [(MEM_BANK_STATUS_SPARGING, 0, 1)]).ok = true ∧ (bankSt 0 {} [(MEM_BANK_STATUS_SPARGING, 0, 1)]).flag MEM_BANK_STATUS_SPARGING 0 = true)
      ∧ (let s := { sets State.reset [(MEM_SCRUB_SLEEP_EN, 0, 1), (MEM_RET_MASK, 0, 2 ^ 15)] with power := { sleep := 3 } }
         s.ok = true ∧ s.flag MEM_SCRUB_SLEEP_EN = true ∧ (s.reg MEM_RET_MASK).testBit 15 = true) := by
  decide +kernel

theorem witness_RetriesClassErrors :
    let q : Req := { who := 0, write := true, words := [1] }
    let s := (State.reset.setCore 0 { run := some smp }).setBank 3 { queue := [q] }
    (s.core 0).run = some smp ∧ (s.bank 3).queue = [] ++ [q] ∧ q.who = (0 : CoreId).val := by
  decide +kernel

theorem witness_BankHandover :
    let s := sets State.reset [(MEM_BANK_CFG_HANDOVER, 5, 1), (MEM_BANK_STATUS_OWNER_NOW, 5, 1)]
    let r := sets State.reset [(MEM_BANK_CFG_HANDOVER, 5, 1), (MEM_BANK_STATUS_RELEASED, 5, 1), (MEM_BANK_CFG_ALLOWED, 5, 0x80)]
    s.releaseOk 5 = true ∧ State.reset.releaseOk 5 = false ∧ ((bankSt 5 { releasing := true }).bank 5).releasing = true
      ∧ r.grantOk 5 8 = true ∧ r.grantOk 5 0 = false ∧ r.grantOk 5 9 = false := by
  decide +kernel

theorem witness_MemoryWindow :
    let base := sets State.reset [(MEM_WIN_SEL_BANK, 0, 15)]
    let own := sets State.reset [(MEM_WIN_SEL_BANK, 0, 15), (MEM_BANK_STATUS_OWNER_NOW, 15, 8)]
    let sp := base.put MEM_BANK_STATUS_SPARGING 15 1
    let pm := base.put MEM_WIN_SEL_SPACE 0 1
    let busy := sets pm [(BCE_FLT_STATUS_STATE, 0, 2), (BCE_FLT_RING_RLOG2, 0, 4)]
    (base.ok = true ∧ base.reg MEM_WIN_SEL_SPACE = 0 ∧ base.winBank = 15 ∧ base.flag MEM_BANK_STATUS_SPARGING 15 = false)
      ∧ (own.ok = true ∧ own.mayWrite 15 19 = true ∧ own.mayRead 15 19 = true) ∧ (base.mayWrite 15 19 = false ∧ base.mayRead 15 19 = false)
      ∧ (sp.ok = true ∧ sp.flag MEM_BANK_STATUS_SPARGING 15 = true) ∧ (786431#20).toNat < 786432 ∧ 786432 ≤ (786432#20).toNat
      ∧ (pm.ok = true ∧ pm.reg MEM_WIN_SEL_SPACE = 1 ∧ pm.privBusy 0 = false) ∧ (busy.ok = true ∧ busy.privBusy 0 = true) := by
  decide +kernel

/-! ## Sample engine -/

/-- Group 0 at 48 kHz on a tracking media PLL, at the ideal time of tick 2; the last tick begun is tick 1. -/
def ticked (l : List (Field × Nat × Nat) := []) (x : Group := {}) : State :=
  { (sets State.reset ([(SE_RG_CFG_RATE, 0, 5), (CLK_MPLL_STATUS_STATE, 1, 2)] ++ l)).setGroup 0
      { x with begun := true, n := 1, tickTim := timPerSec / 48000, tickCycle := 12500 } with
    tim := 2 * timPerSec / 48000, cycles := 25000 }

theorem witness_GroupCommands :
    let s := ticked [(SE_RG_CTL_RUN, 0, 1), (SE_RG_STATUS_MUTE_CAUSE, 0, 3), (SE_RG_STATUS_STATE, 0, 4)]
    let spare := (sets State.reset [(SE_RG_STATUS_ACTIVE, 0, 1), (SC_CFG_ROLE, 15, 2), (SC_CFG_PRIMARY, 15, 0)]).setCore 15 { ready := true }
    (s.runLocked 0 = false ∧ s.flag SE_RG_CTL_RUN 0 = true ∧ s.reg SE_RG_STATUS_MUTE_CAUSE 0 ∈ [1, 3] ∧ s.rgState 0 ∉ [0, 5])
      ∧ (ticked [(SE_RG_STATUS_STATE, 0, 5)]).runLocked 0 = true ∧ State.reset.reg SE_RG_STATUS_MUTE_CAUSE 0 ∉ [1, 3]
      ∧ (spare.isActive 0 = true ∧ (spare.readySpare 0).isSome ∧ spare.reg FLT_CORE_STATUS_PHASE 0 ≠ 1 ∧ (spare.core 0).takeover = none)
      ∧ (State.reset.readySpare 0).isNone := by
  decide +kernel

theorem witness_SamplesBeginAndComplete :
    let o : CoreOp := .add ⟨1, 2, 3, false⟩
    let s := (opState o).setCore 0 { (opState o).core 0 with run := some (issued o 8) }
    (State.reset.dueTick 0 = none ∧ (ticked []).dueTick 0 = some 2)
      ∧ s.ok = true ∧ partDone (s.core 0) (issued o 8) = true ∧ (issued o 8).second = none ∧ s.writesLanded 0 = true
      ∧ (s.core 0).waiting = none := by
  decide +kernel

theorem witness_GroupRampsAndLateMutes :
    let down := ticked [] { ramp := some { down := true, j := 64 }, target := some 4 }
    let safe := ticked [(SE_RG_CTL_SAFE_RAMP, 0, 0)] { ramp := some { down := true, safe := true, j := 1 }, target := some 0 }
    let up := ticked [(SE_RG_CTL_RUN, 0, 1), (SE_RG_CTL_MODE, 0, 0), (SE_RG_STATUS_STATE, 0, 1)] { ramp := some { down := false, j := 64 } }
    let late := (ticked [(SE_RG_STATUS_STATE, 0, 1), (SE_RG_STATUS_ACTIVE, 0, 2 ^ 15), (SE_RG_STATUS_CONSEC_LATE, 0, 14),
      (SE_RG_CTL_LATE_LIMIT, 0, 15)] { ran := true }).setCore 15 { run := some smp }
    let quiet (s : State) : Bool := (s.dueTick 0 == some 2) && !s.marked 0 .ramp && !(s.group 0).waitRamp && !s.power.warm && s.power.entry.isNone
      && !(s.group 0).stopReq && !(s.group 0).muteReq && !(s.group 0).unmuteReq && (s.group 0).pendMute.isNone
    (quiet down = true ∧ down.rampLen 0 { down := true, j := 64 } ≤ 64)
      ∧ (quiet safe = true ∧ safe.rampLen 0 { down := true, safe := true, j := 1 } ≤ 1)
      ∧ (quiet up = true ∧ up.flag SE_RG_CTL_RUN 0 = true ∧ up.modeState 0 = up.rgState 0)
      ∧ (quiet late = true ∧ (late.group 0).marks = [] ∧ (late.group 0).ramp = none ∧ late.rgState 0 = 1 ∧ (late.group 0).ran = true
        ∧ late.reg SE_RG_STATUS_ACTIVE 0 = 2 ^ 15 ∧ (late.core 15).run = some smp ∧ late.reg FLT_CORE_STATUS_PHASE 15 ≠ 1
        ∧ late.reg SE_RG_STATUS_CONSEC_LATE 0 < 15 ∧ late.reg SE_RG_CTL_LATE_LIMIT 0 ≠ 0
        ∧ late.reg SE_RG_CTL_LATE_LIMIT 0 ≤ late.reg SE_RG_STATUS_CONSEC_LATE 0 + 1) := by
  decide +kernel

/-! ## Update chamber -/

theorem witness_ChamberAccess :
    let s := sets State.reset [(UC_CW_SEL_CORES, 0, 0x8001), (UC_CW_ADDR_INDEX, 0, 65535), (UC_CW_ADDR_AUTOINC, 0, 1)]
    let busy := s.setCore 15 { sync := some { prog := true, coef := true, group := 0, n := 0 } }
    (s.ok = true ∧ s.flag UC_CW_SEL_PAGE = false ∧ s.chamberBusy 0x8001 = false ∧ (maskCores 0x8001).any s.inCrossfade = false
        ∧ s.flag UC_CTL_JNL_EN = false)
      ∧ ((s.put UC_CW_SEL_PAGE 0 1).ok = true ∧ (s.put UC_CW_SEL_PAGE 0 1).flag UC_CW_SEL_PAGE = true)
      ∧ (busy.ok = true ∧ busy.flag UC_CW_SEL_PAGE = false ∧ busy.chamberBusy 0x8001 = true)
      ∧ (maskCores 0x8001 = [0, 15] ∧ s.chamberBusy s.readCore = false) := by
  decide +kernel

/-- A sluice of core 15 that swaps both pages. -/
def slu : Sluice :=
  { cores := 2 ^ 15, pages := 3, morph := 0, m := 0, mode := 0, glides := false, journal := false, id := 0, at_ := none, since := 0 }

def withSluice (u : Sluice) (st : Nat) (l : List (Field × Nat × Nat) := []) : State :=
  (ticked (l ++ [(UC_SL_STATUS_STATE, 0, st), (SE_RG_STATUS_ACTIVE, 0, 2 ^ 15)])).setSluice 0 (some u)

theorem witness_SluicesAreArmed :
    let free := ticked [(UC_SL_CFG_CORES, 0, 2 ^ 15), (UC_SL_CFG_PAGES, 0, 1), (SE_RG_STATUS_ACTIVE, 0, 2 ^ 15)]
    let far := withSluice { slu with mode := 1, at_ := some (5, 0) } 1
    let bc := withSluice { slu with mode := 2, id := 0xFFFF } 1
    far.sluiceCause 0 (far.sluiceFields 0) = some 1 ∧ far.reg UC_SL_STATUS_STATE 0 ≠ 0
      ∧ free.sluiceCause 0 (free.sluiceFields 0) = none
      ∧ (far.sluices[0] = some { slu with mode := 1, at_ := some (5, 0) } ∧ far.nearEffect 0 { slu with mode := 1, at_ := some (5, 0) } = false)
      ∧ (bc.sluices[0] = some { slu with mode := 2, id := 0xFFFF } ∧ bc.timePast 0 0 20834 = false ∧ bc.timePast 0 0 20833 = true)
      ∧ State.reset.sluices = Vector.replicate 4 none := by
  decide +kernel

theorem witness_SluicesTakeEffect :
    let armed := (withSluice slu 1).setCore 15 { chInit := [(0x3FFF, 7)] }
    let cut : Sluice := { slu with morph := 1, m := 1, a := 1 }
    let done : Sluice := { slu with morph := 1, m := 1, a := 0, swapped := true }
    let cross : Sluice := { slu with morph := 2, m := 1, a := 0 }
    (armed.dueTick 0 = some 2 ∧ armed.sluices[0] = some slu ∧ armed.marked 0 .sluice = false ∧ slu.since + 120 < armed.cycles
        ∧ (armed.group 0).stepped = false ∧ slu.pages.testBit 1 = true ∧ (armed.core 15).chInit = [(0x3FFF, 7)])
      ∧ ((withSluice cut 2).dueTick 0 = some 2 ∧ cut.a + 2 ^ (cut.m - 1) ≤ 2 ∧ 2 < cut.a + 2 * 2 ^ (cut.m - 1))
      ∧ ((withSluice done 2).dueTick 0 = some 2 ∧ done.swapped = true ∧ 1 ≤ done.m ∧ done.a + 2 ^ done.m ≤ 2)
      ∧ ((withSluice cross 3).dueTick 0 = some 2 ∧ (withSluice cross 3).reg UC_SL_STATUS_STATE 0 = 3 ∧ cross.a + 2 ^ cross.m ≤ 2) := by
  decide +kernel

theorem witness_Glides :
    let gl (r : Option GlideRun) : Glide := { word := 0xFFFF, target := 0x80000000, k := 1, log := false, withSluice := false, since := 0, run := r }
    let s := sets State.reset [(UC_GL_SEL_CORES, 0, 2 ^ 15), (SE_RG_STATUS_ACTIVE, 3, 2 ^ 15)]
    let st (r : Option GlideRun) := (ticked [(SE_RG_STATUS_ACTIVE, 0, 2 ^ 15)]).setCore 15 { glides := [gl r] }
    let u : GlideRun := { j := 1, w0 := 5, page := 0, start := 1 }
    (s.ok = true ∧ s.isActive 15 = true ∧ (s.core 15).glides.length < 1024)
      ∧ (s.put SE_RG_STATUS_ACTIVE 3 0).isActive 15 = false
      ∧ 1024 ≤ ((s.setCore 15 { glides := List.replicate 1024 (gl none) }).core 15).glides.length
      ∧ ((st none).ok = true ∧ (st none).dueTick 0 = some 2 ∧ ((st none).group 0).marks = [] ∧ (st none).sluices[0] = none
        ∧ (gl none).since + 120 < (st none).cycles)
      ∧ ((st (some u)).ok = true ∧ (st (some u)).dueTick 0 = some 2 ∧ u.start ≠ 2 ∧ 2 ^ (gl none).k ≤ u.j + 1) := by
  decide +kernel

theorem witness_SyncAndJournal :
    let sync := State.reset.setCore 15 { sync := some { prog := true, coef := true, group := 0, n := 0 } }
    let clr : State := { sets State.reset [(MEM_BANK_STATUS_OWNER_NOW, 0, 8)] with jnlClearing := true }
    let img := memSetWords [] 0 [BitVec.ofNat 32 (1 * 2 ^ 28 + 15 * 2 ^ 24 + 65535), 7, BitVec.ofNat 32 (2 * 2 ^ 28 + 2 ^ 15), 9]
    let rep : State := { (sets State.reset [(MEM_BANK_STATUS_OWNER_NOW, 0, 8), (UC_JNL_CFG_SIZE, 0, 1)]).setBank 0 { mem := img } with replayDue := true }
    (sync.ok = true ∧ (sync.core 15).sync.isSome = true) ∧ (clr.ok = true ∧ clr.xbarFails = [] ∧ clr.mayWrite clr.jnlBank 19 = true)
      ∧ State.reset.replayDue = false
      ∧ (rep.ok = true ∧ rep.jnlRead rep.jnlCap 0 = [(1, 15 * 2 ^ 24 + 65535, 7), (2, 2 ^ 15, 9)]) := by
  decide +kernel

/-! ## Block convolution engine and probe -/

/-- Job 127 of group 0 with two partitions of 64 samples, and filter 127 of it, whose ring of 16 words and tail buffer stand apart. -/
def bceRegs : List (Field × Nat × Nat) :=
  [(BCE_JOB_CFG_VALID, 127, 1), (BCE_JOB_SEG_C, 127, 2), (BCE_JOB_HEAD_H, 127, 64), (BCE_FLT_CFG_VALID, 127, 1), (BCE_FLT_CFG_JOB, 127, 127),
   (BCE_FLT_RING_RLOG2, 127, 4), (BCE_FLT_STAMP_SB, 127, 1000), (MEM_BANK_STATUS_OWNER_NOW, 0, 5)]

def bceSt (l : List (Field × Nat × Nat)) (b : Bce := {}) : State := { sets State.reset (bceRegs ++ l) with bce := b }

/-- The same with group 0 at its tick `n` of 48 kHz. -/
def bceAt (n : Nat) (l : List (Field × Nat × Nat)) (b : Bce := {}) : State :=
  (bceSt l b).setGroup 0 { begun := true, n := n }

theorem witness_BceStartStop :
    let run := bceSt [(BCE_CTL_EN, 0, 1), (BCE_STATUS_RUN, 0, 1)]
    let stopping := bceSt [(BCE_STATUS_RUN, 0, 1), (BCE_STATUS_STOPPING, 0, 1)]
    ((bceSt []).flag BCE_CTL_EN = false ∧ (bceSt []).flag BCE_STATUS_STOPPING = false ∧ (bceSt []).jobValid 127 = true)
      ∧ (stopping.flag BCE_CTL_EN = false ∧ stopping.flag BCE_STATUS_STOPPING = true) ∧ run.flag BCE_CTL_EN = true
      ∧ ((bceAt 64 [(BCE_JOB_STATUS_STATE, 127, 1), (BCE_JOB_START_LO, 127, 64)]).reg BCE_JOB_STATUS_STATE 127 = 1
        ∧ (bceAt 64 [(BCE_JOB_STATUS_STATE, 127, 1), (BCE_JOB_START_LO, 127, 64)]).jobStart 127
          ≤ (bceAt 64 [(BCE_JOB_STATUS_STATE, 127, 1), (BCE_JOB_START_LO, 127, 64)]).tickNow 0)
      ∧ run.flag BCE_STATUS_STOPPING = false ∧ stopping.ok = true ∧ stopping.stopDone = true := by
  decide +kernel

theorem witness_BceFilters :
    let on := bceAt 128 [(BCE_FLT_CTL_EN, 127, 1), (BCE_FLT_STATUS_STATE, 127, 1)] { on := [(127, 128)] }
    let off := bceAt 128 [(BCE_FLT_STATUS_STATE, 127, 3)] { off := [(127, 128)] }
    let idle := bceSt []
    let run := bceSt [(BCE_STATUS_RUN, 0, 1)]
    let swap := sets State.reset (bceRegs ++ [(BCE_FLT_CFG_VALID, 0, 1), (BCE_FLT_CFG_JOB, 0, 127), (BCE_FLT_STATUS_STATE, 127, 2),
      (BCE_SWAP_OLD, 0, 127), (BCE_SWAP_NEW, 0, 0)])
    (State.reset.fltState 0 = 0 ∧ State.reset.flag BCE_FLT_CTL_EN 0 = false ∧ State.reset.fltRefused 0 = true)
      ∧ (idle.fltState 127 = 0 ∧ idle.flag BCE_FLT_CTL_EN 127 = false ∧ idle.fltRefused 127 = false ∧ idle.flag BCE_STATUS_RUN = false)
      ∧ (run.fltState 127 = 0 ∧ run.fltRefused 127 = false ∧ run.flag BCE_STATUS_RUN = true ∧ run.flag BCE_STATUS_STOPPING = false)
      ∧ (on.flag BCE_FLT_CTL_EN 127 = true ∧ on.fltState 127 ∈ [1, 2])
      ∧ ((bceSt [(BCE_FLT_CTL_EN, 127, 1)]).flag BCE_FLT_CTL_EN 127 = true ∧ (bceSt [(BCE_FLT_CTL_EN, 127, 1)]).fltState 127 = 0)
      ∧ (swap.fltJob 127 = swap.fltJob 0 ∧ swap.sameTail 127 0 = true ∧ swap.fltState 127 = 2 ∧ swap.fltState 0 = 0
        ∧ swap.flag BCE_FLT_CFG_VALID 0 = true ∧ swap.jobValid 127 = true) ∧ State.reset.fltState 0 ≠ 2
      ∧ (tabGet? 127 on.bce.on = some 128 ∧ on.fltState 127 = 1 ∧ 128 ≤ on.tickNow (on.fltGroup 127))
      ∧ (tabGet? 127 off.bce.off = some 128 ∧ off.fltState 127 = 3 ∧ 128 ≤ off.tickNow (off.fltGroup 127)) := by
  decide +kernel

theorem witness_BceSlices :
    let s (x : Slice) := bceSt [(BCE_JOB_STATUS_STATE, 127, 2), (BCE_FLT_STATUS_STATE, 127, 2)] { running := some x, on := [(127, 64)] }
    let rel := bceAt 128 [(BCE_JOB_STATUS_STATE, 127, 2), (BCE_JOB_START_LO, 127, 64)]
    ((s (.forward 127 0 0)).ok = true ∧ 127 ∈ (s (.forward 127 0 0)).jobFilters 127
        ∧ (s (.forward 127 0 0)).contributes 127 0 (0 + (s (.forward 127 0 0)).segRatio 127 0) = true
        ∧ 1 < (s (.forward 127 0 0)).segCount 127 0)
      ∧ (s (.multiply 127 127 0 1 1)).ok = true ∧ (s (.inverse 127 127 0 1)).ok = true ∧ (tabGet (s (.inverse 127 127 0 1)).bce.acc 508 []).all (fun x => x == 0) = true
      ∧ (rel.ok = true ∧ rel.jobValid 127 = true ∧ rel.jobGroup 127 = 0 ∧ 0 ∈ rel.jobClasses 127 ∧ rel.tickNow 0 % classSize 0 = 0
        ∧ rel.jobStart 127 + classSize 0 ≤ rel.tickNow 0 ∧ tabGet? 508 rel.bce.released ≠ some 1)
      ∧ ((bceSt []).bce.running = none ∧ (bceSt []).bce.ready = []) := by
  decide +kernel

theorem witness_BceDelivery :
    let dead := bceAt 112 [(BCE_JOB_STATUS_STATE, 127, 2), (BCE_FLT_STATUS_STATE, 127, 2)] { running := some (.inverse 127 127 0 2), on := [(127, 128)] }
    let del := bceAt 112 [(BCE_STATUS_RUN, 0, 1), (BCE_FLT_STATUS_STATE, 127, 2)] { on := [(127, 128)] }
    (dead.ok = true ∧ dead.jobValid 127 = true ∧ dead.jobGroup 127 = 0 ∧ 0 ∈ dead.jobClasses 127 ∧ 127 ∈ dead.jobFilters 127
        ∧ dead.contributes 127 0 2 = true ∧ (dead.tickNow 0 + 16) % classSize 0 = 0 ∧ 2 = (dead.tickNow 0 + 16) / classSize 0)
      ∧ (del.ok = true ∧ del.flag BCE_FLT_CFG_VALID 127 = true ∧ (List.range 127).all (fun h => !del.flag BCE_FLT_CFG_VALID h) = true
        ∧ del.fltGroup 127 = 0 ∧ del.tickNow 0 % 16 = 0 ∧ del.tailOn 0 127 8 = true ∧ 4 ≤ del.reg BCE_FLT_RING_RLOG2 127
        ∧ del.mayWrite 0 17 = true ∧ (List.range 16).all (fun i => 1000 + 8 % 4 != (16 * 8 + i) % 64) = true) := by
  decide +kernel

theorem witness_ProbeRuns :
    let o : ProbeOut := { steepStart := 16, steepLen := 16 }
    let idle := sets State.reset [(PRB_OUT_CFG_VALID, 63, 1)]
    let due : State := (idle.setGroup 0 { begun := true, n := 32 })
    let at_ (l : List (Field × Nat × Nat)) (p : Probe) : State := { sets State.reset l with probe := p }
    let run : Probe := { running := true, last := some 31, outs := [(63, o)] }
    (idle.flag PRB_CTL_EN = false ∧ idle.probe.running = false)
      ∧ (({ due with probe := { sp := some 32 } } : State).tickNow idle.probeGroup = 32)
      ∧ ((at_ [(PRB_CTL_EN, 0, 1)] run).flag PRB_CTL_EN = true ∧ run.stopAt = none)
      ∧ (31 % 16 = 15 ∧ run.block ≠ some (31 / 16)) ∧ (at_ [] { run with disturbed := true }).probe.disturbed = true
      ∧ ((at_ [] { run with stopAt := some 31 }).flag PRB_CTL_EN = false)
      ∧ ((at_ [] run).pout 63).steepStart + ((at_ [] run).pout 63).steepLen ≤ 31 + 1 := by
  decide +kernel

theorem witness_ProbeResults :
    let run : State := { State.reset with probe := { running := true } }
    let full : State := { State.reset with probe := { running := true, frames := List.replicate 64 (0, 0) } }
    let note : ResultNote := { steep := 1, start := 0, fine := true, snr := 128 * (State.reset.reg PRB_LOOP_LIM_SNR_MIN 63 : Int) }
    let sum : SteepSum := { no := 1, start := 0, len := 16, num := [], den := [], doneAt := some 0 }
    let pub : State := { sets State.reset [(MEM_BANK_STATUS_OWNER_NOW, 0, 6)] with probe := { pairs := [(16 * 63 + 15, [sum])] } }
    let lp : State := { sets State.reset [(PRB_LOOP_CFG_NC, 63, 1), (PRB_LOOP_STATUS_STATE, 63, 1), (SE_RG_STATUS_STATE, 0, 1), (PRB_OUT_MASK_MICS, 63, 2 ^ 15),
      (PRB_CTL_LOOP_EN, 0, 1)] with probe := { notes := [(16 * 63 + 15, note)] } }
    (run.probe.running = true ∧ run.probe.frames.length < 64) ∧ 64 ≤ full.probe.frames.length
      ∧ ((pub.readyResult 63 15).isSome = true ∧ pub.ok = true ∧ pub.xbarFails = [] ∧ pub.mayWrite (Fin.ofNat 16 (pub.reg PRB_RES_BASE_BANK)) 18 = true) ∧ State.reset.readyResult 63 15 = none
      ∧ (lp.flag PRB_LOOP_LIM_EN 63 = false ∧ lp.reg PRB_LOOP_CFG_NC 63 ≠ 0)
      ∧ (let moved := lp.setCore 0 { cpage := 1 }
         (moved.core (moved.loopCore 63)).cpage ≠ (moved.pout 63).loopPage)
      ∧ ((lp.core (lp.loopCore 63)).cpage = (lp.pout 63).loopPage ∧ lp.rgState (lp.groupOf (lp.loopCore 63)) = 1
        ∧ lp.reg UC_SL_STATUS_STATE 0 ≠ 3 ∧ lp.reg PRB_OUT_MASK_MICS 63 = 2 ^ 15 ∧ tabGet? (16 * 63 + 15) lp.probe.notes = some note
        ∧ lp.flag PRB_CTL_LOOP_EN = true ∧ (lp.pout 63).loopSteep ≠ some note.steep ∧ note.fine = true
        ∧ 128 * (lp.reg PRB_LOOP_LIM_SNR_MIN 63 : Int) ≤ note.snr ∧ (lp.pout 63).loopAfter = 0)
      ∧ lp.reg PRB_LOOP_STATUS_STATE 63 = 1 := by
  decide +kernel

/-! ## Stream mover, serial ports -/

/-- Headgate 255 of an IN route into ingress channel 0 of group 0, which is at its tick `n` of 48 kHz. -/
def hgSt (n : Nat) (st : Nat) (u : Option Headgate) (l : List (Field × Nat × Nat) := []) : State :=
  let s := ticked ([(STR_HG_STATUS_STATE, 255, st), (STR_HG_TIME_SEC_LO, 255, 1)] ++ l) {}
  { s.setGroup 0 { begun := true, n := n - 1 } with
    tim := n * timPerSec / 48000, routes := [(0, { kind := 0, hgEn := true, hg := 255, src := 0, snk := 0 })],
    hgs := match u with
      | some x => [(255, x)]
      | none => [] }

def hgCmd (opens ramp : Bool) (a : Option Nat) : Headgate := { sec := 1, ns := 0, a := a, ramp := ramp, opens := opens, since := 0 }

theorem witness_Headgates :
    let free := hgSt 64 0 none
    let late := hgSt 48065 2 none
    let arm := hgSt 64 1 (some (hgCmd true true (some 48000)))
    let eff := hgSt 128 1 (some (hgCmd true true (some 128)))
    let close := hgSt 192 3 (some (hgCmd false true (some 128)))
    State.reset.hgGroup 255 = none
      ∧ (free.hgGroup 255 = some 0 ∧ free.tickFromTime 0 = true ∧ free.reg STR_HG_STATUS_STATE 255 ∈ [0, 2]
        ∧ 64 * ((free.group 0).n / 64) * 1000000000 < 1 * 1000000000 * free.fs 0)
      ∧ (late.hgGroup 255 = some 0 ∧ 1 * 1000000000 * late.fs 0 ≤ 64 * ((late.group 0).n / 64) * 1000000000)
      ∧ (arm.hgGroup 255 = some 0 ∧ arm.reg STR_HG_STATUS_STATE 255 ∈ [1, 3] ∧ (arm.group 0).n < 48000 ∧ cycles200ns < arm.cyclesTo 0 48000)
      ∧ (hgSt 48001 1 (some (hgCmd true true (some 48000))) |>.group 0).n = 48000
      ∧ (eff.hgGroup 255 = some 0 ∧ eff.dueTick 0 = some 128 ∧ eff.reg STR_HG_STATUS_STATE 255 = 1 ∧ (eff.group 0).stepped = false
        ∧ (hgCmd true true (some 128)).since + cycles200ns < eff.cycles)
      ∧ (close.hgGroup 255 = some 0 ∧ close.dueTick 0 = some 192 ∧ close.reg STR_HG_STATUS_STATE 255 = 3 ∧ 128 + 64 ≤ 192)
      ∧ ((hgSt 191 3 (some (hgCmd false true (some 128)))).dueTick 0 = some 191 ∧ 191 < 128 + 64) := by
  decide +kernel

theorem witness_BlocksInTime :
    let ch : ChanDesc := { bank := 0, valid := true, len := 64, ag := 0, agEn := true, stampEn := true, sbase := 64, reach := 8 }
    let s (x : ChanState) (rts : Tab Route) : State :=
      { sets State.reset [(MEM_BANK_STATUS_OWNER_NOW, 0, 7)] with ingress := [(8190, ch)], chans := [(8190, x)], routes := rts }
    let got : Tab Word := (List.range 8).map fun i => (8 + i, 7)
    let rt : Route := { kind := 0, hgEn := true, hg := 255, src := 0, snk := BitVec.ofNat 32 8190 }
    ((s {} []).ok = true ∧ (s {} []).flag STR_AG_CFG_LOCKSTEP 0 = false ∧ (s {} []).memberClosed 8190 8 = false
        ∧ (s {} []).mayWrite 0 16 = true ∧ 8 * 2 ^ ch.bs.val ≤ ch.len ∧ (s {} []).xbarFails = [])
      ∧ (s {} [(0, rt)]).memberClosed 8190 8 = true
      ∧ ((List.range 8).all (fun i => (tabGet? (8 + i) got).isSome) = true ∧ (s { rx := got } []).ok = true ∧ (s { rx := got, st := 1 } []).ok = true)
      ∧ (List.range 64).all (fun m => (List.range 2).all fun j => chanWord ch m != ch.sbase + 2 * stampSlot ch 1 + j) = true
      ∧ ((s { naMute := true, naUntil := some 9, last := some 9 } []).chanSt 8190).naMute = true := by
  decide +kernel

theorem witness_PortCommands :
    let s (l : List (Field × Nat × Nat)) (x : Port := {}) := (ticked l).setPort 15 x
    (State.reset.fs (State.reset.sapGroup 15) = 0) ∧ ((s []).fs 0 ≠ 0 ∧ (s [(SAP_CTL_EN, 15, 1)]).flag SAP_CTL_EN 15 = true)
      ∧ ((s []).flag SAP_CTL_EN 15 = false ∧ ((s []).port 15).closing = false ∧ (s []).reg SAP_STATUS_STATE 15 = 0
        ∧ (s []).reg SAP_CFG_MODE 15 = 0 ∧ ((s []).group 0).begun = true)
      ∧ (s [(SAP_CFG_MODE, 15, 1)]).reg SAP_CFG_MODE 15 ≠ 0 ∧ (s [(SAP_CTL_EN, 15, 1), (SAP_STATUS_STATE, 15, 3)]).reg SAP_STATUS_STATE 15 ∈ [1, 3]
      ∧ (s [(SAP_CTL_EN, 15, 1), (SAP_STATUS_STATE, 15, 2)]).reg SAP_STATUS_STATE 15 = 2 ∧ ((s [] { closing := true }).port 15).closing = true := by
  decide +kernel

theorem witness_PortFrames :
    let s (l : List (Field × Nat × Nat)) (x : Port := {}) := (ticked ([(SAP_CFG_SLOTS, 15, 31)] ++ l)).setPort 15 x
    let m := s [(SAP_STATUS_STATE, 15, 2)] { a := some 1 }
    let sl := s [(SAP_CFG_MODE, 15, 1), (SAP_STATUS_STATE, 15, 2)] { outOf := some 0, bounded := true }
    let st := s [(SAP_CFG_MODE, 15, 1), (SAP_STATUS_STATE, 15, 3)] { wellFormed := 1 }
    (0xFFFF < 2 ^ 16) ∧ (m.ticking 0 = true ∧ m.reg SAP_CFG_SLOTS 15 < 32 ∧ m.sapMaster 15 = true ∧ m.dueTick 0 = some 2 ∧ 1 < 2)
      ∧ (sl.ticking 0 = true ∧ sl.sapMaster 15 = false ∧ (sl.port 15).outOf.isSome = true ∧ sl.tickFromTime 0 = true)
      ∧ (st.ticking 0 = true ∧ st.sapMaster 15 = false ∧ st.reg SAP_STATUS_STATE 15 ∈ [1, 3] ∧ 1 ≤ (st.port 15).wellFormed)
      ∧ (State.reset.reg SAP_STATUS_STATE 15 = 0)
      ∧ ((sl.port 15).bounded = true ∧ sl.reg SAP_STATUS_STATE 15 ∈ [1, 2] ∧ 2 * timPerSec ≤ (sl.tim - (sl.port 15).stamp) * sl.fs 0)
      ∧ (let near := s [(SAP_CFG_MODE, 15, 1), (SAP_STATUS_STATE, 15, 2)] { bounded := true, stamp := 1 }
         (near.tim - (near.port 15).stamp) * near.fs 0 < 2 * timPerSec) := by
  decide +kernel

/-- A word of 16, 20, 24 or 32 bits comes back as it went in (10 R437). -/
theorem test_sap_words :
    [(16, 0x8000), (16, 0xFFFF), (20, 0x80001), (24, 0x7FFFFF), (32, 0xFFFFFFFF)].all
      (fun p => decide (sapOut true p.1 (sapIn p.1 p.2) = p.2) && decide (sapOut false p.1 (sapIn p.1 p.2) = p.2)) = true := by
  decide +kernel

/-! ## Device link -/

/-- Port 3 in a state, with EN. -/
def lk (st : Nat) (l : List (Field × Nat × Nat) := []) (x : LinkPort := {}) : State :=
  (sets State.reset ([(RLK_STATUS_STATE, 3, st), (RLK_CTL_EN, 3, 1), (RLK_CFG_RATE, 3, 2)] ++ l)).setLink 3 x

theorem witness_LinkCommands :
    (lk 5).reg RLK_STATUS_STATE 3 ∈ [0, 5] ∧ ((lk 4 [(RLK_STATUS_DOWN_CAUSE, 3, 7)]).reg RLK_STATUS_STATE 3 = 4
        ∧ (lk 4 [(RLK_STATUS_DOWN_CAUSE, 3, 7)]).reg RLK_STATUS_DOWN_CAUSE 3 = 7)
      ∧ ((lk 4 [(RLK_STATUS_DOWN_CAUSE, 3, 6)]).reg RLK_STATUS_STATE 3 ∉ [0, 5] ∧ (lk 4 [(RLK_STATUS_DOWN_CAUSE, 3, 6)]).reg RLK_STATUS_DOWN_CAUSE 3 ≠ 7)
      ∧ (lk 2).reg RLK_STATUS_STATE 3 ∈ [1, 2] ∧ (lk 3).reg RLK_STATUS_STATE 3 = 3 := by
  decide +kernel

theorem witness_LinkServices :
    let ring (u : Nat) := sets State.reset [(RLK_GLB_CFG_RING, 0, 1), (RLK_CFG_TOPO, 0, 3), (RLK_CFG_TOPO, 1, 4), (RLK_STATUS_STATE, 0, 3),
      (RLK_STATUS_STATE, 1, 3), (RLK_GLB_STATUS_WRAP, 0, 1), (RLK_UNWRAP_LO_U_LO, 0, u)]
    let slot : Sluice := { cores := 1, pages := 1, morph := 0, m := 0, mode := 2, glides := false, journal := false, id := 0, at_ := none, since := 0 }
    let armed := { (ring 4).put UC_SL_STATUS_STATE 0 1 with sluices := #v[some slot, none, none, none] }
    ((ring 4).ringPort 3 = some 0 ∧ (ring 4).ringPort 4 = some 1 ∧ (ring 4).reg RLK_GLB_STATUS_WRAP ≠ 0 ∧ (ring 4).linkIdx + 4 ≤ 4)
      ∧ 3 < (ring 3).linkIdx + 4
      ∧ (0 ≤ ({ State.reset with unwrapAt := some 0 } : State).nearestLink ∧ ({ State.reset with unwrapAt := some 1 } : State).nearestLink < 1)
      ∧ (State.reset.wakeSent = none ∧ 0 + 6000000 ≤ ({ State.reset with wakeSent := some 0, cycles := 6000000 } : State).cycles)
      ∧ ({ State.reset with wakeSent := some 0, cycles := 5999999 } : State).cycles < 0 + 6000000
      ∧ (armed.sluices[0] = some slot ∧ armed.reg UC_SL_STATUS_STATE 0 = 1 ∧ slot.id = armed.reg UC_BC_ID ∧ armed.timePast 0 0 0 = false)
      ∧ 8 ≤ (List.replicate 8 ({ words := [], left := 3, notBefore := 0 } : BcEntry)).length := by
  decide +kernel

/-- A control field of zeros with its CRC. -/
def cfZero : List Word := let w := List.replicate 63 0; w ++ [crc32cWords w]

def frm (k : Nat) (cf : List Word) : LinkFrame := { index := k, fsCode := 2, cf := cf, segs := [], retries := [] }

theorem cfZero_ok : cfOk cfZero = true := by simp [cfOk, cfZero]

theorem witness_LinkFrames :
    let idle : State := { State.reset with linkBegun := true }
    (idle.dueLink = none ∧ State.reset.dueLink = some 0)
      ∧ ((frm 1 cfZero).fsCode.toNat = (lk 1 [] { good := 7 }).reg RLK_CFG_RATE 3 ∧ cfBits cfZero 0 26 1 = 0)
      ∧ cfOk [] = false
      ∧ (let s := lk 2 [] { txStamps := [(0, 0)], rxStamps := [(0, 100)] }
         (s.link 3).txStamps.find? (fun t => t.1 % 2 ^ 32 == cfBits cfZero 5 0 32) = some (0, 0)
           ∧ (s.link 3).rxStamps.find? (fun t => t.1 + 1 == (frm 1 cfZero).index) = some (0, 100)) := by
  decide +kernel

/-- The worked example of 11 R498: T1 = 0, T2 = 537.44, T3 = 800.00 and T4 = 1312.64 ns give a delay of 525.04 and an offset of 12.40 ns, in
units of 2^-8 ns. -/
theorem test_link_delay_example : delayOf 0 (53744 * 65536 / 100) (800 * 65536) (131264 * 65536 / 100) 0 = (52504 * 256 / 100, 1240 * 256 / 100) := by
  decide +kernel

/-! ## Time, network, clocks -/

theorem witness_TimeCommands :
    let pps := (State.reset.put TIM_PPS_OUT_EN 0 1)
    let lane := sets State.reset [(TIM_STATUS_PTP_LANE_NOW, 0, 1), (NET_LANE_STATUS_LINK, 0, 1)]
    (pps.flag TIM_PPS_OUT_EN = true ∧ pps.tim % timPerSec < pps.timAdvance) ∧ State.reset.flag TIM_PPS_OUT_EN = false
      ∧ (let s : State := { pps with tim := pps.timAdvance }
         s.timAdvance ≤ s.tim % timPerSec)
      ∧ (lane.reg TIM_STATUS_PTP_LANE_NOW = 1 ∧ lane.flag NET_LANE_STATUS_LINK 1 = false ∧ lane.flag NET_LANE_STATUS_LINK (1 - 1) = true)
      ∧ (lane.put TIM_STATUS_PTP_LANE_NOW 0 0).flag NET_LANE_STATUS_LINK 0 = true := by
  decide +kernel

theorem witness_TimeServo :
    let s (l : List (Field × Nat × Nat)) (x : TimeBase := {}) : State := { sets State.reset ([(TIM_CFG_SOURCE, 0, 3)] ++ l) with time := x }
    let acq := s [(TIM_STATUS_STATE, 0, 1)] { source := 3, stepped := true, close := 15 }
    let trk := s [(TIM_STATUS_STATE, 0, 2)] { source := 3, jumps := 3 }
    let hold := s [(TIM_STATUS_STATE, 0, 3), (TIM_HOLD_TMAX, 0, 1)] { holdSince := 0 }
    (State.reset.timeSource = 0 ∧ (s []).timeSource ≠ 0 ∧ (s []).reg TIM_STATUS_STATE = 0)
      ∧ (65536000 < (65536001 : Int).natAbs ∧ (-65536000 : Int).natAbs ≤ 65536000 ∧ (-6553599 : Int).natAbs < 6553600)
      ∧ (acq.time.source = acq.timeSource ∧ acq.time.rejoin = none ∧ acq.reg TIM_STATUS_STATE = 1 ∧ acq.time.stepped = true)
      ∧ (trk.time.source = trk.timeSource ∧ trk.reg TIM_STATUS_STATE = 2 ∧ (0 : Int).natAbs ≤ trk.reg CLK_REJOIN_JUMP_THR * 65536000
        ∧ 3 ≤ trk.time.jumps ∧ (trk.put CLK_REJOIN_STEP_THR 0 1).reg CLK_REJOIN_STEP_THR ≠ 0 ∧ (trk.put CLK_REJOIN_MODE 0 0).flag CLK_REJOIN_MODE = false)
      ∧ (trk.reg CLK_REJOIN_JUMP_THR * 65536000 < (65536000000 : Int).natAbs)
      ∧ (trk.time.lastUpdate + 3 * trk.time.interval * 3 / 5 ≤ trk.cycles)
      ∧ ((s [] { lastUpdate := 1 }).cycles < (s [] { lastUpdate := 1 }).time.lastUpdate + 3 * 0 * 3 / 5)
      ∧ (hold.reg TIM_STATUS_STATE = 3 ∧ hold.reg TIM_HOLD_TMAX ≠ 0
        ∧ hold.time.holdSince + hold.reg TIM_HOLD_TMAX * 600000000 ≤ ({ hold with cycles := 600000000 } : State).cycles
        ∧ hold.cycles < hold.time.holdSince + hold.reg TIM_HOLD_TMAX * 600000000)
      ∧ (let st := s [] { rejoin := some (.step 5 (5 * 2 ^ 48)) }
         5 * 2 ^ 48 ≤ st.tim + st.timAdvance ∧ st.tim + st.timAdvance < 5 * 2 ^ 48 + 1) := by
  decide +kernel

theorem witness_TimeSources :
    let msg (k : PtpKind) : PtpMsg := { lane := 0, domain := 0, kind := k, seq := 65535, own1 := 0, own2 := 0, peer1 := 5, peer2 := 6, corr := 0 }
    let s (l : List (Field × Nat × Nat)) (p : PtpState := {}) : State :=
      { sets State.reset ([(TIM_CFG_SOURCE, 0, 1), (NET_LANE_STATUS_LINK, 0, 1)] ++ l) with ptp := p }
    let due := s [] { syncSeq := some 65535, delay := some 655360000, lastTx := some 0 }
    let pps := { s [(TIM_CFG_SOURCE, 0, 3), (TIM_PPS_IN_EN, 0, 1)] with time := { lastPps := some 0 } }
    State.reset.timeSource ≠ 1
      ∧ ((s []).timeSource = 1 ∧ (msg (.sync true)).lane.val = (s []).reg TIM_STATUS_PTP_LANE_NOW ∧ (msg .followUp).domain = (s []).reg TIM_CFG_DOMAIN
        ∧ (s []).reg NET_LANE_STATUS_LINK 0 ≠ 0)
      ∧ ((s []).ptp.syncSeq ≠ some (msg .followUp).seq) ∧ (due.ptp.syncSeq = some (msg .followUp).seq ∧ due.ptp.delay = some 655360000
        ∧ ((655360000 : Int) - median due.ptp.delays).natAbs ≤ 655360000 ∧ 655360000 < ((655360001 : Int) - median due.ptp.delays).natAbs)
      ∧ (due.reg TIM_CFG_PROFILE ∉ [1, 4] ∧ due.ptp.lastTx.isSome = true) ∧ (s [(TIM_CFG_PROFILE, 0, 1)]).reg TIM_CFG_PROFILE ≠ 0
      ∧ ((s [(TIM_CFG_GM_CAPABLE, 0, 1)]).flag TIM_CFG_GM_CAPABLE = true ∧ (s []).flag TIM_STATUS_GM = false ∧ (s []).ptp.gm ≠ some 7)
      ∧ ((s []).flag TIM_PPS_IN_EN = false) ∧ (pps.flag TIM_PPS_IN_EN = true ∧ pps.timeSource = 3 ∧ pps.ppsPasses = true ∧ pps.time.lastPps = some 0)
      ∧ ({ State.reset with linkThetas := 63 } : State).linkThetas < 64 ∧ 64 ≤ ({ State.reset with linkThetas := 64 } : State).linkThetas := by
  decide +kernel

theorem witness_NetReceive :
    let s := sets State.reset [(NET_LANE_CTL_EN, 1, 1), (NET_RX_CFG_VALID, 127, 1), (NET_RX_CTL_EN, 127, 1), (NET_RX_CFG_PATHS, 127, 2), (NET_RX_DST_B, 127, 7)]
    let r : Rtp := { pt := s.reg NET_RX_CFG_PT 127, seq := 65535, ts := 2 ^ 32 - 1, ssrc := 2 ^ 32 - 1,
                     payload := List.replicate ((s.reg NET_RX_CFG_CH 127 + 1) * s.rxSpp 127 * encBytes (s.reg NET_RX_CFG_ENC 127)) 0 }
    let d : Datagram := { src := 1, dst := 7, sport := 0, dport := s.rxPort 127 1, payload := rtpBytes r }
    (State.reset.flag NET_LANE_CTL_EN 1 = false) ∧ (s.flag NET_LANE_CTL_EN 1 = true ∧ (List.range 128).all (fun j => s.rxMatches j 1 d == decide (j = 127)) = true)
      ∧ rtpParse [] = none ∧ (rtpParse (rtpBytes r) = some r ∧ s.rxFits 127 r = true) ∧ s.rxFits 127 { r with payload := [1] } = false
      ∧ (r.pt < 128 ∧ r.seq < 2 ^ 16 ∧ r.ts < 2 ^ 32 ∧ r.ssrc < 2 ^ 32)
      ∧ ((State.reset.put NET_RX_CFG_VALID 127 1).flag NET_RX_CTL_EN 127 = false ∧ s.flag NET_RX_CTL_EN 127 = true)
      ∧ ({ s with rxs := [(127, { b := { seq := some 65533 } })] }.rx 127).b.seq = some 65533 := by
  decide +kernel

theorem witness_NetTransmit :
    let s (l : List (Field × Nat × Nat)) (x : TxStream := {}) : State := { ticked (l ++ [(NET_TX_CFG_SPP, 127, 0), (NET_TX_CFG_PATHS, 127, 1)]) with txs := [(127, x)] }
    let due := (s [(NET_TX_CTL_EN, 127, 1), (NET_TX_CFG_VALID, 127, 1), (NET_LANE_CTL_EN, 0, 1), (NET_LANE_STATUS_LINK, 0, 1)] { first := some 0 }).setGroup 0
      { begun := true, n := (s []).txSpp 127 }
    ((s []).flag NET_TX_CTL_EN 127 = false ∧ ((s []).group 0).begun = true ∧ cycles200ns < ({ s [] with tim := timPerSec / 48000 } : State).cyclesToNext 0)
      ∧ (due.flag NET_TX_CTL_EN 127 = true ∧ due.flag NET_TX_CFG_VALID 127 = true ∧ (due.group 0).begun = true ∧ (due.tx 127).first = some 0
        ∧ due.txSpp 127 ≤ (due.group 0).n ∧ 0 ≤ (due.group 0).n / due.txSpp 127 * due.txSpp 127 - due.txSpp 127 ∧ (due.tx 127).last ≠ some 0
        ∧ due.maskBit NET_TX_CFG_PATHS 0 127 = true ∧ due.flag NET_LANE_CTL_EN 0 = true ∧ due.flag NET_LANE_STATUS_LINK 0 = true)
      ∧ (State.reset.group 0).begun = false := by
  decide +kernel

theorem witness_NetLanes :
    let s := sets State.reset [(NET_LANE_CTL_EN, 1, 1), (NET_LANE_STATUS_LINK, 1, 1), (NET_LANE_IP_NOW_IP, 1, 0xFFFFFFFF), (NET_LANE_CFG_MODE, 1, 1)]
    let dn := sets State.reset [(NET_LANE_CTL_EN, 1, 1), (NET_LANE_CFG_MODE, 1, 1), (NET_LANE_IPCFG_SRC, 1, 2)]
    let fall := sets State.reset [(NET_LANE_STATUS_LINK, 1, 1), (NET_LANE_IPCFG_SRC, 1, 1)]
    (s.flag NET_LANE_STATUS_LINK 1 = true ∧ s.flag NET_LANE_CTL_EN 1 = true ∧ s.reg NET_LANE_CFG_MODE 1 ≠ 0)
      ∧ (dn.flag NET_LANE_STATUS_LINK 1 = false ∧ dn.flag NET_LANE_CTL_EN 1 = true ∧ dn.flag NET_LANE_STATUS_ADDR_OK 1 = false ∧ dn.reg NET_LANE_IPCFG_SRC 1 = 2)
      ∧ (fall.flag NET_LANE_STATUS_LINK 1 = true ∧ fall.flag NET_LANE_STATUS_ADDR_OK 1 = false ∧ fall.lanes[(1 : Fin 2)].upSince + 6000000000
        ≤ ({ fall with cycles := 6000000000 } : State).cycles)
      ∧ (s.reg NET_LANE_IP_NOW_IP 1 = 0xFFFFFFFF ∧ s.flag NET_LANE_CFG_VLAN_EN 1 = false ∧ s.joined 1 = [])
      ∧ ((s.put NET_LANE_CFG_VLAN_EN 1 1).flag NET_LANE_CFG_VLAN_EN 1 = true ∧ (none : Option Nat) ≠ some (s.reg NET_LANE_CFG_VID 1)) := by
  decide +kernel

/-- The device at whose control port 1 on lane 0 messages arrive; key 3 is stored. -/
def ccSt (fl seq cnt : Nat) : State :=
  { sets State.reset [(NET_CC_CFG_PORT, 0, 1), (NET_CC_CFG_LANES, 0, 1), (NET_LANE_CTL_EN, 0, 1), (NET_LANE_STATUS_ADDR_OK, 0, 1), (NET_LANE_IP_NOW_IP, 0, 9),
      (SEC_STATUS_KEYS_LOCKED, 0, fl)] with
    cc := { floors := #v[0, 0, 0, seq], count := cnt }, sec := { ccKeys := #v[none, none, none, some [1]] } }

/-- The bytes before the tag of a message of key 3, the highest SEQ and one payload byte. -/
def ccHead : List Byte := [0x4A, 0x43, 1, 3, 255, 255, 255, 255, 255, 255, 255, 255, 0, 1, 0, 0, 7]

theorem ccHead_bytes : ccBytes 1 3 [1] (2 ^ 64 - 1) [7] = ccHead ++ Config.hmacSha256 [1] ccHead := by
  have h : beBytes 2 0x4A43 ++ beBytes 1 1 ++ beBytes 1 (3 : Fin 4).val ++ beBytes 8 (2 ^ 64 - 1) ++ beBytes 2 [(7 : Byte)].length ++ [0, 0] ++ [7]
      = ccHead := by decide +kernel
  simp only [ccBytes, h]

theorem ccHead_parse (tag : List Byte) (h : tag.length = 32) :
    ccParse (ccHead ++ tag) = some { key := 3, seq := 2 ^ 64 - 1, payload := [7], tag := tag, covered := ccHead } := by
  have h1 : beNat ((ccHead.drop 12).take 2) = 1 := by decide
  have h2 : toFin? 4 (beNat ((ccHead.drop 3).take 1)) = some 3 := by decide
  have h3 : beNat ((ccHead.drop 4).take 8) = 2 ^ 64 - 1 := by decide +kernel
  simp [ccHead] at h1 h2 h3
  simp [ccParse, ccHead, h]
  simp [h1, h2, h3]
  refine ⟨⟨by decide, by decide⟩, ?_⟩
  first
    | exact List.take_of_length_le (by omega)
    | omega

theorem cc_key_parse :
    ∃ m, ccParse (ccHead ++ Config.hmacSha256 [1] ccHead) = some m ∧ m.key = 3 ∧ m.seq = 2 ^ 64 - 1 ∧ Config.hmacSha256 [1] m.covered = m.tag :=
  ⟨_, ccHead_parse _ (by simp [Config.hmacSha256]), rfl, rfl, rfl⟩

theorem witness_ControlChannel :
    let d (l : List Byte) : Datagram := { src := 5, dst := 9, sport := 6, dport := 1, payload := l }
    let opened (s : State) : Bool := s.reg NET_CC_CFG_PORT != 0 && (d []).dport == s.reg NET_CC_CFG_PORT && s.maskBit NET_CC_CFG_LANES 0
      && s.flag NET_LANE_CTL_EN 0 && s.flag NET_LANE_STATUS_ADDR_OK 0 && (d []).dst == s.reg NET_LANE_IP_NOW_IP 0
    (opened State.reset = false ∧ opened (ccSt 0 5 0) = true) ∧ ccParse [] = none
      ∧ ((ccSt 0 5 1000).cc.second = (ccSt 0 5 1000).cycles / 600000000 ∧ ¬(ccSt 0 5 1000).cc.count < 1000 ∧ (ccSt 0 5 999).cc.count < 1000)
      ∧ ((ccSt 0 5 0).sec.ccKeys[(3 : Fin 4)] = some [1] ∧ (ccSt 0 5 0).sec.ccKeys[(2 : Fin 4)] = none)
      ∧ ((ccSt 0 5 0).flag SEC_STATUS_KEYS_LOCKED = false ∧ (ccSt 1 5 0).flag SEC_STATUS_KEYS_LOCKED = true)
      ∧ (2 ^ 64 - 1 ≤ (ccSt 0 (2 ^ 64 - 1) 0).cc.floors[(3 : Fin 4)] ∧ (ccSt 0 (2 ^ 64 - 2) 0).cc.floors[(3 : Fin 4)] < 2 ^ 64 - 1)
      ∧ ((ccSt 0 5 0).mbx.remote < 15
        ∧ 15 ≤ ({ queue := List.replicate 15 { src := .tunnel 0 0 0, words := [] } } : Mailbox).remote) := by
  decide +kernel

theorem witness_ClockInputs :
    let at_ (st : Nat) (x : InMonitor) (c : Nat) (l : List (Field × Nat × Nat) := []) : State :=
      { sets State.reset ([(CLK_IN_STATUS_STATE, 0, st), (CLK_MPLL_CFG_REF, 0, 1), (CLK_MPLL_STATUS_STATE, 0, 3)] ++ l) with cycles := c, monitors := [(0, x)] }
    let inn : InMonitor := { lastEdge := some 0 }
    (State.reset.flag CLK_STATUS_REF_HOLD = false ∧ (State.reset.put CLK_STATUS_REF_HOLD 0 1).flag CLK_STATUS_REF_HOLD = true)
      ∧ (59999999 < 0 + 60000000) ∧ (State.reset.monitored 0 = false ∧ (at_ 0 {} 0).monitored 0 = true)
      ∧ (let p := 5 * (12500 - 0)
         100 * p ≤ 105 * (at_ 0 inn 12500).expectedThirds 0 ∧ 95 * (at_ 0 inn 12500).expectedThirds 0 ≤ 100 * p)
      ∧ ¬(100 * (5 * (14000 - 0)) ≤ 105 * (at_ 0 inn 14000).expectedThirds 0)
      ∧ ((at_ 5 { inn with inRun := 63 } 12500).reg CLK_IN_STATUS_STATE 0 = 5 ∧ (at_ 5 inn 12500).pllInput 0 = some 0 ∧ (at_ 5 inn 12500).pllState 0 = 3
        ∧ ((at_ 5 inn 12500).pll 0).rateRamp = false)
      ∧ ((at_ 3 inn 12500).cycles < 0 + 600000000 ∧ (at_ 1 { inn with outRun := [1] } 12500).monitored 0 = true)
      ∧ ((at_ 1 inn 25000).monitored 0 = true ∧ 2 * (at_ 1 inn 25000).expectedThirds 0 ≤ 5 * (25000 - 0)
        ∧ (at_ 1 inn 25000 [(CLK_MPLL_STATUS_STATE, 0, 2)]).pllState 0 = 2) := by
  decide +kernel

theorem witness_ClockPlls :
    let s (st : Nat) (x : MediaPll := {}) (c : Nat := 0) : State :=
      { (State.reset.put CLK_MPLL_STATUS_STATE 1 st).put SE_RG_CFG_RATE 3 5 with plls := #v[{}, x], cycles := c }
    let sp (y : SerdesPll) : State := { State.reset with sps := #v[{}, y], cycles := 120000 }
    let gated := (s 3 { rateRamp := true }).setGroup 3 { gated := true }
    let rj : State := { State.reset with time := { rejoin := some .slew } }
    ((s 6).pllState 1 ∈ [2, 3, 4, 6]) ∧ (s 5).pllState 1 ∉ [2, 3, 4, 6]
      ∧ ((s 1 {} 1200000).pllState 1 = 1 ∧ ((s 1 {} 1200000).pll 1).lockSince + 1200000 ≤ (s 1 {} 1200000).cycles ∧ (s 1 {} 1199999).cycles < 0 + 1200000)
      ∧ (((s 1 { attempts := 1 }).pll 1).attempts < 2 ∧ 2 ≤ ((s 1 { attempts := 2 }).pll 1).attempts)
      ∧ ((sp { locking := true }).sps[(1 : Fin 2)].locking = true ∧ (sp { locking := true }).sps[(1 : Fin 2)].since + 120000 ≤ (sp {}).cycles
        ∧ (sp { locking := true, attempts := 1 }).sps[(1 : Fin 2)].attempts < 2 ∧ (sp {}).sps[(1 : Fin 2)].locking = false)
      ∧ ((gated.pll 1).rateRamp = true ∧ gated.pllState 1 = 3 ∧ (List.finRange 4).all (fun g => gated.fs g == 0 || (gated.group g).gated) = true)
      ∧ ((s 5).pllState 1 = 5 ∧ (s 5).pllInput 1 = none) ∧ (s 4).pllState 1 = 4
      ∧ (rj.time.rejoin = some .slew ∧ (BitVec.ofNat 32 (rj.reg TIM_THETA)).toInt.natAbs < 25600 ∧ State.reset.time.rejoin ≠ some .slew) := by
  decide +kernel

/-! ## Security processor, resets, power -/

/-- MGT runs the image of slot 0, whose state byte is `b`. -/
def secSt (b : Byte) (l : List (Field × Nat × Nat) := []) (x : Sec := {}) : State :=
  { sets State.reset l with flash := if b = 0xFF then [] else [(slotBase 0, b)], sec := { x with phase := .run, running := some 0 } }

theorem witness_SecOperations :
    let kept : Sec := { ccKeys := #v[none, none, none, some [1]], ccLocked := 7 }
    State.reset.sec.phase ≠ .run ∧ ((secSt 0xFF [(PWR_STATUS_BO_WARN, 0, 1)]).ok = true ∧ (secSt 0xFF [(PWR_STATUS_BO_WARN, 0, 1)]).flag PWR_STATUS_BO_WARN = true)
      ∧ ((secSt 0xFC).ok = true ∧ (secSt 0xFC).sec.phase = .run ∧ (secSt 0xFC).flag PWR_STATUS_BO_WARN = false)
      ∧ ((secSt 0xFC).sec.running ≠ some 1 ∧ (secSt 0xFC).imageState 1 ≠ 2) ∧ (secSt 0xFC).sec.running = some 0
      ∧ ((secSt 0xFC).runningState = 2 ∧ (secSt 0xF8).runningState = 3 ∧ (secSt 0xF8).ok = true)
      ∧ ((secSt 0xF8 [(SEC_VERSION, 0, 1)]).reg SEC_MINVER < (secSt 0xF8 [(SEC_VERSION, 0, 1)]).reg SEC_VERSION)
      ∧ ((secSt 0xF8 [(SEC_IMG_EPOCH, 0, 1)]).fuseEpoch < min ((secSt 0xF8 [(SEC_IMG_EPOCH, 0, 1)]).reg SEC_IMG_EPOCH) 32)
      ∧ ((secSt 0xF8).reg SEC_KEYS_SIGNER ≠ 3)
      ∧ ((secSt 0xF8 [] kept).sec.ccLocked.testBit 3 = false ∧ (secSt 0xF8 [] kept).sec.ccLocked.testBit 2 = true
        ∧ (secSt 0xF8 [] kept).sec.ccKeys[(3 : Fin 4)].isSome = true ∧ (secSt 0xF8 [] kept).sec.ccKeys[(2 : Fin 4)].isSome = false) := by
  decide +kernel

theorem witness_SecFloors :
    let s : State := { secSt 0xF8 with cc := { floors := Vector.replicate 4 (2 ^ 64 - 65537) } }
    s.ok = true ∧ ∀ i : Fin 4, s.storedFloors[i] ≤ s.askedFloors[i] := by
  refine ⟨by decide +kernel, ?_⟩
  have h : ∀ s : State, s.storedFloors = Vector.replicate 4 0 ∨ ∃ k : Fin 2, s.storedFloors
      = Vector.ofFn fun j : Fin 4 => leAt (s.flashBytes (0x4000 + 4096 * k.val) 68) (4 + 8 * j.val) 8 := by
    intro s
    unfold State.storedFloors
    split
    · exact .inr ⟨_, rfl⟩
    · exact .inl rfl
  obtain h | ⟨k, h⟩ := h _
  · rw [h]
    decide +kernel
  · rw [h]
    clear h
    revert k
    decide +kernel

theorem witness_Recovery :
    let w (x : Sec) (c : Nat) (l : List (Field × Nat × Nat) := []) : State := { sets State.reset l with sec := x, cycles := c }
    (State.reset.ok = true ∧ State.reset.flag PWR_STATUS_BO_WARN = false ∧ State.reset.sec.phase = .start)
      ∧ ((w { phase := .window } 1200000000).ok = true ∧ (w { phase := .window } 0).reg SEC_RCV_CTL_SLOT = (0 : Fin 2).val
        ∧ 0 + 1200000000 ≤ (w { phase := .window } 1200000000).cycles ∧ (w { phase := .window } 1199999999).cycles < 0 + 1200000000)
      ∧ (let r := w { phase := .receive 1 0 } 6000000000 [(SEC_RCV_LEN, 0, 4)]
         r.ok = true ∧ r.sec.phase = .receive 1 0 ∧ 4 * 0 < min (r.reg SEC_RCV_LEN) bundleMax ∧ min (r.reg SEC_RCV_LEN) bundleMax ≤ 4 * 1
          ∧ r.sec.since + 6000000000 ≤ r.cycles ∧ (w { phase := .receive 1 0 } 5999999999).cycles < 0 + 6000000000) := by
  decide +kernel

theorem witness_Resets :
    let run := secSt 0xFF
    let lock (a c : Nat) : State := { State.reset with sysAttempts := a, cycles := c }
    (run.ok = true ∧ run.sec.phase ≠ .held ∧ run.sec.phase ≠ .start ∧ run.power.warm = false)
      ∧ (State.reset.sec.phase = .start ∧ State.reset.reg GLB_RST_CAUSE_LAST = 1)
      ∧ (({ run with power := { sleep := 4 } } : State).power.sleep = 4 ∧ run.power.sleep ≠ 4)
      ∧ ((run.put SEC_STATUS_TRIAL 0 1).flag SEC_STATUS_TRIAL = true ∧ (run.put SEC_STATUS_TRIAL 0 1).sec.trialSince
          + (run.put SEC_STATUS_TRIAL 0 1).sec.trialSeconds * 600000000 ≤ run.cycles)
      ∧ ({ State.reset with sec := { phase := .held } } : State).sec.phase = .held
      ∧ ((lock 1 120000).sec.phase = .start ∧ (lock 1 120000).flag CLK_STATUS_SYS_LOCK = false ∧ (lock 1 120000).sec.since + 120000 ≤ (lock 1 120000).cycles
        ∧ (lock 1 120000).sysAttempts < 2 ∧ 2 ≤ (lock 2 120000).sysAttempts ∧ (lock 0 120000).flag PWR_STATUS_BO_WARN = false)
      ∧ (({ run with refStopped := some 0, cycles := 60000000 } : State).cycles = 0 + 60000000 ∧ (run.put CLK_STATUS_SYS_LOCK 0 1).flag CLK_STATUS_SYS_LOCK = true)
      ∧ headerOk ((State.reset).flashBytes 0 64) = false := by
  decide +kernel

theorem witness_WarmReset :
    let run := secSt 0xFF
    let e : SleepEntry := { target := 1, stop := false }
    let due := { (sets run [(LDR_STATUS_STATE, 0, 4), (STR_HG_STATUS_STATE, 255, 2)]) with power := { warm := true } }.setGroup 3 { autorun := true, autoMode := 2 }
    State.reset.sec.phase ≠ .run ∧ ({ run with power := { entry := some e } } : State).power.entry = some e
      ∧ (run.sec.phase = .run ∧ run.power.warm = false ∧ run.power.entry = none)
      ∧ (due.power.warm = true ∧ due.power.sleep = 0 ∧ (List.finRange 4).all (fun g => due.rgState g == 0) = true ∧ due.reg LDR_STATUS_STATE ≠ 2
        ∧ due.reg LDR_STATUS_STATE ≠ 3 ∧ (due.group 3).autorun = true) := by
  decide +kernel

theorem witness_PowerLevels :
    let s := secSt 0xFF
    let v (l : Nat) := ((s.put PWR_PL_REQ_LEVEL 0 l).put PWR_PL_STATUS_TARGET 0 l).put PWR_PL_STATUS_SOURCE 0 0
    let tight := (sets State.reset [(SE_RG_CFG_RATE, 3, 8), (SE_RG_STATUS_ACTIVE, 3, 1)]).setCore 0
      { prog := #v[{ len := 32767 }, {}] }
    let off := sets State.reset [(PWR_STATUS_DOMAINS, 0, 0xF), (PWR_VOTE_DOMAINS, 0, 2 ^ 11)]
    let dm : State := { State.reset with power := { demand := [(11, 0)] } }
    ((7 : Fin 8).val > 5 ∧ s.flag PWR_PL_MGT_EN = false ∧ s.flag PWR_STATUS_BO_WARN = false ∧ s.flag PWR_STATUS_PL_BUSY = false)
      ∧ ((5 : Nat) ≠ s.reg PWR_PL_STATUS_CUR ∧ s.power.entry = none ∧ (List.finRange 4).all (fun g => (v 5).groupAccepts g 5) = true)
      ∧ ((State.reset.reg PWR_PL_STATUS_CUR = 2) ∧ State.reset.power.change = none
        ∧ ({ s with power := { change := some 5 } } : State).power.change = some 5)
      ∧ ((List.finRange 3).all (fun g => tight.groupAccepts ⟨g.val, by omega⟩ 0) = true ∧ tight.groupAccepts 3 0 = false)
      ∧ ((State.reset.put PWR_STATUS_DOMAINS 0 0xFFF).domainOn 7 = true ∧ (State.reset.put PWR_STATUS_DOMAINS 0 0xFFF).voted 7 = false)
      ∧ (off.domainOn 11 = false ∧ off.voted 11 = true ∧ off.power.sleep = 0 ∧ off.power.entry = none ∧ off.hostBus = [] ∧ off.qspi = none)
      ∧ (tabGet? 11 dm.power.demand = some 0 ∧ tabWf dm.power.demand = true ∧ 0 + dm.reg PWR_DEMAND_HOLD * 600000
          ≤ ({ dm with cycles := dm.reg PWR_DEMAND_HOLD * 600000 } : State).cycles ∧ dm.cycles < 0 + dm.reg PWR_DEMAND_HOLD * 600000)
      ∧ ((State.reset.put PWR_STATUS_BO_WARN 0 1).flag PWR_STATUS_BO_WARN = true) := by
  decide +kernel

theorem witness_PowerSleep :
    let run := sets (secSt 0xFF) [(PWR_CFG_WAKE_SRC, 0, 0x7F)]
    let sl (n : Nat) (x : Power := {}) : State := { run with power := { x with sleep := n } }
    let entry (l : List Nat) (c : Nat) (st : Nat) : State := { sl 3 { entry := some { target := 3, stop := false, step := st }, latched := l } with cycles := c }
    let w := run.putFlag PWR_SLEEP_CTL_STOP 0 false
    let resl (n : Bool) : State := { run with power := { resleep := some { target := 4, stop := true, since := some 0 } }, wakeNamed := n, cycles := 60000000 }
    (run.power.entry = none ∧ run.power.sleep = 0 ∧ (entry [] 0 2).power.entry.isSome = true)
      ∧ (w.put PWR_SLEEP_CTL_STATE 0 1).prepareRefuser 1 false = none ∧ ((w.put PWR_VOTE_DEEPEST 0 0).prepareRefuser 1 false).isSome = true
      ∧ ((entry [] 3600 9).power.latched = [] ∧ 0 + 3600 ≤ (entry [] 3600 9).cycles ∧ (entry [1] 3600 9).power.latched = [1] ∧ (entry [] 3599 9).cycles < 0 + 3600)
      ∧ ((sl 3).power.sleep ∈ [1, 2, 3] ∧ (sl 3).power.waking = none ∧ (sl 3).power.entry = none)
      ∧ ((sl 4).maskBit PWR_CFG_WAKE_SRC 1 = true ∧ (sl 4).power.wakePins.testBit 1 = true ∧ (sl 4).flag PWR_WAKE_CFG_MODE1 = false)
      ∧ ((sl 3).maskBit PWR_CFG_WAKE_SRC 5 = true ∧ (sl 3).isWakeFrame 0 0 0 [] = false)
      ∧ ((sl 1 { waking := some 1 }).power.waking = some 1 ∧ (sl 2 { waking := some 3 }).power.waking = some 3)
      ∧ ({ sl 2 { waking := some 2 } with sec := { retained := some ([1], [], 0) } } : State).sec.retained = some ([1], [], 0)
      ∧ ((resl true).wakeNamed = true ∧ (resl false).wakeNamed = false ∧ 0 + 60000000 ≤ (resl false).cycles) := by
  decide +kernel

/-! ## Mailbox, management, host interfaces -/

/-- The firmware runs and a command with these words, sent by `src`, is at the front of the mailbox queue. -/
def mbxSt (words : List Word) (src : MbxSource := .host) (l : List (Field × Nat × Nat) := []) : State :=
  { secSt 0xFF l with mbx := { queue := [{ src := src, words := words }] } }

/-- The command is worked on, its source may send it, and its words are of the lengths said. -/
def mbxWorks (s : State) (code : Nat) (n : Nat) : Bool :=
  s.ok && s.mbx.reply.isNone && decide (s.sec.phase = .run) && decide (s.power.sleep < 2) && !s.mbx.reading
    && !s.flag HST_XSPI_STATUS_SUSPENDED && !s.flag PWR_STATUS_BO_WARN && decide (s.hostBus = [] ∧ s.lateBus = [] ∧ s.qspi = none)
    && match s.mbx.queue with
      | [e] => decide ((e.words.headD 0).toNat % 2 ^ 16 = code) && decide (e.words.length - 1 = n)
        && mailboxCodes.all fun r => decide (code ≠ r.1) || r.2.contains e.src.kind
      | _ => false

theorem witness_MailboxQueue :
    let ctl : MbxSource := .control 0 1 2 3 4
    let done (src : MbxSource) (x : Mailbox := {}) : State :=
      { secSt 0xFF with mbx := { x with queue := [{ src := src, words := [0x50001] }, { src := .host, words := [0x99] }], reply := some (0, [7]) } }
    let upd (c : Nat) : State := { State.reset with update := some { owner := 0, slot := 1, len := 8, since := 0 }, cycles := c }
    let tun (w0 w1 : Word) (x : Tunnel := {}) : State := { sets State.reset [(RLK_GLB_CFG_DEV_ID, 0, 9)] with tunMsgs := [(2, [w0, w1, 5])], tunnel := x }
    let sent (k c : Nat) : State := { State.reset with
      tunnel := { sent := [{ dst := 7, seq := 3, words := [1, 2], tries := k, since := 0, command := true }] }, cycles := c }
    (State.reset.put MBX_STATUS_STATE 0 1).reg MBX_STATUS_STATE ∈ [1, 2] ∧ State.reset.reg MBX_STATUS_STATE ∉ [1, 2]
      ∧ ((secSt 0xFF).sec.phase = .run ∧ (secSt 0xFF).power.sleep < 2 ∧ (secSt 0xFF).mbx.queue = [] ∧ (secSt 0xFF).mbx.reply = none)
      ∧ (mbxWorks (mbxSt [0x10]) 0x10 0 = true ∧ (0x10 : Nat) ∈ mailboxCodes.map (fun r => r.1) ∧ (0x99 : Nat) ∉ mailboxCodes.map fun r => r.1)
      ∧ ([MbxSource.host, ctl, .tunnel 7 0 3].all fun src => decide ((done src).mbx.reply = some (0, [7]) ∧ (done src).sec.phase = .run
          ∧ (done src).mbx.reboot = false)) = true
      ∧ ((done ctl { reboot := true }).mbx.reboot = true ∧ (done ctl { reboot := true }).mbx.reply.isSome = true
        ∧ (done ctl { reboot := true }).power.warm = false)
      ∧ ((upd 36000000000).update.isSome = true ∧ 0 + 36000000000 ≤ (upd 36000000000).cycles ∧ (upd 35999999999).cycles < 0 + 36000000000)
      ∧ ((7, 4) ∉ (tun 0x02007009 4).tunnel.seen ∧ (0x02007009 : Word).toNat % 4096 = (tun 0x02007009 4).reg RLK_GLB_CFG_DEV_ID
        ∧ (0x02007008 : Word).toNat % 4096 ≠ 9 ∧ (0x01007008 : Word).toNat / 2 ^ 24 = 1 ∧ (0x20004 : Word).getLsbD 17 = true
        ∧ (0x20004 : Word).getLsbD 16 = false ∧ (0x10003 : Word).getLsbD 16 = true ∧ (0x10003 : Word).toNat % 65536 = 3)
      ∧ ((sent 2 12000000).cycles = 12000000 ∧ (sent 3 12000000).tunnel.sent.length = 1 ∧ (sent 0 11999999).cycles < 0 + 12000000) := by
  decide +kernel

theorem witness_MailboxCommands :
    let ctl : MbxSource := .control 0 1 2 3 4
    let user := BitVec.ofNat 32 0x8110000
    let upd (u : Update) (s : State) : State := { s with update := some u }
    let u : Update := { owner := 0, slot := 1, len := 8, since := 0 }
    (mbxWorks (mbxSt [0x1]) 0x1 0 = true ∧ mbxWorks (mbxSt [0x2, 0x10, 1] ctl) 0x2 2 = true ∧ mbxWorks (mbxSt [0x3, 0x10, 5] ctl) 0x3 2 = true
        ∧ mbxWorks (mbxSt [0x2]) 0x2 0 = false ∧ (mbxSt [0x2]).domainOn 0 = true)
      ∧ (mbxWorks (mbxSt [0x10]) 0x10 0 = true ∧ mbxWorks (mbxSt [0x20, 0, 0, 62]) 0x20 3 = true ∧ mbxWorks (mbxSt [0x21]) 0x21 0 = true
        ∧ mbxWorks (mbxSt [0x30, 0x0FFFFFFC, 1]) 0x30 2 = true ∧ 0x0FFFFFFC + 4 * 1 ≤ 2 ^ 28 ∧ 2 ^ 28 < 0x0FFFFFFC + 4 * 2)
      ∧ (mbxWorks (mbxSt [0x31, user, 5]) 0x31 2 = true ∧ mbxWorks (mbxSt [0x32, user]) 0x32 1 = true ∧ 0x8110000 ≤ user.toNat
        ∧ user.toNat % 2 ^ 16 = 0 ∧ (user - 4).toNat < 0x8110000 ∧ (mbxSt [0x31] .host [(HST_XSPI_STATUS_SUSPENDED, 0, 1)]).ok = true)
      ∧ (mbxWorks (mbxSt [0x40, 67104768]) 0x40 1 = true ∧ (mbxSt [0x40]).imageState 1 ≠ 2 ∧ (mbxSt [0x40]).flag SEC_STATUS_TRIAL = false
        ∧ (mbxSt [0x40]).update = none ∧ (upd { u with owner := 1 } (mbxSt [0x40])).update.isSome = true)
      ∧ (mbxWorks (upd u (mbxSt [0x41, 0, 5, 6])) 0x41 3 = true ∧ u.written + 4 * 2 ≤ (u.len + 3) / 4 * 4
        ∧ (mbxSt [0x42]).sec.running ≠ some u.slot ∧ (mbxSt [0x42]).imageState u.slot ≠ 2 ∧ mbxWorks (upd u (mbxSt [0x42, 1])) 0x42 1 = true
        ∧ (upd { u with slot := 0 } (mbxSt [0x42])).sec.running = some 0 ∧ mbxWorks (upd u (mbxSt [0x43])) 0x43 0 = true)
      ∧ (mbxWorks (mbxSt [0x50, 3]) 0x50 1 = true
        ∧ mbxWorks (mbxSt [0x60, 7, 255, 9]) 0x60 3 = true ∧ mbxWorks (mbxSt [0x60, 7, 255]) 0x60 2 = true
        ∧ mbxWorks { mbxSt [0x61] with tunnel := { replies := [[1]] } } 0x61 0 = true ∧ mbxWorks (mbxSt [0x61]) 0x61 0 = true)
      ∧ (mbxWorks (mbxSt [0x70, 1]) 0x70 1 = true ∧ mbxWorks (mbxSt [0x70, 2] ctl) 0x70 1 = true ∧ (mbxSt [0x70]).power.warm = false
        ∧ (mbxSt [0x70]).power.entry = none) := by
  decide +kernel

/-- The codes of SEC_OP are the firmware's (log entry 42): under any code of an operation the words name it, and another code names none. -/
theorem witness_SecOpWords (w : Word) (i : Fin 11) (h : Config.secOp w.toNat = i.val) :
    ((({ src := .host, words := 0x50 :: w :: List.replicate 12 0 } : MbxEntry).secOp).map fun o => o.index) = if i.val = 10 then none else some i.val := by
  unfold MbxEntry.secOp
  have e : ({ src := .host, words := 0x50 :: w :: List.replicate 12 0 } : MbxEntry).arg 0 = w.toNat := rfl
  rw [e, h]
  clear h e
  match i with
  | 0 => rfl
  | 1 => rfl
  | 2 => rfl
  | 3 => rfl
  | 4 => rfl
  | 5 => rfl
  | 6 => rfl
  | 7 => rfl
  | 8 => rfl
  | 9 => rfl
  | 10 => rfl

theorem witness_Management :
    let s := sets (secSt 0xFF) [(MGT_THERM_CFG_WARN, 0, 85), (MGT_THERM_CFG_HOT, 0, 105), (MGT_SUP_LIM_HI, 0, 100)]
    let hot := s.put MGT_THERM_STATUS_LEVEL 0 2
    let temps (v : Int) : Vector (BitVec 16) 6 := Vector.replicate 6 (BitVec.ofInt 16 v)
    let pin := (s.put HST_GPIO_INT_EN 0 8).put HST_GPIO_INT_EDGE 0 (4 ^ 3)
    let logged : State := { s with aonLog := [{ sec := 1, ns := 2, coarse := false, kind := 0, code := 112, arg := 0 }], logPending := 1 }
    s.ok = true ∧ (s.sec.phase = .run ∧ s.power.sleep < 2) ∧ State.reset.sec.phase ≠ .run
      ∧ ((temps 840)[(0 : Fin 6)].toInt = 8 * 105 ∧ 8 * (BitVec.ofNat 8 (s.reg MGT_THERM_CFG_HOT)).toInt = 840 ∧ (temps (-1))[(5 : Fin 6)].toInt = -1
        ∧ 8 * (BitVec.ofNat 8 (s.reg MGT_THERM_CFG_WARN)).toInt = 680 ∧ hot.reg MGT_THERM_STATUS_LEVEL = 2)
      ∧ (s.reg MGT_SUP_LIM_LO 0 ≤ s.reg MGT_SUP_VALUE 0 ∧ s.reg MGT_SUP_VALUE 0 ≤ s.reg MGT_SUP_LIM_HI 0 ∧ s.reg MGT_SUP_LIM_HI 0 < 101)
      ∧ (s.logPending = 0 ∧ logged.logPending ≠ 0 ∧ logged.ok = true ∧ logged.flag HST_XSPI_STATUS_SUSPENDED = false)
      ∧ (pin.maskBit HST_GPIO_IN 3 = false ∧ pin.reg HST_GPIO_FUNC / 4 ^ 3 % 4 = 0 ∧ pin.maskBit HST_GPIO_DIR 3 = false
        ∧ pin.maskBit HST_GPIO_INT_EN 3 = true ∧ (pin.reg HST_GPIO_INT_EDGE / 4 ^ 3 % 4).testBit 0 = true
        ∧ (pin.reg HST_GPIO_INT_EDGE / 4 ^ 3 % 4).testBit 1 = false) := by
  decide +kernel

theorem witness_HostAccess :
    let s := secSt 0xFF [(PWR_STATUS_DOMAINS, 0, 0xFFF)]
    (State.reset.sec.phase ∈ [.held, .start] ∧ State.reset.power.sleep = 0 ∧ State.reset.qspi.isSome = false)
      ∧ (s.sec.phase = .run ∧ s.power.sleep = 0 ∧ s.hostBus = [] ∧ s.lateBus = [] ∧ s.qspi = none ∧ s.domainOn (s.busDomain 0x10) = true
        ∧ s.demanded (s.busDomain 0x10) = false ∧ (0x10 : Nat) ≠ cwDataAddr)
      ∧ ((0x00 : Byte).toNat / 64 = 0 ∧ (0x00 : Byte).toNat % 16 + 1 = 1 ∧ (0x40 : Byte).toNat / 64 = 1 ∧ (0x60 : Byte).getLsbD 5 = true
        ∧ 2 ≤ (0x80 : Byte).toNat / 64 ∧ crc16 (0x60 :: (beBytes 3 0x10 ++ wordBytes 5)) ≠ 0)
      ∧ ([0x10, 0x100100, 0x110020, 0x110024, 0x110030, 0x120940, 0x120980, 0x0E0024, 0x018000, 0x100000, 0x13FFFC, 0x140000, 0x800000].all
          fun a => s.domainOn (s.busDomain a) && !s.demanded (s.busDomain a)) = true
      ∧ (({ s.put PWR_STATUS_DOMAINS 0 0xF with power := { sleep := 2 } } : State).domainOn
          (({ s.put PWR_STATUS_DOMAINS 0 0xF with power := { sleep := 2 } } : State).busDomain 0x018000) = false)
      ∧ s.maskBit EVT_PEND 0 = false ∧ (s.raise 3).maskBit EVT_PEND 3 = true := by
  decide +kernel

/-- The check value of CRC-16 over the ASCII digits 1 to 9 (09 R420; 16 R665). -/
theorem test_crc16_check : crc16 [0x31, 0x32, 0x33, 0x34, 0x35, 0x36, 0x37, 0x38, 0x39] = 0x29B1 := by decide +kernel

/-- A reserved OP and an ADDR that is not a multiple of 4 are answered BAD_CMD (16 R666). -/
theorem test_qspi_bad_cmd :
    ([(0x80, 0x10), (0x00, 0x11)].all fun q => match exec (.qspiRead q.1 q.2 0) (secSt 0xFF) with
      | .next t => decide (t.qspiReply = some { status := 0x84 }) && t.flag HST_STATUS_QSPI_ERR
      | _ => false) = true := by
  decide +kernel

/-- A CONFIRM is asked by word 1 = 2 of SEC_OP; GO puts it into the queue (16 R675, R677). -/
theorem test_mailbox_go :
    (match exec .mailboxGo (sets (secSt 0xFF) [(MBX_REQ_WORD, 0, 0x10050), (MBX_REQ_WORD, 1, 2)]) with
      | .next t => decide (t.mbx.queue.map (fun e => e.words) = [[0x10050, 2]] ∧ t.reg MBX_STATUS_STATE = 2)
      | _ => false) = true := by
  decide +kernel
/-! ## Loader -/

/-- Little-endian bytes. -/
def le (n v : Nat) : List Byte := (List.range n).map fun i => BitVec.ofNat 8 (v / 256 ^ i)

/-- A record as bytes (14 R601). -/
def recBytes (typ flags : Nat) (ws : List Word) : List Byte :=
  let l := le 2 typ ++ le 2 flags ++ le 4 (4 * ws.length) ++ ws.flatMap wordBytes
  l ++ wordBytes (crc32c l)

/-- A bitstream up to its digest: header, records, and the first 24 bytes of the trailer (14 R597, R598). -/
def bsHead (scope g nrec : Nat) (body : List Byte) : List Byte :=
  let h := [0x41, 0x4A, 0x42, 0x53] ++ le 2 1 ++ le 2 0x1648 ++ [BitVec.ofNat 8 scope, BitVec.ofNat 8 g, 0, 0] ++ le 4 (232 + body.length) ++ le 8 5
    ++ le 4 0 ++ le 4 0 ++ [0, 0, 0, 0] ++ le 4 nrec ++ List.replicate 20 0
  h ++ wordBytes (crc32c h) ++ body ++ [0x41, 0x4A, 0x42, 0x54] ++ List.replicate 20 0

/-- The whole bitstream: the digest of what comes before it, and a signature of zeros. -/
def bsWhole (head : List Byte) : List Byte := head ++ (List.range 48).map (fun i => (Config.sha384Bytes head).toList.getD i 0) ++ List.replicate 96 0

/-- Flash that holds a bitstream at address 0, and a verify pass over it. -/
def ldSt (l : List Byte) (s : State := State.reset) : State :=
  { s.put LDR_STATUS_STATE 0 1 with flash := l.zipIdx.map fun p => (p.2, p.1), loader := { load := some { addr := 0, len := l.length } } }

/-- Bytes laid out as flash cells read as they stand. -/
theorem memByte_zip (l : List Byte) (n k : Nat) (h : n ≤ k) : memByte 0xFF ((l.zipIdx n).map fun p => (p.2, p.1)) k = l.getD (k - n) 0xFF := by
  induction l generalizing n with
  | nil => simp [memByte, tabGet, tabGet?]
  | cons x t ih =>
    by_cases hk : n = k
    · subst hk; simp [memByte, tabGet, tabGet?]
    · have e : k - n = (k - (n + 1)) + 1 := by omega
      rw [e]
      simp only [List.getD_cons_succ]
      rw [← ih (n + 1) (by omega)]
      have h1 : ¬k < n := by omega
      have h2 : ¬k = n := by omega
      simp [memByte, tabGet, tabGet?, h1, h2]

theorem flash_bytes (s : State) (l : List Byte) (h : s.flash = l.zipIdx.map fun p => (p.2, p.1)) : s.flashBytes 0 l.length = l := by
  apply List.ext_getElem
  · simp [State.flashBytes]
  · intro i h1 h2
    have hz := memByte_zip l 0 i (Nat.zero_le i)
    simp only [State.flashBytes, State.flashByte, h, List.getElem_map, List.getElem_range, Nat.zero_add]
    rw [hz]
    simp [h2]

theorem sha384_list (head : List Byte) : (List.range 48).map (fun i => (Config.sha384Bytes head).toList.getD i 0) = Config.sha384 head := by
  unfold Config.sha384
  generalize Config.sha384Bytes head = v
  apply List.ext_getElem
  · simp
  · intro i h1 h2
    simp at h2
    simp [h2]

theorem bsWhole_digest (head : List Byte) (h : 24 ≤ head.length) :
    bsDigest (bsWhole head) = Config.sha384 head ∧ (bsWhole head).take ((bsWhole head).length - 144) = head := by
  have hl : (bsWhole head).length = head.length + 144 := by simp [bsWhole]
  refine ⟨?_, ?_⟩
  · simp only [bsDigest, bsTrailer, hl, List.drop_drop]
    have hn : head.length + 144 - 168 + 24 = head.length := by omega
    rw [hn]
    simp only [bsWhole, sha384_list, List.append_assoc, List.drop_left]
    rw [List.take_append_of_le_length (by simp [Config.sha384])]
    exact List.take_of_length_le (by simp [Config.sha384])
  · rw [hl, Nat.add_sub_cancel]
    simp only [bsWhole, List.append_assoc, List.take_left]

theorem bsWhole_digestOk (head : List Byte) (h : 24 ≤ head.length) : bsDigestOk (bsWhole head) = true := by
  simp only [bsDigestOk, (bsWhole_digest head h).1, (bsWhole_digest head h).2, beq_self_eq_true]

/-- A chamber load of group 0: one coefficient word for core 0. -/
def chamberHead : List Byte := bsHead 1 0 1 (recBytes 4 2 [1, 65535, 7])

/-- A whole load without groups, and a partial one of group 3. -/
def noneHead : List Byte := bsHead 0 0 1 (recBytes 1 0 [0, 0, 0, 0, 0])
def partHead : List Byte := bsHead 1 3 1 (recBytes 2 0 [0x00010503, 0])

/-- The load of the state, as planned. -/
def planned (s : State) : Load := s.loadPlan (s.loader.load.getD { addr := 0, len := 0 })

/-- Group 0 runs on core 0, and a chamber load of it is at hand. -/
def chamberSt : State := ldSt (bsWhole chamberHead) (State.reset.put SE_RG_STATUS_ACTIVE 0 1)

/-- What the loader shows as it verifies on a device with the DEVELOPMENT fuse. -/
def showing (s : State) : State :=
  ((s.putFlag LDR_STATUS_UNVERIFIED 0 true).putFlag LDR_STATUS_KIND 0 (planned s).isChamber).put LDR_STATUS_SKIPPED 0 (min 65535 (s.skipCount (planned s)))

/-- The chamber load passes every check on a device with the DEVELOPMENT fuse. -/
theorem chamber_accepted (h : Config.devFuse = true) :
    (planned chamberSt).kind = .chamber 0 ∧ chamberSt.syncWait (planned chamberSt) = false
      ∧ (showing chamberSt).loadError (planned chamberSt) {} = none := by
  refine ⟨by decide +kernel, by decide +kernel, ?_⟩
  have hb : (showing chamberSt).loadBytes (planned chamberSt) = bsWhole chamberHead := flash_bytes _ _ rfl
  have hc : (showing chamberSt).containerErr (bsWhole chamberHead) {} = none := by
    have hd := bsWhole_digestOk chamberHead (by decide +kernel)
    simp only [State.containerErr, h, hd]
    decide +kernel
  rw [State.loadError, hb, hc]
  decide +kernel

/-- A bitstream as it stands in flash has no damage. -/
theorem undamaged (head : List Byte) (s : State) (hh : 24 ≤ head.length) (h : s.flash = (bsWhole head).zipIdx.map fun p => (p.2, p.1)) :
    let ld := s.loadPlan { addr := 0, len := (bsWhole head).length }
    bsDigestOk (s.loadBytes ld) = true ∧ bsDigest (s.loadBytes ld) = ld.digest := by
  have hb : s.flashBytes 0 (bsWhole head).length = bsWhole head := flash_bytes s _ h
  simp only [State.loadPlan, State.loadBytes, hb, bsWhole_digestOk head hh, and_self]

/-- The apply pass of a load of each kind, over bytes without damage. -/
def applySt (head : List Byte) : State :=
  let s := ldSt (bsWhole head) (State.reset.put SE_RG_STATUS_ACTIVE 0 1)
  { s.put LDR_STATUS_STATE 0 3 with loader := { load := some (planned s) } }

theorem witness_LoaderStages :
    let part : Load := { addr := 0, len := 0, kind := .part 0 }
    let entry := { ticked [(LDR_STATUS_STATE, 0, 2)] { waitRamp := true, ramp := some { down := true, j := 64 }, target := some 5 } with loader := { load := some part } }
    let bad : State := { State.reset.put LDR_STATUS_STATE 0 3 with loader := { load := some { part with digest := [1] } } }
    let sync := chamberSt.setCore 0 { sync := some { prog := true, coef := true, group := 0, n := 0 } }
    let e : RestoreEntry := { group := some 3, addr := 0, len := 0, digest := [1] }
    (State.reset.reg LDR_STATUS_STATE = 0 ∧ (State.reset.put LDR_STATUS_STATE 0 4).reg LDR_STATUS_STATE ≠ 0)
      ∧ (State.reset.loader.load = none)
      ∧ (sync.syncWait (planned sync) = true ∧ (ldSt []).reg LDR_STATUS_STATE = 1 ∧ ((showing (ldSt [])).loadError (planned (ldSt [])) {}).isSome = true)
      ∧ (entry.reg LDR_STATUS_STATE = 2 ∧ entry.dueTick 0 = some 2 ∧ entry.marked 0 .ramp = false ∧ (entry.group 0).waitRamp = true
        ∧ entry.rampLen 0 { down := true, j := 64 } ≤ 64 ∧ entry.rgState 0 ≠ 5)
      ∧ (bad.reg LDR_STATUS_STATE = 3 ∧ bad.syncWait { part with digest := [1] } = false ∧ bad.reg MEM_STATUS_SPARGING = 0
        ∧ bsDigest (bad.loadBytes { part with digest := [1] }) ≠ [1])
      ∧ ({ State.reset.put LDR_STATUS_STATE 0 4 with loader := { todo := [e] } } : State).loader.todo = [e] := by
  decide +kernel

theorem witness_LoaderStages_apply :
    ∀ p ∈ [(chamberHead, LoadKind.chamber 0), (noneHead, .whole), (partHead, .part 3)],
      let s := applySt p.1
      let ld := s.loadPlan { addr := 0, len := (bsWhole p.1).length }
      s.reg LDR_STATUS_STATE = 3 ∧ s.syncWait ld = false ∧ s.reg MEM_STATUS_SPARGING = 0 ∧ ld.kind = p.2
        ∧ bsDigestOk (s.loadBytes ld) = true ∧ bsDigest (s.loadBytes ld) = ld.digest ∧ (s.loadArea ld).recs.all (fun q => q.2) = true := by
  intro p hp
  have h1 : ∀ p ∈ [(chamberHead, LoadKind.chamber 0), (noneHead, .whole), (partHead, .part 3)],
      let s := applySt p.1
      let ld := s.loadPlan { addr := 0, len := (bsWhole p.1).length }
      24 ≤ p.1.length ∧ s.reg LDR_STATUS_STATE = 3 ∧ s.syncWait ld = false ∧ s.reg MEM_STATUS_SPARGING = 0 ∧ ld.kind = p.2
        ∧ (s.loadArea ld).recs.all (fun q => q.2) = true := by decide +kernel
  obtain ⟨h0, h2, h3, h4, h5, h6⟩ := h1 p hp
  obtain ⟨h7, h8⟩ := undamaged p.1 (applySt p.1) h0 rfl
  exact ⟨h2, h3, h4, h5, h7, h8, h6⟩

/-- A record of every type stands at the front of an apply pass. -/
theorem witness_LoadRecords :
    let st (r : Rec) : State := { sets State.reset [(LDR_STATUS_STATE, 0, 3)] with loader := { load := some { addr := 0, len := 0, steps := [.record r] } } }
    (recordCommands.map fun p => p.1).all (fun k =>
        let r : Rec := { idx := 0, ofs := 64, typ := k, flags := 0, words := [] }
        decide ((st r).reg LDR_STATUS_STATE = 3) && !(st r).syncWait { addr := 0, len := 0, steps := [.record r] } && decide ((st r).reg MEM_STATUS_SPARGING = 0)
          && (st r).ok && decide ((recImages r).map fun q => q.1).Nodup) = true := by
  decide +kernel

end Sys2Proof.Tests
end

section
/-!
PROOFS of O19. A tick keeps the clock and records itself in its group; a sample that ends commits its writes and shows its figures.
-/

namespace Sys2Proof.Machine

open Sys2Proof

/-! ## What a tick's steps leave alone -/

/-- The counter time, the elapsed cycles and the waiting commands: no part of a tick moves them. -/
structure Clock where
  tim : Nat
  cycles : Nat
  pending : List Instr

/-- The clock with the rate groups: most parts of a tick move neither. -/
structure TickFrame where
  clock : Clock
  groups : Vector Group 4

def State.frame (s : State) : TickFrame := { clock := { tim := s.tim, cycles := s.cycles, pending := s.pending }, groups := s.groups }

/-- A fold keeps what each of its steps keeps. -/
theorem foldl_keeps {σ α β : Type} (π : σ → β) (f : σ → α → σ) (h : ∀ x a, π (f x a) = π x) (l : List α) (x : σ) :
    π (l.foldl f x) = π x := by
  induction l generalizing x with
  | nil => rfl
  | cons a l ih => rw [List.foldl_cons, ih, h]

theorem foldr_keeps {σ α β : Type} (π : σ → β) (f : α → σ → σ) (h : ∀ a x, π (f a x) = π x) (l : List α) (x : σ) :
    π (l.foldr f x) = π x := by
  induction l with
  | nil => rfl
  | cons a l ih => rw [List.foldr_cons, h, ih]

@[simp] theorem frame_foldl {α : Type} (f : State → α → State) (h : ∀ s a, (f s a).frame = s.frame) (l : List α) (s : State) :
    (l.foldl f s).frame = s.frame := foldl_keeps State.frame f h l s

@[simp] theorem frame_foldl_snd {α β : Type} (f : β × State → α → β × State) (h : ∀ p a, (f p a).2.frame = p.2.frame) (l : List α)
    (p : β × State) : (l.foldl f p).2.frame = p.2.frame := foldl_keeps (fun p : β × State => p.2.frame) f h l p

@[simp] theorem clock_foldl {α : Type} (f : State → α → State) (h : ∀ s a, (f s a).frame.clock = s.frame.clock) (l : List α) (s : State) :
    (l.foldl f s).frame.clock = s.frame.clock := foldl_keeps (fun s => s.frame.clock) f h l s

@[simp] theorem frame_ite (c : Prop) [Decidable c] (s t : State) : (if c then s else t).frame = if c then s.frame else t.frame :=
  apply_ite State.frame c s t

@[simp] theorem clock_ite (c : Prop) [Decidable c] (x y : TickFrame) : (if c then x else y).clock = if c then x.clock else y.clock :=
  apply_ite TickFrame.clock c x y

@[simp] theorem frame_snd_ite {α : Type} (c : Prop) [Decidable c] (p q : α × State) :
    (if c then p else q).2.frame = if c then p.2.frame else q.2.frame := apply_ite (fun p : α × State => p.2.frame) c p q

/-! ### Updates of one part of the state

`(rfl)` rather than `rfl` keeps these out of `dsimp`: as definitional rules they stop `simp` from proving a fold's step. -/

@[simp] theorem frame_put (s : State) (f : Field) (i v : Nat) : (s.put f i v).frame = s.frame := (rfl)
@[simp] theorem frame_setCore (s : State) (c : CoreId) (x : Core) : (s.setCore c x).frame = s.frame := (rfl)
@[simp] theorem frame_setBank (s : State) (b : BankId) (x : Bank) : (s.setBank b x).frame = s.frame := (rfl)
@[simp] theorem frame_setPort (s : State) (p : PortId) (x : Port) : (s.setPort p x).frame = s.frame := (rfl)
@[simp] theorem frame_setChanSt (s : State) (c : Nat) (x : ChanState) : (s.setChanSt c x).frame = s.frame := (rfl)
@[simp] theorem frame_setSealTx (s : State) (i : Nat) (x : SealTx) : (s.setSealTx i x).frame = s.frame := (rfl)
@[simp] theorem frame_setPout (s : State) (o : Nat) (x : ProbeOut) : (s.setPout o x).frame = s.frame := (rfl)
@[simp] theorem frame_recordSent (s : State) (i m : Nat) (v : Word) : (s.recordSent i m v).frame = s.frame := (rfl)
@[simp] theorem frame_takeBad (s : State) : s.takeBad.2.frame = s.frame := (rfl)
@[simp] theorem frame_chooseNat (s : State) (n : Nat) : (s.chooseNat n).2.frame = s.frame := (rfl)
@[simp] theorem frame_chooseBool (s : State) : s.chooseBool.2.frame = s.frame := (rfl)
@[simp] theorem clock_setGroup (s : State) (g : GroupId) (x : Group) : (s.setGroup g x).frame.clock = s.frame.clock := (rfl)

@[simp] theorem frame_raise (s : State) (e : Nat) : (s.raise e).frame = s.frame := by simp [State.frame]

/-! ### Accesses to the shared memory -/

@[simp] theorem frame_capture (s : State) (k : Nat) (b : BankId) (w who : Nat) : (s.capture k b w who).frame = s.frame := by
  unfold State.capture; split <;> simp

@[simp] theorem frame_readAs (s : State) (who : Nat) (b : BankId) (w : Nat) : (s.readAs who b w).2.frame = s.frame := by
  simp only [State.readAs]
  split
  · rfl
  · split
    · rfl
    · split <;> simp [State.unpublishedRead]

@[simp] theorem frame_nonOwnerWrite (s : State) (b : BankId) (w who : Nat) : (s.nonOwnerWrite b w who).frame = s.frame := by
  simp [State.nonOwnerWrite]

@[simp] theorem frame_writeAs (s : State) (who : Nat) (b : BankId) (w : Nat) (v : Word) : (s.writeAs who b w v).frame = s.frame := by
  simp only [State.writeAs]
  split
  · rfl
  · split <;> simp [State.setBankWord]

@[simp] theorem frame_stampSet (s : State) (c k : Nat) (f : Word → Word) : (s.stampSet c k f).frame = s.frame := by
  simp [State.stampSet]

@[simp] theorem frame_stampFlag (s : State) (c k bit : Nat) : (s.stampFlag c k bit).frame = s.frame := by simp [State.stampFlag]

/-! ### Judging the last sample -/

@[simp] theorem frame_showMembers (s : State) (g : GroupId) : (s.showMembers g).frame = s.frame := by
  refine frame_foldl _ (fun t c => ?_) _ _
  rfl

@[simp] theorem frame_takeOver (s : State) (g : GroupId) (c t : CoreId) : (s.takeOver g c t).frame = s.frame := by
  simp only [State.takeOver, frame_raise, frame_showMembers]; rfl

@[simp] theorem frame_takeoverPhase (s : State) (g : GroupId) (c : CoreId) : (s.takeoverPhase g c).frame = s.frame := by
  unfold State.takeoverPhase
  split
  · rfl
  · simp
  · dsimp only; split <;> simp

@[simp] theorem frame_noteSat (s : State) (c : CoreId) (x : Sample) : (s.noteSat c x).frame = s.frame := by simp [State.noteSat]
@[simp] theorem frame_noteStalls (s : State) (c : CoreId) (n : Nat) : (s.noteStalls c n).frame = s.frame := by simp [State.noteStalls]

@[simp] theorem frame_abandonLate (s : State) (c : CoreId) : (s.abandonLate c).frame = s.frame := by
  unfold State.abandonLate; split <;> simp

@[simp] theorem frame_abandonFaulted (s : State) (c : CoreId) : (s.abandonFaulted c).frame = s.frame := by
  unfold State.abandonFaulted; split <;> simp

@[simp] theorem clock_quarantine (s : State) (g : GroupId) (c : CoreId) : (s.quarantine g c).frame.clock = s.frame.clock := by
  unfold State.quarantine; dsimp only; split <;> simp

@[simp] theorem clock_faultPhase (s : State) (g : GroupId) (c : CoreId) (v : Verdict) : (s.faultPhase g c v).frame.clock = s.frame.clock := by
  simp [State.faultPhase]

@[simp] theorem clock_judge (s : State) (g : GroupId) : (s.judge g).frame.clock = s.frame.clock := by
  simp [State.judge]
  intro _
  exact congrArg TickFrame.clock (frame_foldl _ (fun s p => by split <;> simp) _ _)

/-! ### Sending the last sample's words -/

@[simp] theorem frame_withProbe (s : State) (p : Probe) : ({ s with probe := p } : State).frame = s.frame := (rfl)

@[simp] theorem frame_gaussValues (s : State) : s.gaussValues.2.frame = s.frame := by
  refine foldr_keeps (fun p : List Int × State => p.2.frame) _ (fun k p => ?_) _ _
  dsimp only
  split <;> rfl

@[simp] theorem frame_steepBegin (s : State) (o m no : Nat) : (s.steepBegin o m no).frame = s.frame := by
  refine (frame_foldl _ (fun t i => ?_) _ _).trans ?_ <;> rfl

@[simp] theorem frame_outSample (s : State) (o m : Nat) (gauss : List Int) (v : Int) : (s.outSample o m gauss v).2.frame = s.frame := by
  simp [State.outSample, State.steepRoll]

@[simp] theorem frame_probeSample (s : State) (m : Nat) (v : Nat → Int) : (s.probeSample m v).2.frame = s.frame := by
  simp [State.probeSample]

@[simp] theorem frame_probeClip (s : State) (c : Nat) : (s.probeClip c).frame = s.frame := by
  refine (frame_foldl _ (fun t o => ?_) _ _).trans ?_
  · rfl
  · simp only [frame_ite, frame_raise]
    split <;> rfl

@[simp] theorem frame_mixedWords (s : State) (g : GroupId) (m : Nat) : (s.mixedWords g m).2.frame = s.frame := by
  simp only [State.mixedWords]
  refine (frame_foldl_snd _ (fun p c => ?_) _ _).trans ?_
  · split <;> simp
  · split <;> simp

@[simp] theorem clock_takeWords (s : State) (g : GroupId) (m : Nat) : (s.takeWords g m).frame.clock = s.frame.clock := by
  simp [State.takeWords]

@[simp] theorem frame_outSeal (s : State) (i bs m : Nat) (v : Word) : (s.outSeal i bs m v).frame = s.frame := (rfl)

@[simp] theorem frame_sealAbsent (s : State) (c k : Nat) : (s.sealAbsent c k).frame = s.frame := by simp [State.sealAbsent]

@[simp] theorem frame_sealMismatch (s : State) (c k : Nat) : (s.sealMismatch c k).frame = s.frame := by simp [State.sealMismatch]

@[simp] theorem frame_checkStored (s : State) (c k : Nat) (ws : List Word) : (s.checkStored c k ws).frame = s.frame := by
  unfold State.checkStored
  split
  · rfl
  · split <;> simp

@[simp] theorem frame_bridgeSeal (s : State) (i c m : Nat) (w : Word) : (s.bridgeSeal i c m w).frame = s.frame := by
  simp [State.bridgeSeal]

@[simp] theorem frame_sendRoute (s : State) (g : GroupId) (m : Nat) (vals : Tab Word) (i : Nat) (r : Route) :
    (s.sendRoute g m vals i r).frame = s.frame := by
  unfold State.sendRoute
  dsimp only
  split
  · rfl
  · split <;> simp

@[simp] theorem clock_sendSample (s : State) (g : GroupId) (m : Nat) : (s.sendSample g m).frame.clock = s.frame.clock := by
  simp [State.sendSample]

/-! ### The states of a group -/

@[simp] theorem frame_showRamp (s : State) (g : GroupId) : (s.showRamp g).frame = s.frame := (rfl)

@[simp] theorem clock_enterState (s : State) (g : GroupId) (st : Nat) : (s.enterState g st).frame.clock = s.frame.clock := by
  simp [State.enterState]

@[simp] theorem clock_muteNow (s : State) (g : GroupId) (cause : Nat) (x : Group) : (s.muteNow g cause x).frame.clock = s.frame.clock := by
  simp [State.muteNow]

/-- The intermediate states of a ramp's tick are named first: each keeps the clock, and every branch ends in an update of the group of one of
them. -/
@[simp] theorem clock_rampGo (s : State) (g : GroupId) : (s.rampGo g).frame.clock = s.frame.clock := by
  unfold State.rampGo
  extract_lets x st run want stop mute unmute clear setCause y target toOff caused entersMuted unmuted entered z target' off
  have hset (s : State) (c : Nat) : (setCause s c).frame = s.frame := rfl
  clear_value setCause y mute
  have hcaused : caused.frame = s.frame := by cases mute <;> simp [caused, hset]
  have hunmuted : unmuted.frame = s.frame := by simp [unmuted, hset, hcaused]
  have hentered : entered.frame.clock = s.frame.clock := by simp [entered, hunmuted]
  have hoff : off.frame = s.frame := by simp [off, hset]
  clear_value caused unmuted entered off target'
  cases y.ramp with
  | none => cases mute <;> simp [hset, hoff]
  | some r => cases mute <;> cases target' <;> simp [hset, hcaused, hunmuted, hentered]

@[simp] theorem clock_waitTick (s : State) (g : GroupId) : (s.waitTick g).frame.clock = s.frame.clock := by
  unfold State.waitTick
  dsimp only
  split
  · simp
  · split <;> simp

@[simp] theorem clock_warmTick (s : State) (g : GroupId) : (s.warmTick g).frame.clock = s.frame.clock := by
  unfold State.warmTick
  dsimp only
  split <;> simp

@[simp] theorem clock_rampTick (s : State) (g : GroupId) : (s.rampTick g).frame.clock = s.frame.clock := by
  simp [State.rampTick]

@[simp] theorem clock_gateTick (s : State) (g : GroupId) : (s.gateTick g).frame.clock = s.frame.clock := by
  unfold State.gateTick
  dsimp only
  split
  · simp
  · split <;> simp

@[simp] theorem clock_part (s : State) (g : GroupId) (p : TickPart) (f : State → State) (h : ∀ s, (f s).frame.clock = s.frame.clock) :
    (s.part g p f).frame.clock = s.frame.clock := by
  simp [State.part, State.mark, h]

/-! ### A group that enters LOADING -/

@[simp] theorem frame_clearField (s : State) (f : Field) (i : Nat) : (s.clearField f i).frame = s.frame := (rfl)
@[simp] theorem frame_setRx (s : State) (k : Nat) (x : RxStream) : (s.setRx k x).frame = s.frame := (rfl)
@[simp] theorem frame_setTx (s : State) (k : Nat) (x : TxStream) : (s.setTx k x).frame = s.frame := (rfl)
@[simp] theorem frame_setLoad (s : State) (ld : Option Load) : (s.setLoad ld).frame = s.frame := (rfl)
@[simp] theorem frame_setSluice (s : State) (g : GroupId) (u : Option Sluice) : (s.setSluice g u).frame = s.frame := (rfl)
@[simp] theorem frame_resetFields (s : State) (drop : Field → Nat → Bool) : (s.resetFields drop).frame = s.frame := (rfl)

@[simp] theorem frame_withLoader (s : State) (x : Loader) : ({ s with loader := x } : State).frame = s.frame := (rfl)
@[simp] theorem frame_withHgs (s : State) (x : Tab Headgate) : ({ s with hgs := x } : State).frame = s.frame := (rfl)
@[simp] theorem frame_withHgRamps (s : State) (x : Tab Nat) : ({ s with hgRamps := x } : State).frame = s.frame := (rfl)

@[simp] theorem frame_clearWord (s : State) (addr : Nat) : (s.clearWord addr).frame = s.frame := by simp [State.clearWord]

@[simp] theorem frame_clearWords (s : State) (addr n : Nat) : (s.clearWords addr n).frame = s.frame := by simp [State.clearWords]

@[simp] theorem frame_tablesRemove (s : State) (own : GroupId → Bool) : (s.tablesRemove own).frame = s.frame := by
  unfold State.tablesRemove
  extract_lets dead armed s' routes ags s'' keep gone
  have h' : s'.frame = s.frame := frame_foldl _ (fun t p => by rfl) _ _
  have h'' : s''.frame = s'.frame := by simp [s'']
  exact h''.trans h'

@[simp] theorem frame_sapSet (s : State) (p : PortId) (st : Nat) : (s.sapSet p st).frame = s.frame := by simp [State.sapSet]

@[simp] theorem frame_sapClose (s : State) (p : PortId) : (s.sapClose p).frame = s.frame := by simp [State.sapClose]

@[simp] theorem frame_portRemove (s : State) (p : PortId) : (s.portRemove p).frame = s.frame := by simp [State.portRemove]

@[simp] theorem frame_igmpReport (s : State) (k : Nat) (join : Bool) : (s.igmpReport k join).frame = s.frame := by
  refine frame_foldl _ (fun t lane => ?_) _ _
  split <;> rfl

@[simp] theorem frame_rxState (s : State) (k st : Nat) : (s.rxState k st).frame = s.frame := by simp [State.rxState]

@[simp] theorem frame_rxShowPath (s : State) (k : Nat) (lane : Fin 2) (on : Bool) : (s.rxShowPath k lane on).frame = s.frame := (rfl)

@[simp] theorem frame_rxEnable (s : State) (k : Nat) (on : Bool) : (s.rxEnable k on).frame = s.frame := by simp [State.rxEnable]

@[simp] theorem frame_regTick (s : State) (g : GroupId) : (s.regTick g).2.frame = s.frame := by simp [State.regTick]

@[simp] theorem frame_txEnable (s : State) (k : Nat) (on : Bool) : (s.txEnable k on).frame = s.frame := by simp [State.txEnable]

@[simp] theorem frame_streamRemove (s : State) (rx : Bool) (k : Nat) : (s.streamRemove rx k).frame = s.frame := by simp [State.streamRemove]

@[simp] theorem frame_removeChanged (s : State) (all : Bool) (g : Option GroupId) (recs : List Rec) :
    (s.removeChanged all g recs).frame = s.frame := by
  unfold State.removeChanged
  extract_lets own ports stream rxs
  have hports : ports.frame = s.frame := by simp [ports]
  have hstream (b : Bool) (t : State) (k : Nat) : (stream b t k).frame = t.frame := by simp [stream]
  clear_value stream
  simp [rxs, hstream, hports]

@[simp] theorem frame_setFlt (s : State) (f st : Nat) : (s.setFlt f st).frame = s.frame := by simp [State.setFlt]

@[simp] theorem frame_bceRemove (s : State) (own : GroupId → Bool) : (s.bceRemove own).frame = s.frame := by
  unfold State.bceRemove
  extract_lets jobs fs s' s''
  have h' : s'.frame = s.frame := by simp [s']
  have h'' : s''.frame = s'.frame := by simp [s'']
  exact h''.trans h'

@[simp] theorem frame_probeIdle (s : State) : s.probeIdle.frame = s.frame := by simp [State.probeIdle]

@[simp] theorem frame_probeRemove (s : State) (own : GroupId → Bool) : (s.probeRemove own).frame = s.frame := by simp [State.probeRemove]

@[simp] theorem frame_plEval (s : State) : s.plEval.frame = s.frame := by
  unfold State.plEval
  dsimp only
  split
  · simp
  · split
    · simp
    · rfl

@[simp] theorem frame_plRetry (s old : State) : (s.plRetry old).frame = s.frame := by simp [State.plRetry]

@[simp] theorem frame_showBudgets (s : State) : s.showBudgets.frame = s.frame := by
  refine (frame_foldl _ (fun t g => ?_) _ _).trans (frame_foldl _ (fun t c => ?_) _ _) <;> rfl

@[simp] theorem frame_slotState (s : State) (g : GroupId) (st : Nat) : (s.slotState g st).frame = s.frame := (rfl)

@[simp] theorem frame_sluiceIdle (s : State) (g : GroupId) : (s.sluiceIdle g).frame = s.frame := by simp [State.sluiceIdle]

@[simp] theorem frame_slotEnd (s : State) (g : GroupId) : (s.slotEnd g).frame = s.frame := by simp [State.slotEnd, State.sluiceDrop]

@[simp] theorem frame_showGlides (s : State) (c : CoreId) : (s.showGlides c).frame = s.frame := (rfl)

@[simp] theorem frame_showCore (s : State) (c : CoreId) : (s.showCore c).frame = s.frame := by simp [State.showCore, State.showGen]

@[simp] theorem frame_coreRemove (s : State) (c : CoreId) : (s.coreRemove c).frame = s.frame := by simp [State.coreRemove]

@[simp] theorem frame_membersRemove (s : State) (g : GroupId) : (s.membersRemove g).frame = s.frame := by simp [State.membersRemove]

@[simp] theorem frame_removeGroup (s : State) (g : GroupId) (recs : List Rec) : (s.removeGroup g recs).frame = s.frame := by
  simp [State.removeGroup]

@[simp] theorem frame_coresLost (s : State) (l : List CoreId) : (s.coresLost l).frame = s.frame := by simp [State.coresLost]

@[simp] theorem frame_blockLost (s : State) (d : Nat) : (s.blockLost d).frame = s.frame := by
  unfold State.blockLost
  split
  case h_4 => exact frame_coresLost _ _
  case h_5 => exact frame_coresLost _ _
  all_goals rfl

@[simp] theorem frame_domainUp (s : State) (d : Nat) : (s.domainUp d).frame = s.frame := by
  simp [State.domainUp, State.resetDomainFields]

@[simp] theorem frame_demandUp (s : State) (d : Nat) : (s.demandUp d).frame = s.frame := by
  unfold State.demandUp
  split
  · rfl
  · exact frame_domainUp s d

@[simp] theorem frame_loadDomains (s : State) (recs : List Rec) : (s.loadDomains recs).frame = s.frame := by simp [State.loadDomains]

@[simp] theorem clock_loadingEnter (s : State) : s.loadingEnter.frame.clock = s.frame.clock := by
  unfold State.loadingEnter
  split
  · split
    · simp [State.partBegin]
    · rfl
  · rfl

/-! ### The update chamber and the headgates -/

@[simp] theorem frame_startSync (s : State) (g : GroupId) (n : Nat) (c : CoreId) (pages : Nat) : (s.startSync g n c pages).frame = s.frame :=
  (rfl)

@[simp] theorem frame_jnlAppend (s : State) (type low word1 : Nat) : (s.jnlAppend type low word1).frame = s.frame := by
  simp [State.jnlAppend]

@[simp] theorem frame_swapPages (s : State) (g : GroupId) (n : Nat) (u : Sluice) : (s.swapPages g n u).frame = s.frame := by
  simp [State.swapPages]

@[simp] theorem frame_morphFinish (s : State) (g : GroupId) : (s.morphFinish g).frame = s.frame := by
  unfold State.morphFinish
  split <;> simp

@[simp] theorem frame_morphTick (s : State) (g : GroupId) (n : Nat) (u : Sluice) : (s.morphTick g n u).frame = s.frame := by
  simp [State.morphTick]

@[simp] theorem frame_sluiceRefuse (s : State) (g : GroupId) (cause : Nat) : (s.sluiceRefuse g cause).frame = s.frame := by
  simp [State.sluiceRefuse]

@[simp] theorem frame_sluiceDone (s : State) (g : GroupId) (a : Nat) : (s.sluiceDone g a).frame = s.frame := by simp [State.sluiceDone]

@[simp] theorem frame_sluiceEffect (s : State) (g : GroupId) (a : Nat) (u : Sluice) : (s.sluiceEffect g a u).frame = s.frame := by
  simp [State.sluiceEffect]

@[simp] theorem frame_sluiceTick (s : State) (g : GroupId) (n : Nat) : (s.sluiceTick g n).2.frame = s.frame := by
  unfold State.sluiceTick
  split
  · rfl
  · split
    · simp
    · dsimp only
      split
      · split <;> simp
      · simp

@[simp] theorem frame_glideStarts (s : State) (w : Bool) (l : List Glide) : (s.glideStarts w l).2.frame = s.frame := by
  induction l generalizing s with
  | nil => rfl
  | cons e l ih => simp [State.glideStarts, ih]

@[simp] theorem frame_glideCore (s : State) (g : GroupId) (n : Nat) (w : Bool) (c : CoreId) : (s.glideCore g n w c).2.frame = s.frame := by
  simp [State.glideCore]

@[simp] theorem frame_glideTick (s : State) (g : GroupId) (n : Nat) (w : Bool) : (s.glideTick g n w).frame = s.frame := by
  simp [State.glideTick]

@[simp] theorem clock_chamberTick (s : State) (g : GroupId) (n : Nat) : (s.chamberTick g n).frame.clock = s.frame.clock := by
  simp [State.chamberTick, State.mark]

@[simp] theorem frame_hgRampEnd (s : State) (g : GroupId) (n h : Nat) : (s.hgRampEnd g n h).frame = s.frame := by
  unfold State.hgRampEnd
  split
  · rfl
  · split <;> simp [State.hgSet]

@[simp] theorem frame_hgEffect (s : State) (g : GroupId) (n h : Nat) : (s.hgEffect g n h).frame = s.frame := by
  unfold State.hgEffect
  split
  · rfl
  · simp only [State.hgRefuse, State.hgShow, State.hgSet, State.put64_eq, State.putFlag_eq, frame_ite, frame_snd_ite, frame_withHgs,
      frame_withHgRamps, frame_raise, frame_put, frame_chooseBool, ite_self]

@[simp] theorem frame_hgTick (s : State) (g : GroupId) (n : Nat) : (s.hgTick g n).frame = s.frame := by simp [State.hgTick]

/-! ### Ports at a tick -/

@[simp] theorem frame_sapEff (s : State) (p : PortId) (a : Nat) : (s.sapEff p a).frame = s.frame := by simp [State.sapEff]

@[simp] theorem frame_masterTick (s : State) (p : PortId) (n : Nat) : (s.masterTick p n).frame = s.frame := by
  unfold State.masterTick
  extract_lets x st s' s''
  have h' : s'.frame = s.frame := by simp [s']
  have h'' : s''.frame = s'.frame := by
    simp only [s'']
    split
    · split <;> simp
    · rfl
  split
  · exact h''.trans h'
  · exact h''.trans h'

@[simp] theorem frame_lateSample (s : State) (c k ag : Nat) : (s.lateSample c k ag).frame = s.frame := by simp [State.lateSample]

@[simp] theorem frame_accepts (s : State) (r : Arrival) : (s.accepts r).2.frame = s.frame := by simp [State.accepts]

@[simp] theorem frame_naStep (s : State) (c m : Nat) (xc xd : Word) : (s.naStep c m xc xd).2.frame = s.frame := by simp [State.naStep]

@[simp] theorem frame_stampOpen (s : State) (c k cap : Nat) : (s.stampOpen c k cap).frame = s.frame := by simp [State.stampOpen]

@[simp] theorem frame_strPush (s : State) (c m : Nat) (v : Word) (head : Bool) : (s.strPush c m v head).2.frame = s.frame := by
  simp [State.strPush]

@[simp] theorem frame_place (s : State) (r : Arrival) (muted fromPort : Bool) : (s.place r muted fromPort).frame = s.frame := by
  simp [State.place]

@[simp] theorem frame_placeAll (s : State) (l : List Arrival) (fromPort : Bool) : (s.placeAll l fromPort).frame = s.frame := by
  refine frame_foldl _ (fun t r => ?_) _ _
  have haccepts : (if (tabGet t.ingress r.c {}).agEn = true then t.accepts r else (true, t)).2.frame = t.frame := by simp
  simp only [frame_ite, frame_place, ite_self]
  generalize (if (tabGet t.ingress r.c {}).agEn = true then t.accepts r else (true, t)).2 = u at haccepts ⊢
  split
  · split <;> simp [haccepts]
  · exact haccepts

@[simp] theorem frame_writeFrame (s : State) (p : PortId) (n cap : Nat) (ws : Tab Word) : (s.writeFrame p n cap ws).frame = s.frame :=
  frame_placeAll _ _ _

@[simp] theorem frame_sapRepeat (s : State) (p : PortId) (n : Nat) : (s.sapRepeat p n).frame = s.frame := by
  simp [State.sapRepeat, State.sapSlip]

@[simp] theorem frame_portTick (s : State) (p : PortId) (n : Nat) : (s.portTick p n).frame = s.frame := by
  unfold State.portTick
  extract_lets s1 s2 s3
  have h : s3.frame = s.frame := by simp [s3, s2, s1]
  split
  · simpa using h
  · split
    · exact h
    · split
      · simpa using h
      · exact h

@[simp] theorem frame_portsTick (s : State) (g : GroupId) (n : Nat) : (s.portsTick g n).frame = s.frame := by simp [State.portsTick]

/-! ### Cores at a tick -/

@[simp] theorem frame_showIndices (s : State) (c : CoreId) (n : Nat) : (s.showIndices c n).frame = s.frame := by simp [State.showIndices]

@[simp] theorem frame_startCore (s : State) (g : GroupId) (n : Nat) (c : CoreId) : (s.startCore g n c).frame = s.frame := by
  simp [State.startCore]

@[simp] theorem frame_localUncorrectable (s : State) (c : CoreId) (m : CoreMem) (w : Half) (h : Bool) :
    (s.localUncorrectable c m w h).frame = s.frame := by
  unfold State.localUncorrectable
  dsimp only
  split
  · split <;> simp [State.captureLocal]
  · simp [State.captureLocal]

@[simp] theorem frame_coreFault (s : State) (c : CoreId) (f : CheckFail) (bundle : Nat) : (s.coreFault c f bundle).frame = s.frame := by
  unfold State.coreFault
  split
  · rfl
  · dsimp only
    split <;> simp

@[simp] theorem frame_safeEntry (s : State) (g : GroupId) (n : Nat) (c : CoreId) (i : Nat) : (s.safeEntry g n c i).2.frame = s.frame := by
  simp [State.safeEntry]

@[simp] theorem frame_safeDone (s : State) (g : GroupId) (c : CoreId) (sat : Bool) : (s.safeDone g c sat).frame = s.frame := by
  simp [State.safeDone]

@[simp] theorem frame_safeSample (s : State) (g : GroupId) (n : Nat) (c : CoreId) (fail : Option CheckFail) :
    (s.safeSample g n c fail).frame = s.frame := by
  unfold State.safeSample
  dsimp only
  split
  · rfl
  · split <;> simp

/-! ### The probe and the media PLL at a tick -/

@[simp] theorem frame_exclude (s : State) (i : Nat) : (s.exclude i).frame = s.frame := by
  unfold State.exclude
  dsimp only
  split
  · rfl
  · rw [frame_raise]; rfl

@[simp] theorem frame_micSample (s : State) (i m : Nat) : (s.micSample i m).frame = s.frame := by
  simp [State.micSample]

@[simp] theorem frame_micTick (s : State) (m : Nat) : (s.micTick m).frame = s.frame := by simp [State.micTick]

@[simp] theorem frame_loopCheck (s : State) (o : Nat) : (s.loopCheck o).frame = s.frame := by simp [State.loopCheck, State.loopHold]

@[simp] theorem frame_loopWatch (s : State) : s.loopWatch.frame = s.frame := by simp [State.loopWatch]

@[simp] theorem frame_pllTick (s : State) (g : GroupId) (n : Nat) : (s.pllTick g n).frame = s.frame := by
  simp [State.pllTick, State.showW]

/-! ### The tick -/

/-- What a tick records of itself in its group (02 R49, R109). -/
structure TickRecord where
  begun : Bool
  n : Nat
  tickTim : Nat
  tickCycle : Nat
  marks : List TickPart

def Group.tick (x : Group) : TickRecord := { begun := x.begun, n := x.n, tickTim := x.tickTim, tickCycle := x.tickCycle, marks := x.marks }

theorem group_of_frame {s t : State} (h : t.frame = s.frame) (g : GroupId) : t.group g = s.group g :=
  congrArg (fun v : Vector Group 4 => v[g]) (congrArg TickFrame.groups h)

/-- The tick that begins is recorded with the present time (02 R49). -/
theorem tick_tickBegin (s : State) (g : GroupId) (n : Nat) :
    ((s.tickBegin g n).group g).tick
      = { begun := true, n := n, tickTim := s.frame.clock.tim, tickCycle := s.frame.clock.cycles, marks := [] } := by
  simp only [State.tickBegin, group_setGroup_same]
  rfl

@[simp] theorem clock_tickBegin (s : State) (g : GroupId) (n : Nat) : (s.tickBegin g n).frame.clock = s.frame.clock := (rfl)

/-- The cores that begin their sample leave the clock and the groups as they are, but for the note that the group's cores ran. -/
theorem State.frame_startSamples (s : State) (g : GroupId) (n : Nat) (fails : List (CoreId × CheckFail)) :
    ∃ ran, (s.startSamples g n fails).frame = (s.setGroup g { s.group g with ran := ran }).frame := by
  unfold State.startSamples
  extract_lets cores st failOf owed
  split
  · refine ⟨true, frame_foldl _ (fun t c => ?_) _ _⟩
    split <;> simp
  · refine ⟨st == 3 || owed, ?_⟩
    split
    · exact frame_safeSample _ _ _ _ _
    · rfl

@[simp] theorem clock_startSamples (s : State) (g : GroupId) (n : Nat) (fails : List (CoreId × CheckFail)) :
    (s.startSamples g n fails).frame.clock = s.frame.clock := by
  obtain ⟨_, h⟩ := s.frame_startSamples g n fails
  rw [h, clock_setGroup]

theorem tick_startSamples (s : State) (g : GroupId) (n : Nat) (fails : List (CoreId × CheckFail)) :
    ((s.startSamples g n fails).group g).tick = (s.group g).tick := by
  obtain ⟨_, h⟩ := s.frame_startSamples g n fails
  rw [group_of_frame h, group_setGroup_same]
  rfl

/-- A tick keeps the clock, and its group's record names it, with the present time and no step of the coming tick made (01 R26; 02 R49,
R109). What comes before the sample begins moves no clock; what comes after moves no group's record. -/
theorem sampleTick_records (s : State) (g : GroupId) (n : Nat) (fails : List (CoreId × CheckFail)) :
    (s.sampleTick g n fails).frame.clock = s.frame.clock
      ∧ ((s.sampleTick g n fails).group g).tick = { begun := true, n := n, tickTim := s.tim, tickCycle := s.cycles, marks := [] } := by
  unfold State.sampleTick
  extract_lets judged sent ramped loaded morphed gates started probed
  have before : gates.frame.clock = s.frame.clock := by simp [gates, morphed, loaded, ramped, sent, judged]
  clear_value gates
  have after : (probed.loopWatch.pllTick g n).frame = started.frame := by simp [probed]
  refine ⟨?_, ?_⟩
  · rw [after]
    simp [started, before]
  · rw [group_of_frame after, tick_startSamples, group_of_frame (frame_portsTick _ _ _), tick_tickBegin, before]
    rfl

/-! ## The end of a sample -/

/-! ### Buffered state writes (02 R56) -/

/-- A word reads as the buffered write to it, or as before where there is none. -/
theorem memWord_commitState (m : Mem) (l : Tab Word) (hm : memWf 0 m = true) (hl : tabWf l = true) (a : Nat) :
    memWord (commitState m l) a = (tabGet? a l).getD (memWord m a) := by
  induction l generalizing m with
  | nil => rfl
  | cons p l ih =>
    obtain ⟨k, v⟩ := p
    obtain ⟨htail, habove⟩ := (tabWf_cons_iff k v l).1 hl
    have hstep : memWord (commitState m ((k, v) :: l)) a = (tabGet? a l).getD (memWord (memSetWord m k v) a) :=
      ih _ (memSetWord_wf m k v hm) htail
    rw [hstep]
    by_cases hak : a = k
    · subst hak
      simp [tabGet?, tabGet_above habove, memWord_memSetWord_same m a v hm]
    · rw [memWord_memSetWord_other m v hak hm]
      by_cases hlt : a < k
      · have hnone : tabGet? a l = none := tabGet_above fun q hq => Nat.lt_trans hlt (habove q hq)
        simp [tabGet?, hak, hlt, hnone]
      · simp [tabGet?, hak, hlt]

/-- The cores of a list take the buffered writes of a sample into their state memories. -/
def State.commitTo (s : State) (l : List CoreId) (w : Tab Word) : State :=
  l.foldl (fun (s : State) t => s.setCore t { s.core t with state := commitState (s.core t).state w }) s

theorem commitTo_core_of_not_mem (s : State) (l : List CoreId) (w : Tab Word) {d : CoreId} (h : d ∉ l) :
    (s.commitTo l w).core d = s.core d := by
  induction l generalizing s with
  | nil => rfl
  | cons c l ih =>
    simp only [List.mem_cons, not_or] at h
    exact (ih _ h.2).trans (core_setCore_other s _ h.1)

theorem commitTo_core_of_mem (s : State) (l : List CoreId) (w : Tab Word) (hl : l.Nodup) {d : CoreId} (h : d ∈ l) :
    (s.commitTo l w).core d = { s.core d with state := commitState (s.core d).state w } := by
  induction l generalizing s with
  | nil => cases h
  | cons c l ih =>
    obtain ⟨hc, hl⟩ := List.nodup_cons.1 hl
    by_cases hd : d = c
    · subst hd
      exact (commitTo_core_of_not_mem _ l w hc).trans (core_setCore_same s d _)
    · have hmem : d ∈ l := (List.mem_cons.1 h).resolve_left hd
      exact (ih _ hl hmem).trans (by rw [core_setCore_other s _ hd])

theorem commitTo_banks (s : State) (l : List CoreId) (w : Tab Word) : (s.commitTo l w).banks = s.banks := by
  refine foldl_keeps State.banks _ (fun t d => ?_) l s
  rfl

theorem commitTo_regs (s : State) (l : List CoreId) (w : Tab Word) : (s.commitTo l w).regs = s.regs := by
  refine foldl_keeps State.regs _ (fun t d => ?_) l s
  rfl

/-! ### Registers that a sample's end shows -/

theorem State.RegsBut.refl (s : State) (keys : List Nat) : s.RegsBut s keys := fun _ _ _ => rfl

theorem State.RegsBut.put {s t : State} {keys : List Nat} (h : s.RegsBut t keys) {f : Field} {i : Nat} (v : Nat) (hf : f.key i ∈ keys) :
    s.RegsBut (t.put f i v) keys := by
  intro g k hk
  have hne : g.key k ≠ f.key i := fun e => hk (e ▸ hf)
  rw [reg_put_other t v hne, h g k hk]

theorem State.RegsBut.noteSat {s t : State} {keys : List Nat} (h : s.RegsBut t keys) {c : CoreId} (x : Sample)
    (hf : SC_SAT_CNT.key c.val ∈ keys) : s.RegsBut (t.noteSat c x) keys := by
  unfold State.noteSat
  split
  · exact h.put _ hf
  · exact h

@[simp] theorem noteStalls_cores (s : State) (c : CoreId) (n : Nat) : (s.noteStalls c n).cores = s.cores := rfl
@[simp] theorem noteStalls_banks (s : State) (c : CoreId) (n : Nat) : (s.noteStalls c n).banks = s.banks := rfl

@[simp] theorem noteSat_cores (s : State) (c : CoreId) (x : Sample) : (s.noteSat c x).cores = s.cores := by
  unfold State.noteSat; split <;> rfl

@[simp] theorem noteSat_banks (s : State) (c : CoreId) (x : Sample) : (s.noteSat c x).banks = s.banks := by
  unfold State.noteSat; split <;> rfl

theorem reg_noteSat_other (s : State) (c : CoreId) (x : Sample) {f : Field} {i : Nat} (h : f.key i ≠ SC_SAT_CNT.key c.val) :
    (s.noteSat c x).reg f i = s.reg f i :=
  (State.RegsBut.refl s [SC_SAT_CNT.key c.val]).noteSat x (List.mem_singleton.2 rfl) f i (by simpa using h)

/-- Keys of the figures and flags of a core's last sample, in the order they are shown (02 R111). -/
def figureKeys (c : CoreId) : List Nat :=
  [SC_CYC_LAST.key c.val, SC_CYC_PEAK.key c.val, SC_STALL_LAST.key c.val, SC_STALL_TOTAL.key c.val, SC_STALL_PEAK.key c.val,
   SC_SAT_CNT.key c.val, SC_STWR_LAST.key c.val, SC_STATUS_LATE.key c.val, SC_STATUS_FAULT.key c.val]

theorem figureKeys_nodup : ∀ c, (figureKeys c).Nodup := by decide

/-- The figures of sample `x` of core `c`, shown at its end: cycles, stalls, saturation and state writes, and LATE and FAULT cleared
(02 R52, R54, R87, R111). -/
def State.showFigures (s : State) (c : CoreId) (x : Sample) : State :=
  let cyc := min 65535 (x.off + x.len + 64 + x.stalls)
  let s := (s.put SC_CYC_LAST c.val cyc).put SC_CYC_PEAK c.val (max (s.reg SC_CYC_PEAK c.val) cyc)
  let s := ((s.put SC_STALL_LAST c.val (min 65535 x.stalls)).noteStalls c x.stalls).noteSat c x
  let s := s.put SC_STWR_LAST c.val (min 8191 x.writes)
  (s.putFlag SC_STATUS_LATE c.val false).putFlag SC_STATUS_FAULT c.val false

@[simp] theorem showFigures_cores (s : State) (c : CoreId) (x : Sample) : (s.showFigures c x).cores = s.cores := by
  simp [State.showFigures]

@[simp] theorem showFigures_banks (s : State) (c : CoreId) (x : Sample) : (s.showFigures c x).banks = s.banks := by
  simp [State.showFigures]

theorem showFigures_regsBut (s : State) (c : CoreId) (x : Sample) : s.RegsBut (s.showFigures c x) (figureKeys c) := by
  unfold State.showFigures State.noteStalls
  simp only [State.count_eq, State.putFlag_eq]
  refine State.RegsBut.put (.put (.put (.noteSat (.put (.put (.put (.put (.put (.refl _ _) _ ?_) _ ?_) _ ?_) _ ?_) _ ?_) _ ?_) _ ?_) _ ?_) _ ?_
  all_goals simp [figureKeys]

/-- A figure cut off at a limit that its field holds is shown whole. -/
theorem min_mod_width {k w : Nat} (n : Nat) (h : k < 2 ^ w) : min k n % 2 ^ w = min k n :=
  Nat.mod_eq_of_lt (Nat.lt_of_le_of_lt (Nat.min_le_left k n) h)

theorem showFigures_values (s : State) (c : CoreId) (x : Sample) :
    (s.showFigures c x).reg SC_CYC_LAST c.val = min 65535 (x.off + x.len + 64 + x.stalls)
      ∧ (s.showFigures c x).reg SC_STALL_LAST c.val = min 65535 x.stalls
      ∧ (s.showFigures c x).reg SC_STWR_LAST c.val = min 8191 x.writes
      ∧ (s.showFigures c x).flag SC_STATUS_LATE c.val = false ∧ (s.showFigures c x).flag SC_STATUS_FAULT c.val = false := by
  have hk := figureKeys_nodup c
  simp only [figureKeys, List.nodup_cons, List.mem_cons, List.not_mem_nil, or_false, not_or] at hk
  have hcyc : 65535 < 2 ^ SC_CYC_LAST.width := by decide
  have hstall : 65535 < 2 ^ SC_STALL_LAST.width := by decide
  have hstwr : 8191 < 2 ^ SC_STWR_LAST.width := by decide
  simp only [State.showFigures, State.noteStalls, State.flag, State.count_eq, State.putFlag_eq, reg_put_same, reg_put_other,
    reg_noteSat_other, hk, min_mod_width _ hcyc, min_mod_width _ hstall, min_mod_width _ hstwr, ne_eq, not_false_eq_true, and_self,
    Bool.false_eq_true, if_false, Nat.zero_mod, bne_self_eq_false]

/-! ### A core and its spare (02 R96, R97) -/

theorem isActive_congr {s t : State} (h : ∀ g : GroupId, t.reg SE_RG_STATUS_ACTIVE g.val = s.reg SE_RG_STATUS_ACTIVE g.val) (c : CoreId) :
    t.isActive c = s.isActive c := by
  simp only [State.isActive, State.maskBit, h]

/-- Who the spare of a core is depends on ACTIVE, ROLE, PRIMARY and the quarantine mask alone. -/
theorem withSpare_congr {s t : State} (hactive : ∀ g : GroupId, t.reg SE_RG_STATUS_ACTIVE g.val = s.reg SE_RG_STATUS_ACTIVE g.val)
    (hrole : ∀ d : CoreId, t.reg SC_CFG_ROLE d.val = s.reg SC_CFG_ROLE d.val)
    (hprimary : ∀ d : CoreId, t.reg SC_CFG_PRIMARY d.val = s.reg SC_CFG_PRIMARY d.val) (hquar : t.reg SE_QUAR = s.reg SE_QUAR) (c : CoreId) :
    t.withSpare c = s.withSpare c := by
  simp only [State.withSpare, State.spareOf, isActive_congr hactive, hrole, hprimary, State.maskBit, hquar]

/-- A core is not its own spare: a spare is no active member. -/
theorem withSpare_nodup (s : State) (c : CoreId) : (s.withSpare c).Nodup := by
  unfold State.withSpare
  split
  case h_2 => exact List.pairwise_singleton _ c
  case h_1 d hd =>
    unfold State.spareOf at hd
    split at hd
    case isFalse => cases hd
    case isTrue hactive =>
      have hspare := List.find?_some hd
      have hne : c ≠ d := by
        rintro rfl
        simp [hactive] at hspare
      simp [hne]

theorem mem_withSpare_self (s : State) (c : CoreId) : c ∈ s.withSpare c := by
  unfold State.withSpare
  split <;> simp

/-! ### The sample that ends -/

theorem core_ok {s : State} (h : s.ok = true) (c : CoreId) : (s.core c).ok = true := by
  simp only [State.ok, Bool.and_eq_true, List.all_eq_true] at h
  obtain ⟨⟨⟨⟨-, -⟩, hcores⟩, -⟩, -⟩ := h
  exact hcores c (List.mem_finRange c)

theorem state_wf_of_ok {s : State} (h : s.ok = true) (c : CoreId) : memWf 0 (s.core c).state = true := by
  have hc := core_ok h c
  simp only [Core.ok, Bool.and_eq_true] at hc
  obtain ⟨⟨hstate, -⟩, -⟩ := hc
  exact hstate

theorem commit_wf_of_ok {s : State} (h : s.ok = true) {c : CoreId} {x : Sample} (hx : (s.core c).run = some x) : tabWf x.commit = true := by
  have hc := core_ok h c
  simp only [Core.ok, hx, Bool.and_eq_true] at hc
  obtain ⟨-, -, hcommit⟩ := hc
  exact hcommit

@[simp] theorem moveTo_off (x : Sample) (j : Nat) : (moveTo x j).off = x.off := by unfold moveTo; split <;> rfl
@[simp] theorem moveTo_len (x : Sample) (j : Nat) : (moveTo x j).len = x.len := by unfold moveTo; split <;> rfl
@[simp] theorem moveTo_stalls (x : Sample) (j : Nat) : (moveTo x j).stalls = x.stalls := by unfold moveTo; split <;> rfl
@[simp] theorem moveTo_writes (x : Sample) (j : Nat) : (moveTo x j).writes = x.writes := by unfold moveTo; split <;> rfl
@[simp] theorem moveTo_commit (x : Sample) (j : Nat) : (moveTo x j).commit = x.commit := by unfold moveTo; split <;> rfl

/-- The sample at its end: every bundle has issued, and the stalls of its end phase are added. -/
def Sample.ended (x : Sample) (n : Nat) : Sample := addStalls (moveTo x (x.len - 1)) n

@[simp] theorem ended_off (x : Sample) (n : Nat) : (x.ended n).off = x.off := moveTo_off x _
@[simp] theorem ended_len (x : Sample) (n : Nat) : (x.ended n).len = x.len := moveTo_len x _
@[simp] theorem ended_stalls (x : Sample) (n : Nat) : (x.ended n).stalls = x.stalls + n := by simp [Sample.ended, addStalls]
@[simp] theorem ended_writes (x : Sample) (n : Nat) : (x.ended n).writes = x.writes := moveTo_writes x _
@[simp] theorem ended_commit (x : Sample) (n : Nat) : (x.ended n).commit = x.commit := moveTo_commit x _

/-- The state with the figures of a sample that ends. -/
def State.endShown (s : State) (c : CoreId) (x : Sample) : State := (s.putSample c x).showFigures c x

/-- The state after the end of sample `x` of core `c`: its figures are shown, the core and its spare take its state writes, and no sample is
under way (02 R52, R56, R98). -/
def State.endSample (s : State) (c : CoreId) (x : Sample) : State :=
  let t := s.endShown c x
  let u := t.commitTo (t.withSpare c) x.commit
  u.setCore c { u.core c with run := none }

/-- A sample under way that has issued everything, waits for nothing and has no fault completes (01 R18; 02 R58). -/
theorem sampleComplete_eq {s : State} {c : CoreId} {x : Sample} (n : Nat) (hx : (s.core c).run = some x) (hdead : x.dead = false)
    (hsecond : x.second = none) (hdone : partDone (s.core c) x = true) (hreads : ∀ r ∈ x.reads, x.len ≤ r.due)
    (hwaiting : (s.core c).waiting = none) (hxbar : (s.core c).xbarFail = false) (hlanded : s.writesLanded c = true) :
    s.sampleComplete c n none = s.endSample c (x.ended n) := by
  have hlate : x.reads.any (fun r => decide (r.due < x.len)) = false := by simpa using hreads
  simp only [State.sampleComplete, hx, hdead, hsecond, hdone, hlate, hwaiting, hxbar, hlanded]
  rfl

/-- Keys of the registers that the end of a sample of core `c` writes. -/
def endKeys (c : CoreId) : List Nat := SC_SAT_OUT_SAT.key c.val :: SC_SAT_ACC_SAT.key c.val :: figureKeys c

theorem endShown_regsBut (s : State) (c : CoreId) (x : Sample) : s.RegsBut (s.endShown c x) (endKeys c) := by
  intro f k hk
  simp only [endKeys, List.mem_cons, not_or] at hk
  obtain ⟨hout, hacc, hfig⟩ := hk
  obtain ⟨-, -, -, hsat⟩ := putSample_only s c x
  exact (showFigures_regsBut _ c x f k hfig).trans (hsat f k (by simp [hout, hacc]))

theorem endShown_withSpare (s : State) (c : CoreId) (x : Sample) : (s.endShown c x).withSpare c = s.withSpare c := by
  have hactive : ∀ (c : CoreId) (g : GroupId), SE_RG_STATUS_ACTIVE.key g.val ∉ endKeys c := by decide
  have hrole : ∀ c d : CoreId, SC_CFG_ROLE.key d.val ∉ endKeys c := by decide
  have hprimary : ∀ c d : CoreId, SC_CFG_PRIMARY.key d.val ∉ endKeys c := by decide
  have hquar : ∀ c : CoreId, SE_QUAR.key 0 ∉ endKeys c := by decide
  have h := endShown_regsBut s c x
  exact withSpare_congr (fun g => h _ _ (hactive c g)) (fun d => h _ _ (hrole c d)) (fun d => h _ _ (hprimary c d)) (h _ _ (hquar c)) c

theorem endShown_core (s : State) (c : CoreId) (x : Sample) (d : CoreId) : (s.endShown c x).core d = (s.putSample c x).core d := by
  simp [State.core, State.endShown]

theorem endShown_banks (s : State) (c : CoreId) (x : Sample) : (s.endShown c x).banks = s.banks := by
  obtain ⟨-, -, h, -⟩ := putSample_only s c x
  rw [State.endShown, showFigures_banks, ← congrArg State.banks h]

theorem endSample_run (s : State) (c : CoreId) (x : Sample) : ((s.endSample c x).core c).run = none := by
  simp [State.endSample]

/-- The core and its spare hold the buffered writes. -/
theorem endSample_state (s : State) (c : CoreId) (x : Sample) {d : CoreId} (hd : d ∈ s.withSpare c) :
    ((s.endSample c x).core d).state = commitState (s.core d).state x.commit := by
  obtain ⟨hself, hothers, -, -⟩ := putSample_only s c x
  have hkept : ((s.endShown c x).core d).state = (s.core d).state := by
    rw [endShown_core]
    by_cases hdc : d = c
    · rw [hdc, hself]
    · rw [hothers d hdc]
  have htaken : (((s.endShown c x).commitTo ((s.endShown c x).withSpare c) x.commit).core d).state = commitState (s.core d).state x.commit := by
    rw [endShown_withSpare, commitTo_core_of_mem _ _ _ (withSpare_nodup s c) hd, hkept]
  rw [← htaken, State.endSample]
  by_cases hdc : d = c
  · rw [hdc, core_setCore_same]
  · rw [core_setCore_other _ _ hdc]

theorem endSample_core_other (s : State) (c : CoreId) (x : Sample) {d : CoreId} (hd : d ∉ s.withSpare c) :
    (s.endSample c x).core d = s.core d := by
  have hdc : d ≠ c := fun e => hd (e ▸ mem_withSpare_self s c)
  obtain ⟨-, hothers, -, -⟩ := putSample_only s c x
  rw [State.endSample, core_setCore_other _ _ hdc, endShown_withSpare, commitTo_core_of_not_mem _ _ _ hd, endShown_core, hothers d hdc]

theorem endSample_banks (s : State) (c : CoreId) (x : Sample) : (s.endSample c x).banks = s.banks := by
  rw [State.endSample, State.setCore_banks, commitTo_banks, endShown_banks]

theorem endSample_reg (s : State) (c : CoreId) (x : Sample) (f : Field) (i : Nat) :
    (s.endSample c x).reg f i = ((s.putSample c x).showFigures c x).reg f i := by
  rw [State.endSample, reg_setCore, reg_of_regs (commitTo_regs _ _ _)]
  rfl

/-! ## A sample begins at its tick and completes -/

theorem atTick_of_due {s : State} {g : GroupId} {n : Nat} (h : s.dueTick g = some n) (f : Nat → State → State) : s.atTick g f = f n s := by
  simp [State.atTick, h]

theorem atTick_of_not_due {s : State} {g : GroupId} (h : s.dueTick g = none) (f : Nat → State → State) : s.atTick g f = s := by
  simp [State.atTick, h]

theorem exec_sampleTick (s : State) (g : GroupId) (fails : List (CoreId × CheckFail)) :
    exec (.sampleTick g fails) s = .next (s.atTick g fun n s => s.sampleTick g n fails) := rfl

theorem exec_sampleComplete (s : State) (c : CoreId) (n : Nat) (e : Option Half) :
    exec (.sampleComplete c n e) s = .next (s.sampleComplete c n e) := rfl

/-- A due tick begins: its group records its index and time, and the clock stands (01 R26; 02 R49, R109). -/
theorem sampleTick_begins {s : State} {g : GroupId} {n : Nat} (hdue : s.dueTick g = some n) (fails : List (CoreId × CheckFail)) :
    ∃ t, exec (.sampleTick g fails) s = .next t ∧ (t.group g).begun = true ∧ (t.group g).n = n
      ∧ (t.group g).tickTim = s.tim ∧ (t.group g).tickCycle = s.cycles ∧ (t.group g).marks = [] ∧ t.tim = s.tim ∧ t.cycles = s.cycles
      ∧ t.pending = s.pending := by
  obtain ⟨hclock, htick⟩ := sampleTick_records s g n fails
  refine ⟨s.sampleTick g n fails, ?_, congrArg TickRecord.begun htick, congrArg TickRecord.n htick, congrArg TickRecord.tickTim htick,
    congrArg TickRecord.tickCycle htick, congrArg TickRecord.marks htick, congrArg Clock.tim hclock, congrArg Clock.cycles hclock,
    congrArg Clock.pending hclock⟩
  rw [exec_sampleTick, atTick_of_due hdue]

/-- A sample that has issued everything completes: the core and its spare take its state writes, and its figures are shown (02 R52 to R58,
R98, R111). -/
theorem sampleComplete_completes {s : State} {c : CoreId} {x : Sample} (n : Nat) (hok : s.ok = true) (hx : (s.core c).run = some x)
    (hdead : x.dead = false) (hsecond : x.second = none) (hdone : partDone (s.core c) x = true) (hreads : ∀ r ∈ x.reads, x.len ≤ r.due)
    (hwaiting : (s.core c).waiting = none) (hxbar : (s.core c).xbarFail = false) (hlanded : s.writesLanded c = true) :
    ∃ t, exec (.sampleComplete c n none) s = .next t ∧ (t.core c).run = none
      ∧ (∀ d ∈ s.withSpare c, ∀ a, memWord (t.core d).state a = (tabGet? a x.commit).getD (memWord (s.core d).state a))
      ∧ (∀ d, d ∉ s.withSpare c → t.core d = s.core d) ∧ s.StoresNothing t
      ∧ t.reg SC_CYC_LAST c.val = min 65535 (x.off + x.len + 64 + (x.stalls + n)) ∧ t.reg SC_STALL_LAST c.val = min 65535 (x.stalls + n)
      ∧ t.reg SC_STWR_LAST c.val = min 8191 x.writes ∧ t.flag SC_STATUS_LATE c.val = false ∧ t.flag SC_STATUS_FAULT c.val = false := by
  obtain ⟨hcyc, hstall, hstwr, hlate, hfault⟩ := showFigures_values (s.putSample c (x.ended n)) c (x.ended n)
  simp only [ended_off, ended_len, ended_stalls, ended_writes] at hcyc hstall hstwr
  refine ⟨s.endSample c (x.ended n), ?_, endSample_run _ _ _, ?_, fun d hd => endSample_core_other _ _ _ hd, ?_,
    (endSample_reg _ _ _ _ _).trans hcyc, (endSample_reg _ _ _ _ _).trans hstall, (endSample_reg _ _ _ _ _).trans hstwr, ?_, ?_⟩
  · rw [exec_sampleComplete, sampleComplete_eq n hx hdead hsecond hdone hreads hwaiting hxbar hlanded]
  · intro d hd a
    rw [endSample_state s c _ hd, ended_commit, memWord_commitState _ _ (state_wf_of_ok hok d) (commit_wf_of_ok hok hx)]
  · intro b a
    simp [State.bank, endSample_banks]
  · rwa [State.flag, endSample_reg]
  · rwa [State.flag, endSample_reg]

/-- Settles O19: a tick keeps the clock and records itself in its group; the end of a sample is its commit, its figures and an idle core. -/
theorem samplesBeginAndComplete : Obligations.SamplesBeginAndComplete := by
  refine ⟨fun s g fails => ⟨fun hdue => ?_, fun n hdue => sampleTick_begins hdue fails⟩, ?_⟩
  · rw [exec_sampleTick, atTick_of_not_due hdue]
  · intro s c x n hok hx hdead hsecond hdone hreads hwaiting hxbar hlanded
    exact sampleComplete_completes n hok hx hdead hsecond hdone hreads hwaiting hxbar hlanded

end Sys2Proof.Machine
end
